-- ==== Sys2Proof/Word.lean ====
section
/-! DEFINITION. The byte of the links, the fixed sizes of the part (four pumps, two screens, two weirs, two links), and
tables held once per unit. -/

namespace Sys2Proof

/-- One byte on a link (R170). -/
abbrev Byte := BitVec 8

/-- A number from 1 to 4: pumps, duty positions, alarm outputs, and the four level channels. -/
inductive No4 where
  | n1 | n2 | n3 | n4
  deriving DecidableEq, Repr, Inhabited

/-- A number from 1 to 2: screens and overflow points. -/
inductive No2 where
  | n1 | n2
  deriving DecidableEq, Repr, Inhabited

/-- The two links of Chapter 10. -/
inductive Link where
  | panel | telemetry
  deriving DecidableEq, Repr, Inhabited

/-- Pumps are numbered 1 to 4 ("Numbering and naming", 00_scope.md). -/
abbrev Pump := No4
/-- Screens are numbered 1 to 2. -/
abbrev Screen := No2
/-- Overflow points are numbered 1 to 2. -/
abbrev Point := No2

namespace No4

def toNat : No4 → Nat
  | n1 => 1 | n2 => 2 | n3 => 3 | n4 => 4

/-- All four in number order. -/
def all : List No4 := [n1, n2, n3, n4]

def ofNat? : Nat → Option No4
  | 1 => some n1 | 2 => some n2 | 3 => some n3 | 4 => some n4 | _ => none

end No4

namespace No2

def toNat : No2 → Nat
  | n1 => 1 | n2 => 2

def all : List No2 := [n1, n2]

def ofNat? : Nat → Option No2
  | 1 => some n1 | 2 => some n2 | _ => none

/-- The other screen (R95). -/
def other : No2 → No2
  | n1 => n2 | n2 => n1

end No2

namespace Link

def other : Link → Link
  | panel => telemetry | telemetry => panel

/-- The record layout's numbering of a link: 1 PANEL, 2 TELEMETRY (section 9.6). -/
def toNat : Link → Nat
  | panel => 1 | telemetry => 2

end Link

/-- One value for each of four numbered units. -/
structure Quad (α : Type) where
  v1 : α
  v2 : α
  v3 : α
  v4 : α
  deriving DecidableEq, Repr

/-- One value for each of two numbered units. -/
structure Duo (α : Type) where
  v1 : α
  v2 : α
  deriving DecidableEq, Repr

/-- One value for each link. -/
structure PerLink (α : Type) where
  panel : α
  telemetry : α
  deriving DecidableEq, Repr

namespace Quad
variable {α : Type}

def fill (x : α) : Quad α := ⟨x, x, x, x⟩

def get (q : Quad α) : No4 → α
  | .n1 => q.v1 | .n2 => q.v2 | .n3 => q.v3 | .n4 => q.v4

def set (q : Quad α) (i : No4) (x : α) : Quad α :=
  match i with
  | .n1 => { q with v1 := x }
  | .n2 => { q with v2 := x }
  | .n3 => { q with v3 := x }
  | .n4 => { q with v4 := x }

def modify (q : Quad α) (i : No4) (f : α → α) : Quad α := q.set i (f (q.get i))

@[simp] theorem get_set_self (q : Quad α) (i : No4) (x : α) : (q.set i x).get i = x := by
  cases i <;> rfl

@[simp] theorem get_set_ne (q : Quad α) {i j : No4} (x : α) (h : j ≠ i) : (q.set i x).get j = q.get j := by
  cases i <;> cases j <;> first | rfl | exact absurd rfl h

@[simp] theorem get_fill (x : α) (i : No4) : (fill x).get i = x := by cases i <;> rfl

@[simp] theorem get_modify_self (q : Quad α) (i : No4) (f : α → α) : (q.modify i f).get i = f (q.get i) := by
  simp [modify]

@[simp] theorem get_modify_ne (q : Quad α) {i j : No4} (f : α → α) (h : j ≠ i) :
    (q.modify i f).get j = q.get j := by
  simp [modify, h]

end Quad

namespace Duo
variable {α : Type}

def fill (x : α) : Duo α := ⟨x, x⟩

def get (q : Duo α) : No2 → α
  | .n1 => q.v1 | .n2 => q.v2

def set (q : Duo α) (i : No2) (x : α) : Duo α :=
  match i with
  | .n1 => { q with v1 := x }
  | .n2 => { q with v2 := x }

def modify (q : Duo α) (i : No2) (f : α → α) : Duo α := q.set i (f (q.get i))

@[simp] theorem get_set_self (q : Duo α) (i : No2) (x : α) : (q.set i x).get i = x := by
  cases i <;> rfl

@[simp] theorem get_set_ne (q : Duo α) {i j : No2} (x : α) (h : j ≠ i) : (q.set i x).get j = q.get j := by
  cases i <;> cases j <;> first | rfl | exact absurd rfl h

@[simp] theorem get_fill (x : α) (i : No2) : (fill x).get i = x := by cases i <;> rfl

@[simp] theorem get_modify_self (q : Duo α) (i : No2) (f : α → α) : (q.modify i f).get i = f (q.get i) := by
  simp [modify]

@[simp] theorem get_modify_ne (q : Duo α) {i j : No2} (f : α → α) (h : j ≠ i) :
    (q.modify i f).get j = q.get j := by
  simp [modify, h]

end Duo

namespace PerLink
variable {α : Type}

def fill (x : α) : PerLink α := ⟨x, x⟩

def get (q : PerLink α) : Link → α
  | .panel => q.panel | .telemetry => q.telemetry

def set (q : PerLink α) (l : Link) (x : α) : PerLink α :=
  match l with
  | .panel => { q with panel := x }
  | .telemetry => { q with telemetry := x }

def modify (q : PerLink α) (l : Link) (f : α → α) : PerLink α := q.set l (f (q.get l))

/-- The same change on both links. -/
def mapBoth (q : PerLink α) (f : α → α) : PerLink α := ⟨f q.panel, f q.telemetry⟩

@[simp] theorem get_set_self (q : PerLink α) (l : Link) (x : α) : (q.set l x).get l = x := by
  cases l <;> rfl

@[simp] theorem get_set_ne (q : PerLink α) {l k : Link} (x : α) (h : k ≠ l) : (q.set l x).get k = q.get k := by
  cases l <;> cases k <;> first | rfl | exact absurd rfl h

@[simp] theorem get_fill (x : α) (l : Link) : (fill x).get l = x := by cases l <;> rfl

@[simp] theorem get_modify_self (q : PerLink α) (l : Link) (f : α → α) : (q.modify l f).get l = f (q.get l) := by
  simp [modify]

@[simp] theorem get_modify_ne (q : PerLink α) {l k : Link} (f : α → α) (h : k ≠ l) :
    (q.modify l f).get k = q.get k := by
  simp [modify, h]

@[simp] theorem get_mapBoth (q : PerLink α) (f : α → α) (l : Link) : (q.mapBoth f).get l = f (q.get l) := by
  cases l <;> rfl

end PerLink

end Sys2Proof
end

