-- ==== Sys2Proof/Syntax.lean ====
section
/-! DEFINITION. The commands of the part: one constructor per row of spec/opcode_table.json, with the row's operands.
A request row carries the link its frame arrives on and the frame's PAYLOAD bytes (section 10.1), so that every length
and every parameter value a frame can hold is a command. An input-change row carries the input's new level. -/

namespace Sys2Proof

/-- The eight analog channels (section 1.1): 0 WELL_PRI, 1 WELL_SEC, 2 INLET, 3 SCREEN_OUT, 4 to 7 CUR1 to CUR4. -/
inductive Channel where
  | wellPri | wellSec | inlet | screenOut
  | cur (p : Pump)
  deriving DecidableEq, Repr

/-- The three float switches (section 1.4). -/
inductive FloatSwitch where
  | lowLow | high | highHigh
  deriving DecidableEq, Repr

/-- The two contacts of a pump's selector switch (section 4.1). -/
inductive HoaContact where
  | auto | hand
  deriving DecidableEq, Repr

/-- The five trip conditions (section 4.3). -/
inductive FaultCond where
  | failToStart | runLost | overtemp | overcurrent | undercurrent
  deriving DecidableEq, Repr

/-- The commands (spec/opcode_table.json), in the table's order. -/
inductive Instr where
  | sample (ch : Channel) (counts : BitVec 12)
  | checkTimerExpiry (ch : Channel)
  | disagreeTimerExpiry
  | floatChange (f : FloatSwitch) (active : Bool)
  | floatCheckTimerExpiry
  | minRunExpiry (p : Pump)
  | minOffExpiry (p : Pump)
  | startHistoryAgeOut (p : Pump)
  | rampStep (p : Pump)
  | speedRefPeriodEnd (p : Pump)
  | pumpCommand (l : Link) (payload : List Byte)
  | setRotation (l : Link) (payload : List Byte)
  | readPumps (l : Link) (payload : List Byte)
  | spacingTimerExpiry
  | readPermit (l : Link) (payload : List Byte)
  | hoaChange (p : Pump) (c : HoaContact) (active : Bool)
  | runFbChange (p : Pump) (active : Bool)
  | overtempChange (p : Pump) (active : Bool)
  | faultTimerExpiry (p : Pump) (c : FaultCond)
  | undercurrentArm (p : Pump)
  | restTimerExpiry (p : Pump)
  | forgiveTimerExpiry (p : Pump)
  | sealLeakChange (p : Pump) (active : Bool)
  | sealTimerExpiry (p : Pump)
  | stopWatchExpiry (p : Pump)
  | uncommandedWatchExpiry (p : Pump)
  | clearLockout (l : Link) (payload : List Byte)
  | readProtection (l : Link) (payload : List Byte)
  | intervalTimerExpiry (sc : Screen)
  | rakeRequest (l : Link) (payload : List Byte)
  | rakeHomeChange (sc : Screen) (active : Bool)
  | homeLeaveTimerExpiry (sc : Screen)
  | cycleTimerExpiry (sc : Screen)
  | rakeTorqueChange (sc : Screen) (active : Bool)
  | rakeThermalChange (sc : Screen) (active : Bool)
  | reverseTimerExpiry (sc : Screen)
  | rakeReset (l : Link) (payload : List Byte)
  | blindingTimerExpiry
  | readScreens (l : Link) (payload : List Byte)
  | confirmTimerExpiry (pt : Point)
  | endTimerExpiry (pt : Point)
  | levelLossTimerExpiry (pt : Point)
  | readOverflow (l : Link) (payload : List Byte)
  | accrualSecond
  | flowPulse
  | meterRateTimeout
  | silenceTimerExpiry
  | intervalClose
  | readBalance (l : Link) (payload : List Byte)
  | ackAlarm (l : Link) (payload : List Byte)
  | ackIn (active : Bool)
  | readAlarms (l : Link) (payload : List Byte)
  | readChanges (l : Link) (payload : List Byte)
  | readEvents (l : Link) (payload : List Byte)
  | releaseEvents (l : Link) (payload : List Byte)
  | clockSecond
  | setClock (l : Link) (payload : List Byte)
  | readClock (l : Link) (payload : List Byte)
  | readSummary (l : Link) (payload : List Byte)
  | readLevels (l : Link) (payload : List Byte)
  | gapTimerExpiry (l : Link)
  | frameDiscarded (l : Link)
  | unknownRequest (l : Link) (code : Byte) (payload : List Byte)
  | answerSent (l : Link)
  | claimSeat (l : Link) (payload : List Byte)
  | releaseSeat (l : Link) (payload : List Byte)
  | readSeat (l : Link) (payload : List Byte)
  | holdTimerExpiry
  | localKeyChange (active : Bool)
  | writeSetting (l : Link) (payload : List Byte)
  | writeTable (l : Link) (payload : List Byte)
  | writeTableEnd (l : Link)
  | saveSettings (l : Link) (payload : List Byte)
  | saveEnd
  | readSetting (l : Link) (payload : List Byte)
  | readTable (l : Link) (payload : List Byte)
  | onGeneratorChange (active : Bool)
  | hold
  | start
  | backupSupplyLoss
  | byteReceived (l : Link) (b : Byte)
  deriving DecidableEq, Repr

end Sys2Proof
end

