-- ==== Sys2Proof/Decode.lean ====
section
/-! DEFINITION. The command a table word spells. No row of spec/opcode_table.json carries bits (each row's "fields" is
empty and none has "fixed"), so no word spells a command; commands reach the part as events and as the bytes of frames
(Machine/Links.lean reads those). -/

namespace Sys2Proof

/-- The command that a word spells by the table's bits: none, since the table gives no row any bits. -/
def decodeTableWord (_nbits _w : Nat) : Option Instr := none

end Sys2Proof
end

