-- ==== Sys2Proof/Config.lean ====
section
/-! DEFINITION. What the spec leaves open and the model leaves free: constants with no body, so that nothing in Lean can
evaluate them and a claim holds whatever they are (log entries 11, 12 and 13). -/

namespace Sys2Proof

/-- The counts whose stated width can be passed and for which the spec states no value after that. -/
inductive Counter where
  /-- R126: the pulse count, 0 to 4,294,967,295. -/
  | pulses
  /-- R115: an episode's age, 0 to 4,294,967,295. -/
  | age
  /-- R116: a spill count, a spill total of the day or a volume, 64 bits. -/
  | spill
  /-- R128: the pumped accumulator, 64 bits. -/
  | pumped
  deriving DecidableEq, Repr

/-- FREE VALUE (log entry 12): what a count holds after an addition that passes its stated width. -/
opaque Config.countPastEnd : Counter → Nat → Nat

/-- FREE VALUE (log entry 11): what an answer carries for a figure too wide for its field. -/
opaque Config.wideFigure : Nat → Nat → Nat

/-- FREE VALUE (log entry 13): whether a year after 2099 is a leap year. R161 states the leap years of 2000 to 2099. -/
opaque Config.leapAfter2099 : Nat → Bool

end Sys2Proof
end

