-- ==== Sys2Proof/Machine/Image.lean ====
section
/-! DEFINITION. The settings (section 11.1): the image that holds them, and the catalogue of identifiers, ranges, defaults
and constraints. An image holds every value as the whole number the catalogue gives; a flag is 0 or 1. -/

namespace Sys2Proof.Machine

/-- One point of a table: its key (level or head in mm) and its value (litres or dL/s). -/
structure TablePoint where
  key : Nat
  value : Nat
  deriving DecidableEq, Repr


/-- The settings of block 00 of the catalogue: the installed counts. -/
structure UnitSettings where
  pumpsInstalled : Nat
  screensInstalled : Nat
  pointsInstalled : Nat
  deriving DecidableEq, Repr

/-- The settings of block 01 of the catalogue: Chapter 1. -/
structure LevelSettings where
  zeroMm : Quad Nat
  spanMm : Quad Nat
  curSpan : Quad Nat
  wellDepth : Nat
  initLimit : Nat
  disagreeMm : Nat
  disagreeS : Nat
  hhFloat : Nat
  llFloat : Nat
  floatTol : Nat
  highAlarm : Nat
  deriving DecidableEq, Repr

/-- The settings of block 02 of the catalogue: Chapter 2. -/
structure DutySettings where
  startLevel : Quad Nat
  stopLevel : Quad Nat
  minRunS : Nat
  minOffS : Nat
  startsPerHour : Nat
  maxRunning : Nat
  genMaxRunning : Nat
  blindedMaxPumps : Nat
  speedDelta : Nat
  speedHys : Nat
  minSpeed : Nat
  midSpeed : Nat
  rampPct : Nat
  hasDrive : Quad Nat
  deriving DecidableEq, Repr

/-- The settings of block 03 of the catalogue: Chapter 3. -/
structure PermitSettings where
  startSpacing : Nat
  genSpacing : Nat
  deriving DecidableEq, Repr

/-- The settings of block 04 of the catalogue: Chapter 4. -/
structure ProtectionSettings where
  startConfirmS : Nat
  runLostS : Nat
  overtempS : Nat
  ocS : Nat
  ucS : Nat
  stopConfirmS : Nat
  tripRestS : Nat
  tripForgiveS : Nat
  lockoutTrips : Nat
  ocLimit : Quad Nat
  ucLimit : Quad Nat
  deriving DecidableEq, Repr

/-- The settings of block 05 of the catalogue: Chapter 5. -/
structure ScreenSettings where
  rakeStart : Nat
  rakeIntervalMin : Nat
  homeLeaveS : Nat
  cycleMaxS : Nat
  reverseS : Nat
  jamRetries : Nat
  blindMm : Nat
  blindS : Nat
  deriving DecidableEq, Repr

/-- The settings of block 06 of the catalogue: Chapter 6. -/
structure OverflowSettings where
  crest : Duo Nat
  startHead : Nat
  endHead : Nat
  ovfConfirmS : Nat
  endConfirmS : Nat
  deriving DecidableEq, Repr

/-- The settings of block 07 of the catalogue: Chapter 7. -/
structure FlowSettings where
  pulseLitres : Nat
  meterSilenceS : Nat
  trendBand : Nat
  predictWarnS : Nat
  ratedFlow : Quad Nat
  deriving DecidableEq, Repr

/-- The settings of block 08 of the catalogue: Chapter 8. -/
structure AlarmSettings where
  route : Vector Nat 24
  outMode : Quad Nat
  deriving DecidableEq, Repr

/-- The settings of block 09 of the catalogue: Chapter 10. -/
structure SeatSettings where
  seatHoldS : Nat
  deriving DecidableEq, Repr

/-- One image of the settings and the three tables (section 11.1), grouped as the identifiers' high bytes group them. Field
names follow the setting names. `zeroMm` and `spanMm` are held by channel number plus one; `crest` holds `crest1_mm` and
`crest2_mm`; `route` holds the kinds 1 to 24. -/
structure Image where
  units : UnitSettings
  level : LevelSettings
  duty : DutySettings
  permit : PermitSettings
  prot : ProtectionSettings
  screen : ScreenSettings
  ovf : OverflowSettings
  flow : FlowSettings
  alarm : AlarmSettings
  seat : SeatSettings
  /-- Table 0, the stage-storage table (section 7.2). -/
  storage : List TablePoint
  /-- Tables 1 and 2, the rating tables of the points (section 6.1). -/
  rating : Duo (List TablePoint)
  deriving DecidableEq, Repr

/-- The settings of the catalogue. -/
inductive Setting where
  | pumpsInstalled
  | screensInstalled
  | pointsInstalled
  | zeroMm (c : No4)
  | spanMm (c : No4)
  | curSpan (k : No4)
  | wellDepth
  | initLimit
  | disagreeMm
  | disagreeS
  | hhFloat
  | llFloat
  | floatTol
  | highAlarm
  | startLevel (k : No4)
  | stopLevel (k : No4)
  | minRunS
  | minOffS
  | startsPerHour
  | maxRunning
  | genMaxRunning
  | blindedMaxPumps
  | speedDelta
  | speedHys
  | minSpeed
  | midSpeed
  | rampPct
  | hasDrive (k : No4)
  | startSpacing
  | genSpacing
  | startConfirmS
  | runLostS
  | overtempS
  | ocS
  | ucS
  | stopConfirmS
  | tripRestS
  | tripForgiveS
  | lockoutTrips
  | ocLimit (k : No4)
  | ucLimit (k : No4)
  | rakeStart
  | rakeIntervalMin
  | homeLeaveS
  | cycleMaxS
  | reverseS
  | jamRetries
  | blindMm
  | blindS
  | crest (pt : Point)
  | startHead
  | endHead
  | ovfConfirmS
  | endConfirmS
  | pulseLitres
  | meterSilenceS
  | trendBand
  | predictWarnS
  | ratedFlow (k : No4)
  | route (j : Fin 24)
  | outMode (k : No4)
  | seatHoldS
  deriving DecidableEq, Repr

/-- The live value of a setting. -/
def Image.get (m : Image) : Setting → Nat
  | .pumpsInstalled => m.units.pumpsInstalled
  | .screensInstalled => m.units.screensInstalled
  | .pointsInstalled => m.units.pointsInstalled
  | .zeroMm i => m.level.zeroMm.get i
  | .spanMm i => m.level.spanMm.get i
  | .curSpan i => m.level.curSpan.get i
  | .wellDepth => m.level.wellDepth
  | .initLimit => m.level.initLimit
  | .disagreeMm => m.level.disagreeMm
  | .disagreeS => m.level.disagreeS
  | .hhFloat => m.level.hhFloat
  | .llFloat => m.level.llFloat
  | .floatTol => m.level.floatTol
  | .highAlarm => m.level.highAlarm
  | .startLevel i => m.duty.startLevel.get i
  | .stopLevel i => m.duty.stopLevel.get i
  | .minRunS => m.duty.minRunS
  | .minOffS => m.duty.minOffS
  | .startsPerHour => m.duty.startsPerHour
  | .maxRunning => m.duty.maxRunning
  | .genMaxRunning => m.duty.genMaxRunning
  | .blindedMaxPumps => m.duty.blindedMaxPumps
  | .speedDelta => m.duty.speedDelta
  | .speedHys => m.duty.speedHys
  | .minSpeed => m.duty.minSpeed
  | .midSpeed => m.duty.midSpeed
  | .rampPct => m.duty.rampPct
  | .hasDrive i => m.duty.hasDrive.get i
  | .startSpacing => m.permit.startSpacing
  | .genSpacing => m.permit.genSpacing
  | .startConfirmS => m.prot.startConfirmS
  | .runLostS => m.prot.runLostS
  | .overtempS => m.prot.overtempS
  | .ocS => m.prot.ocS
  | .ucS => m.prot.ucS
  | .stopConfirmS => m.prot.stopConfirmS
  | .tripRestS => m.prot.tripRestS
  | .tripForgiveS => m.prot.tripForgiveS
  | .lockoutTrips => m.prot.lockoutTrips
  | .ocLimit i => m.prot.ocLimit.get i
  | .ucLimit i => m.prot.ucLimit.get i
  | .rakeStart => m.screen.rakeStart
  | .rakeIntervalMin => m.screen.rakeIntervalMin
  | .homeLeaveS => m.screen.homeLeaveS
  | .cycleMaxS => m.screen.cycleMaxS
  | .reverseS => m.screen.reverseS
  | .jamRetries => m.screen.jamRetries
  | .blindMm => m.screen.blindMm
  | .blindS => m.screen.blindS
  | .crest i => m.ovf.crest.get i
  | .startHead => m.ovf.startHead
  | .endHead => m.ovf.endHead
  | .ovfConfirmS => m.ovf.ovfConfirmS
  | .endConfirmS => m.ovf.endConfirmS
  | .pulseLitres => m.flow.pulseLitres
  | .meterSilenceS => m.flow.meterSilenceS
  | .trendBand => m.flow.trendBand
  | .predictWarnS => m.flow.predictWarnS
  | .ratedFlow i => m.flow.ratedFlow.get i
  | .route j => m.alarm.route[j]
  | .outMode i => m.alarm.outMode.get i
  | .seatHoldS => m.seat.seatHoldS

/-- The image with one setting replaced. -/
def Image.put (m : Image) (x : Setting) (v : Nat) : Image :=
  match x with
  | .pumpsInstalled => { m with units := { m.units with pumpsInstalled := v } }
  | .screensInstalled => { m with units := { m.units with screensInstalled := v } }
  | .pointsInstalled => { m with units := { m.units with pointsInstalled := v } }
  | .zeroMm i => { m with level := { m.level with zeroMm := m.level.zeroMm.set i v } }
  | .spanMm i => { m with level := { m.level with spanMm := m.level.spanMm.set i v } }
  | .curSpan i => { m with level := { m.level with curSpan := m.level.curSpan.set i v } }
  | .wellDepth => { m with level := { m.level with wellDepth := v } }
  | .initLimit => { m with level := { m.level with initLimit := v } }
  | .disagreeMm => { m with level := { m.level with disagreeMm := v } }
  | .disagreeS => { m with level := { m.level with disagreeS := v } }
  | .hhFloat => { m with level := { m.level with hhFloat := v } }
  | .llFloat => { m with level := { m.level with llFloat := v } }
  | .floatTol => { m with level := { m.level with floatTol := v } }
  | .highAlarm => { m with level := { m.level with highAlarm := v } }
  | .startLevel i => { m with duty := { m.duty with startLevel := m.duty.startLevel.set i v } }
  | .stopLevel i => { m with duty := { m.duty with stopLevel := m.duty.stopLevel.set i v } }
  | .minRunS => { m with duty := { m.duty with minRunS := v } }
  | .minOffS => { m with duty := { m.duty with minOffS := v } }
  | .startsPerHour => { m with duty := { m.duty with startsPerHour := v } }
  | .maxRunning => { m with duty := { m.duty with maxRunning := v } }
  | .genMaxRunning => { m with duty := { m.duty with genMaxRunning := v } }
  | .blindedMaxPumps => { m with duty := { m.duty with blindedMaxPumps := v } }
  | .speedDelta => { m with duty := { m.duty with speedDelta := v } }
  | .speedHys => { m with duty := { m.duty with speedHys := v } }
  | .minSpeed => { m with duty := { m.duty with minSpeed := v } }
  | .midSpeed => { m with duty := { m.duty with midSpeed := v } }
  | .rampPct => { m with duty := { m.duty with rampPct := v } }
  | .hasDrive i => { m with duty := { m.duty with hasDrive := m.duty.hasDrive.set i v } }
  | .startSpacing => { m with permit := { m.permit with startSpacing := v } }
  | .genSpacing => { m with permit := { m.permit with genSpacing := v } }
  | .startConfirmS => { m with prot := { m.prot with startConfirmS := v } }
  | .runLostS => { m with prot := { m.prot with runLostS := v } }
  | .overtempS => { m with prot := { m.prot with overtempS := v } }
  | .ocS => { m with prot := { m.prot with ocS := v } }
  | .ucS => { m with prot := { m.prot with ucS := v } }
  | .stopConfirmS => { m with prot := { m.prot with stopConfirmS := v } }
  | .tripRestS => { m with prot := { m.prot with tripRestS := v } }
  | .tripForgiveS => { m with prot := { m.prot with tripForgiveS := v } }
  | .lockoutTrips => { m with prot := { m.prot with lockoutTrips := v } }
  | .ocLimit i => { m with prot := { m.prot with ocLimit := m.prot.ocLimit.set i v } }
  | .ucLimit i => { m with prot := { m.prot with ucLimit := m.prot.ucLimit.set i v } }
  | .rakeStart => { m with screen := { m.screen with rakeStart := v } }
  | .rakeIntervalMin => { m with screen := { m.screen with rakeIntervalMin := v } }
  | .homeLeaveS => { m with screen := { m.screen with homeLeaveS := v } }
  | .cycleMaxS => { m with screen := { m.screen with cycleMaxS := v } }
  | .reverseS => { m with screen := { m.screen with reverseS := v } }
  | .jamRetries => { m with screen := { m.screen with jamRetries := v } }
  | .blindMm => { m with screen := { m.screen with blindMm := v } }
  | .blindS => { m with screen := { m.screen with blindS := v } }
  | .crest i => { m with ovf := { m.ovf with crest := m.ovf.crest.set i v } }
  | .startHead => { m with ovf := { m.ovf with startHead := v } }
  | .endHead => { m with ovf := { m.ovf with endHead := v } }
  | .ovfConfirmS => { m with ovf := { m.ovf with ovfConfirmS := v } }
  | .endConfirmS => { m with ovf := { m.ovf with endConfirmS := v } }
  | .pulseLitres => { m with flow := { m.flow with pulseLitres := v } }
  | .meterSilenceS => { m with flow := { m.flow with meterSilenceS := v } }
  | .trendBand => { m with flow := { m.flow with trendBand := v } }
  | .predictWarnS => { m with flow := { m.flow with predictWarnS := v } }
  | .ratedFlow i => { m with flow := { m.flow with ratedFlow := m.flow.ratedFlow.set i v } }
  | .route j => { m with alarm := { m.alarm with route := m.alarm.route.set j v } }
  | .outMode i => { m with alarm := { m.alarm with outMode := m.alarm.outMode.set i v } }
  | .seatHoldS => { m with seat := { m.seat with seatHoldS := v } }

/-- The 2-byte identifier of a setting (section 11.1): the base plus the channel, pump, output or kind number. -/
def Setting.ident : Setting → Nat
  | .pumpsInstalled => 0x0001
  | .screensInstalled => 0x0002
  | .pointsInstalled => 0x0003
  | .zeroMm c => 0x0100 + (c.toNat - 1)
  | .spanMm c => 0x0110 + (c.toNat - 1)
  | .curSpan k => 0x0120 + k.toNat
  | .wellDepth => 0x0130
  | .initLimit => 0x0131
  | .disagreeMm => 0x0132
  | .disagreeS => 0x0133
  | .hhFloat => 0x0134
  | .llFloat => 0x0135
  | .floatTol => 0x0136
  | .highAlarm => 0x0137
  | .startLevel k => 0x0200 + k.toNat
  | .stopLevel k => 0x0210 + k.toNat
  | .minRunS => 0x0220
  | .minOffS => 0x0221
  | .startsPerHour => 0x0222
  | .maxRunning => 0x0223
  | .genMaxRunning => 0x0224
  | .blindedMaxPumps => 0x0225
  | .speedDelta => 0x0226
  | .speedHys => 0x0227
  | .minSpeed => 0x0228
  | .midSpeed => 0x0229
  | .rampPct => 0x022A
  | .hasDrive k => 0x0230 + k.toNat
  | .startSpacing => 0x0300
  | .genSpacing => 0x0301
  | .startConfirmS => 0x0400
  | .runLostS => 0x0401
  | .overtempS => 0x0402
  | .ocS => 0x0403
  | .ucS => 0x0404
  | .stopConfirmS => 0x0405
  | .tripRestS => 0x0406
  | .tripForgiveS => 0x0407
  | .lockoutTrips => 0x0408
  | .ocLimit k => 0x0410 + k.toNat
  | .ucLimit k => 0x0420 + k.toNat
  | .rakeStart => 0x0500
  | .rakeIntervalMin => 0x0501
  | .homeLeaveS => 0x0502
  | .cycleMaxS => 0x0503
  | .reverseS => 0x0504
  | .jamRetries => 0x0505
  | .blindMm => 0x0506
  | .blindS => 0x0507
  | .crest pt => 0x0600 + (pt.toNat - 1)
  | .startHead => 0x0602
  | .endHead => 0x0603
  | .ovfConfirmS => 0x0604
  | .endConfirmS => 0x0605
  | .pulseLitres => 0x0700
  | .meterSilenceS => 0x0701
  | .trendBand => 0x0702
  | .predictWarnS => 0x0703
  | .ratedFlow k => 0x0710 + k.toNat
  | .route j => 0x0800 + (j.val + 1)
  | .outMode k => 0x0820 + k.toNat
  | .seatHoldS => 0x0900

/-- The range of a setting, both ends included (section 11.1). -/
def Setting.range : Setting → Nat × Nat
  | .pumpsInstalled => (1, 4)
  | .screensInstalled => (0, 2)
  | .pointsInstalled => (1, 2)
  | .zeroMm _ => (0, 20000)
  | .spanMm _ => (100, 20000)
  | .curSpan _ => (10, 10000)
  | .wellDepth => (1000, 20000)
  | .initLimit => (1, 500)
  | .disagreeMm => (10, 2000)
  | .disagreeS => (1, 600)
  | .hhFloat => (0, 20000)
  | .llFloat => (0, 20000)
  | .floatTol => (10, 2000)
  | .highAlarm => (100, 20000)
  | .startLevel _ => (0, 20000)
  | .stopLevel _ => (0, 20000)
  | .minRunS => (0, 3600)
  | .minOffS => (0, 3600)
  | .startsPerHour => (1, 12)
  | .maxRunning => (1, 4)
  | .genMaxRunning => (0, 4)
  | .blindedMaxPumps => (0, 4)
  | .speedDelta => (0, 2000)
  | .speedHys => (0, 500)
  | .minSpeed => (30, 100)
  | .midSpeed => (30, 100)
  | .rampPct => (1, 50)
  | .hasDrive _ => (0, 1)
  | .startSpacing => (2, 30)
  | .genSpacing => (2, 120)
  | .startConfirmS => (1, 60)
  | .runLostS => (1, 30)
  | .overtempS => (0, 60)
  | .ocS => (1, 60)
  | .ucS => (1, 120)
  | .stopConfirmS => (1, 60)
  | .tripRestS => (10, 3600)
  | .tripForgiveS => (60, 86400)
  | .lockoutTrips => (1, 10)
  | .ocLimit _ => (1, 10000)
  | .ucLimit _ => (0, 10000)
  | .rakeStart => (10, 1000)
  | .rakeIntervalMin => (0, 1440)
  | .homeLeaveS => (2, 30)
  | .cycleMaxS => (10, 600)
  | .reverseS => (1, 30)
  | .jamRetries => (0, 5)
  | .blindMm => (10, 2000)
  | .blindS => (10, 1800)
  | .crest _ => (0, 20000)
  | .startHead => (1, 500)
  | .endHead => (0, 500)
  | .ovfConfirmS => (0, 600)
  | .endConfirmS => (0, 3600)
  | .pulseLitres => (1, 1000)
  | .meterSilenceS => (5, 600)
  | .trendBand => (0, 1000)
  | .predictWarnS => (0, 7200)
  | .ratedFlow _ => (10, 20000)
  | .route _ => (0, 4)
  | .outMode _ => (0, 1)
  | .seatHoldS => (10, 600)

/-- Every setting of the catalogue. -/
def Setting.all : List Setting :=
  List.flatten [
    [Setting.pumpsInstalled, Setting.screensInstalled, Setting.pointsInstalled],
    No4.all.map Setting.zeroMm,
    No4.all.map Setting.spanMm,
    No4.all.map Setting.curSpan,
    [Setting.wellDepth, Setting.initLimit, Setting.disagreeMm, Setting.disagreeS, Setting.hhFloat,
     Setting.llFloat, Setting.floatTol, Setting.highAlarm],
    No4.all.map Setting.startLevel,
    No4.all.map Setting.stopLevel,
    [Setting.minRunS, Setting.minOffS, Setting.startsPerHour, Setting.maxRunning, Setting.genMaxRunning,
     Setting.blindedMaxPumps, Setting.speedDelta, Setting.speedHys, Setting.minSpeed, Setting.midSpeed,
     Setting.rampPct],
    No4.all.map Setting.hasDrive,
    [Setting.startSpacing, Setting.genSpacing, Setting.startConfirmS, Setting.runLostS, Setting.overtempS,
     Setting.ocS, Setting.ucS, Setting.stopConfirmS, Setting.tripRestS, Setting.tripForgiveS,
     Setting.lockoutTrips],
    No4.all.map Setting.ocLimit,
    No4.all.map Setting.ucLimit,
    [Setting.rakeStart, Setting.rakeIntervalMin, Setting.homeLeaveS, Setting.cycleMaxS, Setting.reverseS,
     Setting.jamRetries, Setting.blindMm, Setting.blindS],
    No2.all.map Setting.crest,
    [Setting.startHead, Setting.endHead, Setting.ovfConfirmS, Setting.endConfirmS, Setting.pulseLitres,
     Setting.meterSilenceS, Setting.trendBand, Setting.predictWarnS],
    No4.all.map Setting.ratedFlow,
    (List.finRange 24).map Setting.route,
    No4.all.map Setting.outMode,
    [Setting.seatHoldS]]

/-- The setting an identifier names; none outside the catalogue (R185, R187). -/
def Setting.ofIdent? (n : Nat) : Option Setting := Setting.all.find? (fun x => x.ident == n)

/-- The built-in rating table of both points (section 6.1). -/
def defaultRating : List TablePoint := [⟨0, 0⟩, ⟨100, 450⟩, ⟨200, 1400⟩, ⟨300, 2600⟩]

/-- The built-in stage-storage table (section 7.2). -/
def defaultStorage : List TablePoint := [⟨0, 0⟩, ⟨6000, 72000⟩]

/-- The built-in routing of the 24 alarm kinds, kinds numbered as section 11.1 numbers them (R148). -/
def defaultRoute : Vector Nat 24 :=
  #v[3, 3, 3, 3, 3, 3, 4, 1, 0, 3, 2, 2, 2, 2, 2, 2, 2, 2, 1, 4, 3, 0, 3, 0]

/-- The built-in defaults of section 11.1. -/
def Image.defaults : Image where
  units :=
    { pumpsInstalled := 4, screensInstalled := 2, pointsInstalled := 2 }
  level :=
    { zeroMm := .fill 0, spanMm := ⟨6000, 6000, 4000, 4000⟩, curSpan := .fill 1000, wellDepth := 6000,
      initLimit := 50, disagreeMm := 150, disagreeS := 30, hhFloat := 3500, llFloat := 400, floatTol :=
      300, highAlarm := 3400 }
  duty :=
    { startLevel := ⟨1800, 2400, 2900, 3300⟩, stopLevel := ⟨600, 900, 1200, 1500⟩, minRunS := 120, minOffS
      := 60, startsPerHour := 6, maxRunning := 3, genMaxRunning := 2, blindedMaxPumps := 1, speedDelta :=
      300, speedHys := 100, minSpeed := 60, midSpeed := 80, rampPct := 5, hasDrive := .fill 0 }
  permit :=
    { startSpacing := 5, genSpacing := 15 }
  prot :=
    { startConfirmS := 10, runLostS := 2, overtempS := 2, ocS := 5, ucS := 20, stopConfirmS := 10,
      tripRestS := 300, tripForgiveS := 3600, lockoutTrips := 3, ocLimit := .fill 900, ucLimit := .fill 0 }
  screen :=
    { rakeStart := 150, rakeIntervalMin := 60, homeLeaveS := 5, cycleMaxS := 90, reverseS := 5, jamRetries
      := 3, blindMm := 400, blindS := 120 }
  ovf :=
    { crest := ⟨3600, 2500⟩, startHead := 10, endHead := 5, ovfConfirmS := 30, endConfirmS := 300 }
  flow :=
    { pulseLitres := 10, meterSilenceS := 30, trendBand := 5, predictWarnS := 600, ratedFlow := .fill 500 }
  alarm :=
    { route := defaultRoute, outMode := ⟨0, 1, 0, 1⟩ }
  seat :=
    { seatHoldS := 120 }
  storage := defaultStorage
  rating := .fill defaultRating

/-- A list of numbers that never decreases (R33). -/
def nonDecreasing (q : Quad Nat) : Bool := q.v1 ≤ q.v2 && q.v2 ≤ q.v3 && q.v3 ≤ q.v4

/-- The five constraints that join settings (section 11.1). -/
def Image.constraintsHold (m : Image) : Bool :=
  (No4.all.all fun k => m.duty.stopLevel.get k < m.duty.startLevel.get k) &&
  nonDecreasing m.duty.startLevel && nonDecreasing m.duty.stopLevel &&
  m.duty.minSpeed ≤ m.duty.midSpeed &&
  (No4.all.all fun p => m.prot.ucLimit.get p < m.prot.ocLimit.get p) &&
  m.screen.rakeStart ≤ m.screen.blindMm &&
  m.ovf.endHead ≤ m.ovf.startHead

/-- Every setting inside its range. -/
def Image.inRange (m : Image) : Bool :=
  Setting.all.all fun x => x.range.1 ≤ m.get x && m.get x ≤ x.range.2

/-- The live table of a table number: 0 stage-storage, 1 and 2 the rating tables (section 11.1). -/
def Image.table? (m : Image) : Nat → Option (List TablePoint)
  | 0 => some m.storage
  | 1 => some (m.rating.get .n1)
  | 2 => some (m.rating.get .n2)
  | _ => none

/-- The image with one whole table replaced (R186). -/
def Image.putTable (m : Image) (n : Nat) (pts : List TablePoint) : Image :=
  match n with
  | 0 => { m with storage := pts }
  | 1 => { m with rating := m.rating.set .n1 pts }
  | 2 => { m with rating := m.rating.set .n2 pts }
  | _ => m

/-- Keys strictly increase and values do not decrease along a table. -/
def tableOrdered : List TablePoint → Bool
  | a :: b :: rest => a.key < b.key && a.value ≤ b.value && tableOrdered (b :: rest)
  | _ => true

/-- The range check of a table (R186): its size, its keys and its values. -/
def tableInRange (n : Nat) (pts : List TablePoint) : Bool :=
  n ≤ 2 && 2 ≤ pts.length && pts.length ≤ (if n = 0 then 16 else 12) &&
  pts.all fun q => q.key ≤ 20000 && q.value ≤ (if n = 0 then 10000000 else 1000000)

/-- The conflict check of a table (R186): the order of its points, and a rating table's first point (0, 0). -/
def tableConsistent (n : Nat) (pts : List TablePoint) : Bool :=
  tableOrdered pts && (n == 0 || pts.head? == some ⟨0, 0⟩)

/-- What holds of the images the part keeps: ranges, constraints and tables (R189). -/
def Image.wf (m : Image) : Bool :=
  m.inRange && m.constraintsHold &&
  tableInRange 0 m.storage && tableConsistent 0 m.storage &&
  (No2.all.all fun pt => tableInRange pt.toNat (m.rating.get pt) && tableConsistent pt.toNat (m.rating.get pt))

/-- Whether a pump's `has_drive` flag is set (section 2.6). -/
def Image.drive (m : Image) (p : Pump) : Bool := m.duty.hasDrive.get p == 1

end Sys2Proof.Machine
end

