-- ==== Sys2Proof/Machine/State.lean ====
section
/-! DEFINITION. The state of the part, as plain data: the pins in, the eleven blocks, the queue of waiting commands, and the
state just after a cold start. Every timer is the uptime in ms at which it started, or none; durations are read from the live
settings, because a running timer follows a changed duration from the moment at which it started (R16, R31, R58, R66, R91). -/

namespace Sys2Proof.Machine

/-- A timer: the uptime in ms at which it started, or none while it does not run. -/
abbrev Timer := Option Nat

/-! ## Times -/

/-- A calendar date of the station clock (R161). -/
structure Date where
  year : Nat
  month : Nat
  day : Nat
  deriving DecidableEq, Repr

/-- A reading of the station clock: a date and seconds-of-day, 0 to 86,399. -/
structure ClockReading where
  date : Date
  second : Nat
  deriving DecidableEq, Repr

/-- A time as records hold it (R156): the station clock's reading, or the uptime in whole seconds with the CLOCK_INVALID
flag. -/
inductive Stamp where
  | clock (r : ClockReading)
  | uptime (seconds : Nat)
  deriving DecidableEq, Repr

/-! ## Pins in -/

/-- The debounced levels of the discrete inputs (section 11.6, R193); true is active. -/
structure Inputs where
  hoaAuto : Quad Bool
  hoaHand : Quad Bool
  runFb : Quad Bool
  overtemp : Quad Bool
  sealLeak : Quad Bool
  rakeHome : Duo Bool
  rakeTorque : Duo Bool
  rakeThermal : Duo Bool
  floatLowLow : Bool
  floatHigh : Bool
  floatHighHigh : Bool
  localKey : Bool
  onGenerator : Bool
  ackIn : Bool
  deriving DecidableEq, Repr

/-! ## Level Unit -/

/-- The fault cause of a channel (section 1.2). -/
inductive ChannelCause where
  | check | sample
  deriving DecidableEq, Repr

/-- The channel states (section 1.2). -/
inductive ChannelState where
  | starting
  | inService
  | fault (cause : ChannelCause)
  deriving DecidableEq, Repr

/-- One channel record (Chapter 1). `pairFirst` is the first sample of the pair in progress: none before it has come,
`some none` for an UNDER sample, `some (some v)` for a valid one with converted value `v`. `pairsFailed` counts the failed pairs
of STARTING. -/
structure ChannelRec where
  state : ChannelState
  history : List Nat
  filtered : Option Nat
  saturated : Bool
  invalidCount : Nat
  validCount : Nat
  pairsFailed : Nat
  pairFirst : Option (Option Nat)
  checkTimer : Timer
  deriving DecidableEq, Repr

/-- The disagreement state with its timer's start (R15). -/
inductive Disagreement where
  | agree
  | disagreePending (since : Nat)
  | disagree
  | agreePending (since : Nat)
  deriving DecidableEq, Repr

/-- The level mode (R13). -/
inductive LevelMode where
  | normal | single | floatBackup
  deriving DecidableEq, Repr

/-- The Level Unit. An uninstalled channel has no record (R10). -/
structure LevelUnit where
  wellPri : Option ChannelRec
  wellSec : Option ChannelRec
  inlet : Option ChannelRec
  screenOut : Option ChannelRec
  cur : Quad (Option ChannelRec)
  /-- The channel the converter's rotation has reached (R1). -/
  scanNext : Channel
  disagreement : Disagreement
  floatCheck : Timer
  floatDisagree : Bool
  highLevel : Bool
  floatBackup : Bool
  deriving DecidableEq, Repr

/-! ## Duty Sequencer -/

/-- The run state of a pump (section 2.2). -/
inductive RunState where
  | stopped | waiting | starting | running
  deriving DecidableEq, Repr

/-- The action of an override (section 2.5); FORCE_RUN may fix a speed in percent. -/
inductive OverrideAction where
  | forceRun (speed : Option Nat)
  | forceStop
  deriving DecidableEq, Repr

/-- An override with its owning link (R43). -/
structure Override where
  action : OverrideAction
  owner : Link
  deriving DecidableEq, Repr

/-- The speed stage (R47). -/
inductive Stage where
  | min | mid | full
  deriving DecidableEq, Repr

/-- What the Duty Sequencer holds per pump (Chapter 2). -/
structure DutyPump where
  run : RunState
  minRun : Timer
  minOff : Timer
  /-- Start history: grant uptimes in seconds, oldest first (R32). -/
  history : List Nat
  /-- Start time: uptime in ms of the latest grant, while STARTING or RUNNING (R28). -/
  startTime : Option Nat
  override : Option Override
  speedRef : Nat
  pendingDuty : Nat
  dutyInForce : Nat
  /-- The reference whose duty is in force (R50). -/
  refInForce : Nat
  /-- Uptime in ms of the next ramp step, while driven and commanded (R49, R51). -/
  rampNext : Option Nat
  deriving DecidableEq, Repr

/-- The Duty Sequencer. -/
structure DutySequencer where
  queue : List Pump
  pumps : Quad DutyPump
  calls : Quad Bool
  latch : Bool
  runSet : List Pump
  stage : Stage
  deriving DecidableEq, Repr

/-! ## Start Permit -/

/-- A requester of the permit (Chapter 3). -/
inductive Requester where
  | pump (p : Pump)
  | screen (sc : Screen)
  deriving DecidableEq, Repr

/-- A waiting request with the uptime in ms of its arrival (R55). -/
structure Request where
  who : Requester
  arrival : Nat
  deriving DecidableEq, Repr

/-- The permit state (R58). -/
inductive PermitState where
  | opened | spacing
  deriving DecidableEq, Repr

/-- The Start Permit. -/
structure StartPermit where
  permit : PermitState
  /-- Uptime in ms at which the spacing timer last started. -/
  spacingStart : Nat
  waiting : List Request
  lastGrant : Option (Requester × Nat)
  lastOutside : Option (Pump × Nat)
  deriving DecidableEq, Repr

/-! ## Pump Protection -/

/-- A pump's mode (R64). -/
inductive Mode where
  | off | auto | hand | switchFault
  deriving DecidableEq, Repr

/-- A pump's protection state (section 4.2). -/
inductive Protection where
  | healthy | alert | tripped | lockedOut
  deriving DecidableEq, Repr

/-- The five fault timers of a pump (R66). -/
structure FaultTimers where
  failToStart : Timer
  runLost : Timer
  overtemp : Timer
  overcurrent : Timer
  undercurrent : Timer
  deriving DecidableEq, Repr

/-- The feedback watch with its timer (R81, R82); a watch whose timer is none has expired. -/
inductive Watch where
  | idle
  | stopWatch (timer : Timer)
  | uncommanded (timer : Timer)
  deriving DecidableEq, Repr

/-- What Pump Protection holds per pump (Chapter 4). -/
structure ProtectedPump where
  protection : Protection
  trips : Nat
  faults : FaultTimers
  rest : Timer
  awaitingCool : Bool
  forgive : Timer
  runningSince : Option Nat
  /-- The model's own marker: UNDERCURRENT_ARM has been taken since running-since (R71, log entry 34). -/
  armed : Bool
  sealTimer : Timer
  sealLeak : Bool
  watch : Watch
  lastTrip : Option (FaultCond × Nat)
  deriving DecidableEq, Repr

/-! ## Screen Controller -/

/-- The rake states (section 5.2). -/
inductive RakeState where
  | idle | waiting | forward | backoff | jammed | failed
  deriving DecidableEq, Repr

/-- The failure causes of a screen (R96). -/
inductive RakeCause where
  | homeNotLeft | cycleTime | thermal
  deriving DecidableEq, Repr

/-- What the Screen Controller holds per screen (Chapter 5). -/
structure ScreenRec where
  rake : RakeState
  cause : Option RakeCause
  retries : Nat
  again : Bool
  leftHome : Bool
  homeLeave : Timer
  cycle : Timer
  reverse : Timer
  interval : Timer
  lastEnd : Option Nat
  deriving DecidableEq, Repr

/-- The blinded state (R101): in PENDING with the elapsed ms of the blinding timer up to `since`, or in all while it is
paused. -/
inductive Blinded where
  | clear
  | pending (elapsed : Nat) (since : Timer)
  | blinded
  deriving DecidableEq, Repr

/-- The Screen Controller. An uninstalled screen has no record. -/
structure ScreenController where
  screens : Duo (Option ScreenRec)
  blinded : Blinded
  deriving DecidableEq, Repr

/-! ## Overflow Monitor -/

/-- The episode states (section 6.2). -/
inductive EpisodeState where
  | dry | confirming | spilling | ending
  deriving DecidableEq, Repr

/-- The end timer (R113, R118). -/
inductive EndTimer where
  | stopped
  | running (since : Nat)
  | paused (elapsed : Nat)
  deriving DecidableEq, Repr

/-- An episode record (R115). -/
structure Episode where
  startTime : Stamp
  age : Nat
  candidateEnd : Option (Stamp × Nat)
  levelLoss : Option (Stamp × Nat)
  peak : Nat
  volume : Nat
  crossedDay : Bool
  deriving DecidableEq, Repr

/-- What the Overflow Monitor holds per point (Chapter 6). -/
structure PointRec where
  state : EpisodeState
  confirm : Timer
  endTimer : EndTimer
  lossTimer : Timer
  pending : Option Nat
  episode : Option Episode
  spillCount : Nat
  deriving DecidableEq, Repr

/-- The Overflow Monitor. Point 2 has no record while it is uninstalled. -/
structure OverflowMonitor where
  points : Duo (Option PointRec)
  deriving DecidableEq, Repr

/-! ## Flow Balance -/

/-- The control level's source (R131). -/
inductive Source where
  | wellPri | wellSec | higher | absent
  deriving DecidableEq, Repr

/-- The silence timer (R127). -/
inductive SilenceTimer where
  | stopped
  | running (since : Nat)
  | expired
  deriving DecidableEq, Repr

/-- The trend (R135). -/
inductive Trend where
  | rising | steady | falling | unknown
  deriving DecidableEq, Repr

/-- The time to overflow (R136). -/
inductive TimeToOverflow where
  | seconds (s : Nat)
  | notFilling
  | unknown
  deriving DecidableEq, Repr

/-- The previous close (R130, R131). -/
structure PreviousClose where
  level : Option Nat
  litres : Nat
  spill : Duo Nat
  source : Source
  deriving DecidableEq, Repr

/-- One interval entry (R132); the inflows (well, station) are present for a known interval. -/
structure Interval where
  closedAt : Nat
  out : Nat
  spill1 : Nat
  spill2 : Nat
  inflow : Option (Nat × Nat)
  deriving DecidableEq, Repr

/-- The rates of the windows in L/s, none for UNKNOWN (R134). -/
structure Rates where
  wellA : Option Nat
  stationA : Option Nat
  outA : Option Nat
  wellB : Option Nat
  deriving DecidableEq, Repr

/-- Flow Balance. -/
structure FlowBalance where
  pulses : Nat
  lastCapture : Option Nat
  /-- Last period in ms with its saturated marker. -/
  period : Option (Nat × Bool)
  rate : Option Nat
  /-- The period in progress has been marked saturated (R126). DESIGN CHOICE (log entry 38). -/
  saturating : Bool
  silence : SilenceTimer
  meterSilent : Bool
  pumped : Nat
  previous : PreviousClose
  /-- Whole litres of point 2 kept at its uninstallation in the interval in progress (R130). -/
  spill2Kept : Nat
  discontinuity : Bool
  /-- The well channels, WELL_PRI and WELL_SEC, whose first valid sample since a rescale in IN_SERVICE is still to come (R131). -/
  rescaled : Duo Bool
  history : List Interval
  rates : Rates
  trend : Trend
  overflowIn : TimeToOverflow
  predicted : Bool
  /-- Accrual seconds taken since the start (R109). -/
  seconds : Nat
  /-- Interval closes taken since the start (R130). -/
  closes : Nat
  /-- Flow Balance has already taken its own work of the next accrual second, at an interval close (R130). -/
  ahead : Bool
  deriving DecidableEq, Repr

/-! ## Alarm Unit -/

/-- The point states (section 8.2). -/
inductive AlarmState where
  | clear | activeUnack | activeAck | returnedUnack
  deriving DecidableEq, Repr

/-- Who made an acknowledgement (R145, R146). -/
inductive AckSource where
  | panel | telemetry | button
  deriving DecidableEq, Repr

/-- One point entry. The condition is present exactly in the two ACTIVE states (section 8.2). -/
structure PointEntry where
  state : AlarmState
  time : Option Stamp
  source : Option AckSource
  deriving DecidableEq, Repr

/-- The categories of the change sets, in the table's order (section 8.5). -/
inductive Category where
  | levels | pumps | screens | alarms | events | seat | settings | clock
  deriving DecidableEq, Repr

/-- A change set: which categories it holds (R151). -/
structure ChangeSet where
  levels : Bool
  pumps : Bool
  screens : Bool
  alarms : Bool
  events : Bool
  seat : Bool
  settings : Bool
  clock : Bool
  deriving DecidableEq, Repr

def ChangeSet.none : ChangeSet := ⟨false, false, false, false, false, false, false, false⟩
def ChangeSet.full : ChangeSet := ⟨true, true, true, true, true, true, true, true⟩

/-- The Alarm Unit. Point number n stands at index n - 1. -/
structure AlarmUnit where
  points : Vector PointEntry 42
  outputs : Quad Bool
  changes : PerLink ChangeSet
  deriving DecidableEq, Repr

/-! ## Station Record -/

/-- The three holders of the seat (section 10.4). -/
inductive Seat where
  | free
  | held (l : Link)
  deriving DecidableEq, Repr

/-- The causes of a SEAT record (R182). -/
inductive SeatCause where
  | claim | release | expiry | localKey
  deriving DecidableEq, Repr

/-- The end reasons of an episode (R114, R119, R125). -/
inductive EndReason where
  | normal | sensorFault | powerLoss
  deriving DecidableEq, Repr

/-- The figures of one pump of a day (R164). -/
structure PumpDay where
  runSeconds : Nat
  starts : Nat
  trips : Nat
  deriving DecidableEq, Repr

/-- The figures of one overflow point of a day (R164); the spill total is in dL. -/
structure PointDay where
  spill : Nat
  episodes : Nat
  deriving DecidableEq, Repr

/-- The daily accumulators (R164), but for the clock-changed flag. -/
structure Accumulators where
  pumps : Quad PumpDay
  pumpedLitres : Nat
  wellInflow : Nat
  stationInflow : Nat
  unknownIntervals : Nat
  points : Duo PointDay
  rakeCycles : Duo Nat
  peak : Option (Nat × Stamp)
  meterSilentSeconds : Nat
  floatBackupSeconds : Nat
  deriving DecidableEq, Repr

/-- A DAILY_SUMMARY's fields (R165): one entry per unit installed at the close, spill totals in litres. -/
structure DaySummary where
  date : Date
  clockChanged : Bool
  pumps : List (Pump × PumpDay)
  pumpedLitres : Nat
  wellInflow : Nat
  stationInflow : Nat
  unknownIntervals : Nat
  points : List (Point × Nat × Nat)
  screens : List (Screen × Nat)
  peak : Option (Nat × Stamp)
  meterSilentSeconds : Nat
  floatBackupSeconds : Nat
  deriving DecidableEq, Repr

/-- The thirteen kinds of record with their fields (R156). -/
inductive RecordBody where
  | power (warm : Bool) (generator : Bool)
  | generator (on : Bool)
  | levelMode (entered : Bool)
  | pumpTrip (p : Pump) (cause : FaultCond) (trips : Nat)
  | pumpLockout (p : Pump)
  | lockoutCleared (p : Pump) (l : Link)
  | screenJam (sc : Screen) (retriesUsed : Nat)
  | overflowStart (pt : Point) (startTime : Stamp)
  | overflowEnd (pt : Point) (startTime endTime : Stamp) (duration peak litres : Nat) (reason : EndReason)
      (crossedDay : Bool)
  | seat (holder : Seat) (cause : SeatCause)
  | settingsSaved (l : Link)
  | clockSet (l : Link) (old : Option ClockReading) (new : ClockReading)
  | dailySummary (d : DaySummary)
  deriving DecidableEq, Repr

/-- One record of the event log. -/
structure LogRecord where
  seq : Nat
  stamp : Stamp
  body : RecordBody
  deriving DecidableEq, Repr

/-- The Station Record, all of it in the retained domain (Chapter 9). -/
structure StationRecord where
  log : List LogRecord
  nextSeq : Nat
  cursors : PerLink Nat
  /-- The station clock; none while it is invalid. -/
  clock : Option ClockReading
  /-- Milliseconds since the clock's latest second (R161). -/
  clockPhase : Nat
  /-- The date of the day in progress; none while it has none. -/
  day : Option Date
  clockChanged : Bool
  acc : Accumulators
  deriving DecidableEq, Repr

/-! ## Link Interface -/

/-- The receive states with the bytes gathered (R170). -/
inductive Receive where
  | hunt
  | length
  | code (len : Nat)
  | payload (len : Nat) (code : Byte) (got : List Byte)
  | check (len : Nat) (code : Byte) (got : List Byte) (crcHigh : Option Byte)
  deriving DecidableEq, Repr

/-- The request states (section 10.2). -/
inductive RequestState where
  | free | working | sending
  deriving DecidableEq, Repr

/-- A frame as the bytes sent. -/
abbrev Frame := List Byte

/-- What a link's TXD carries: the frames, and the uptime in ms at which their sending began. -/
inductive Transmit where
  | idle
  | answer (frames : List Frame) (since : Nat)
  | busy (frame : Frame) (since : Nat)
  deriving DecidableEq, Repr

/-- What the Link Interface holds per link. `answerWaiting` is an answer formed while a BUSY frame is being sent; `busyWaiting`
a BUSY frame behind the answer in progress (R173). -/
structure LinkRec where
  receive : Receive
  gap : Timer
  request : RequestState
  transmit : Transmit
  answerWaiting : List Frame
  busyWaiting : Option Frame
  deriving DecidableEq, Repr

/-- The Link Interface. -/
structure LinkInterface where
  links : PerLink LinkRec
  seat : Seat
  holdTimer : Timer
  deriving DecidableEq, Repr

/-! ## Settings Store -/

/-- A table write under way (R186). -/
structure TableWrite where
  link : Link
  table : Nat
  points : List TablePoint
  since : Nat
  deriving DecidableEq, Repr

/-- A save under way with the image captured for it (R188). -/
structure Save where
  link : Link
  image : Image
  since : Nat
  deriving DecidableEq, Repr

/-- The Settings Store. `stored` is none while the store's check word is bad (R189); `saving` is none in IDLE. -/
structure SettingsStore where
  live : Image
  stored : Option Image
  saving : Option Save
  writes : List TableWrite
  settingsLost : Bool
  deriving DecidableEq, Repr

/-! ## The part -/

/-- The state of the part, with the queue of commands that wait. -/
structure State where
  pending : List Instr
  /-- The main supply is absent or RESET is active (R191). -/
  isHeld : Bool
  /-- The validity marker of the retained domain (R190). -/
  marker : Bool
  /-- Uptime in milliseconds (00_scope.md, "Time bases"). -/
  uptime : Nat
  inputs : Inputs
  lvu : LevelUnit
  dsq : DutySequencer
  spm : StartPermit
  ppr : Quad ProtectedPump
  scr : ScreenController
  ovm : OverflowMonitor
  fbl : FlowBalance
  alm : AlarmUnit
  src : StationRecord
  lnk : LinkInterface
  cfg : SettingsStore
  deriving DecidableEq, Repr

/-- Why the part could stop. The spec names nothing that stops it, so no command raises a fault and the type is empty. -/
inductive Fault where
  deriving DecidableEq, Repr

/-- Why a command could have no meaning. -/
inductive Refusal where
  /-- Raised by exec's arm of a command that has no meaning yet; safe. No arm raises it: every command has its meaning. -/
  | notModelled (mnemonic : String)
  deriving DecidableEq, Repr

/-! ## The state just after a cold start -/

/-- Every discrete input inactive, as open contacts read (section 11.6). DESIGN CHOICE (log entry 6). -/
def Inputs.inactive : Inputs :=
  ⟨.fill false, .fill false, .fill false, .fill false, .fill false, .fill false, .fill false, .fill false,
    false, false, false, false, false, false⟩

/-- A channel at a start (R22). -/
def ChannelRec.atStart : ChannelRec := ⟨.starting, [], none, false, 0, 0, 0, none, none⟩

/-- The fault timers at a start, all stopped. -/
def FaultTimers.allStopped : FaultTimers := ⟨none, none, none, none, none⟩

/-- A pump of the Duty Sequencer at a start (R54), its min-off timer as given. -/
def DutyPump.atStart (minOff : Timer) : DutyPump :=
  ⟨.stopped, none, minOff, [], none, none, 0, 0, 0, 0, none⟩

/-- A pump of Pump Protection at a cold start, before its conditions are judged (R86). -/
def ProtectedPump.atStart : ProtectedPump :=
  ⟨.healthy, 0, .allStopped, none, false, none, none, false, none, false, .idle, none⟩

/-- A screen at a start or an installation (R105, R106), its interval timer as given. -/
def ScreenRec.atStart (interval : Timer) : ScreenRec :=
  ⟨.idle, none, 0, false, false, none, none, none, interval, none⟩

/-- A point at a start or an installation (R123, R125). -/
def PointRec.atStart : PointRec := ⟨.dry, none, .stopped, none, none, none, 0⟩

/-- Flow Balance at a start (R140). -/
def FlowBalance.atStart : FlowBalance where
  pulses := 0
  lastCapture := none
  period := none
  rate := none
  saturating := false
  silence := .stopped
  meterSilent := false
  pumped := 0
  previous := ⟨none, 0, ⟨0, 0⟩, .absent⟩
  spill2Kept := 0
  discontinuity := false
  rescaled := .fill false
  history := []
  rates := ⟨none, none, none, none⟩
  trend := .unknown
  overflowIn := .unknown
  predicted := false
  seconds := 0
  closes := 0
  ahead := false

/-- The daily accumulators at 0 with no peak (R165, R168). -/
def Accumulators.zero : Accumulators :=
  ⟨.fill ⟨0, 0, 0⟩, 0, 0, 0, 0, .fill ⟨0, 0⟩, .fill 0, none, 0, 0⟩

/-- A point entry at a start (R155). -/
def PointEntry.atStart : PointEntry := ⟨.clear, none, none⟩

/-- A link at a start (R184). -/
def LinkRec.atStart : LinkRec := ⟨.hunt, none, .free, .idle, [], none⟩

/-- The Station Record a cold start leaves, before its POWER record (R168). -/
def StationRecord.cold : StationRecord :=
  ⟨[], 1, .fill 1, none, 0, none, false, .zero⟩

/-- A condition found present at uptime 0 of a cold start, not yet acknowledged (R155). -/
def PointEntry.raisedAtStart : PointEntry := ⟨.activeUnack, some (.uptime 0), none⟩

/-- The part just after a cold start that found an empty store and every input inactive: the values R22, R54, R63, R86, R106,
R125, R140, R155, R168, R184 and R189 give a start, the POWER record number 1 in the log (R190), the SETTINGS_LOST and
CLOCK_INVALID points raised, ALARM_OUT3 energised by SETTINGS_LOST (R148, R149). No command waits. The input levels and the
empty store are DESIGN CHOICE (log entry 6). -/
def State.reset : State where
  pending := []
  isHeld := false
  marker := true
  uptime := 0
  inputs := .inactive
  lvu :=
    { wellPri := some .atStart, wellSec := some .atStart, inlet := some .atStart, screenOut := some .atStart
      cur := .fill (some .atStart), scanNext := .wellPri, disagreement := .agree, floatCheck := none
      floatDisagree := false, highLevel := false, floatBackup := false }
  dsq :=
    { queue := [], pumps := .fill (.atStart (some 0)), calls := .fill false, latch := false, runSet := []
      stage := .min }
  spm := { permit := .spacing, spacingStart := 0, waiting := [], lastGrant := none, lastOutside := none }
  ppr := .fill .atStart
  scr := { screens := .fill (some (.atStart (some 0))), blinded := .clear }
  ovm := { points := .fill (some .atStart) }
  fbl := .atStart
  alm :=
    { points := ((Vector.replicate 42 PointEntry.atStart).set 40 .raisedAtStart).set 41 .raisedAtStart
      outputs := ⟨false, false, true, false⟩
      changes := .fill .full }
  src :=
    { StationRecord.cold with
      log := [⟨1, .uptime 0, .power false false⟩]
      nextSeq := 2 }
  lnk := { links := .fill .atStart, seat := .free, holdTimer := none }
  cfg := { live := .defaults, stored := none, saving := none, writes := [], settingsLost := true }

end Sys2Proof.Machine
end

