-- ==== Sys2Proof/Machine/Ops.lean ====
section
/-! DEFINITION. The named operations over the state that every block shares: the passing of time, what is installed, the
levels the blocks read, the modes and run commands, and the update of one unit's entry. The part has no exception entry: an
alarm condition, a record or an output is an effect on State. -/

namespace Sys2Proof.Machine

/-! ## Time -/

/-- A duration of whole seconds in milliseconds. -/
def seconds (n : Nat) : Nat := n * 1000

/-- Let `n` milliseconds pass: uptime rises, and with it the part of a second the valid station clock has counted
(00_scope.md "Time bases", R161). -/
def State.elapse (s : State) (n : Nat) : State :=
  { s with
    uptime := s.uptime + n
    src := { s.src with clockPhase := if s.src.clock.isSome then s.src.clockPhase + n else s.src.clockPhase } }

/-- Let time pass up to the uptime `t`; a time already passed leaves the state as it is (log entry 2). -/
def State.reach (s : State) (t : Nat) : State := s.elapse (t - s.uptime)

/-- The uptime in whole seconds, truncated. -/
def State.upSeconds (s : State) : Nat := s.uptime / 1000

/-- The time of an event as records, alarm points and episodes hold it (R142, R156, R110): the station clock's reading, or
the uptime while the clock is invalid. -/
def State.now (s : State) : Stamp :=
  match s.src.clock with
  | some r => .clock r
  | none => .uptime s.upSeconds

/-- A timer of `secs` seconds started now; a duration of 0 expires at the moment it starts (R31, R66). -/
def State.timer (s : State) (secs : Nat) : Timer := if secs = 0 then none else some s.uptime

/-- The uptime at which a timer of `secs` seconds started at `t0` expires. -/
def deadline (t0 secs : Nat) : Nat := t0 + seconds secs

/-- Whether a timer of `secs` seconds started at `t0` has run its duration (R16, R31, R66). -/
def State.passed (s : State) (t0 secs : Nat) : Bool := deadline t0 secs ≤ s.uptime

/-- Time remaining of a timer in tenths of a second (00_scope.md "Time bases"); that it is truncated is a DESIGN CHOICE (log entry
40). -/
def State.remaining (s : State) (t0 secs : Nat) : Nat := (deadline t0 secs - s.uptime) / 100

/-! ## Settings in force and installed units -/

/-- The live image (Chapter 11). -/
def State.img (s : State) : Image := s.cfg.live

def State.pumpIn (s : State) (p : Pump) : Bool := p.toNat ≤ s.img.units.pumpsInstalled
def State.screenIn (s : State) (sc : Screen) : Bool := sc.toNat ≤ s.img.units.screensInstalled
def State.pointIn (s : State) (pt : Point) : Bool := pt.toNat ≤ s.img.units.pointsInstalled

/-- The installed pumps in number order. -/
def State.pumpList (s : State) : List Pump := No4.all.filter s.pumpIn
def State.screenList (s : State) : List Screen := No2.all.filter s.screenIn
def State.pointList (s : State) : List Point := No2.all.filter s.pointIn

/-- Whether a channel is installed under an image (R10). -/
def Image.channelIn (m : Image) : Channel → Bool
  | .wellPri | .wellSec => true
  | .inlet => 1 ≤ m.units.screensInstalled || m.units.pointsInstalled == 2
  | .screenOut => 1 ≤ m.units.screensInstalled
  | .cur p => p.toNat ≤ m.units.pumpsInstalled

/-- The eight channels in channel order (section 1.1). -/
def Channel.all : List Channel := [.wellPri, .wellSec, .inlet, .screenOut, .cur .n1, .cur .n2, .cur .n3, .cur .n4]

/-- The channel after this one in the converter's rotation (R1). -/
def Channel.following : Channel → Channel
  | .wellPri => .wellSec
  | .wellSec => .inlet
  | .inlet => .screenOut
  | .screenOut => .cur .n1
  | .cur .n1 => .cur .n2
  | .cur .n2 => .cur .n3
  | .cur .n3 => .cur .n4
  | .cur .n4 => .wellPri

/-- The channel number 0 to 7 (section 1.1). -/
def Channel.number : Channel → Nat
  | .wellPri => 0 | .wellSec => 1 | .inlet => 2 | .screenOut => 3 | .cur p => 3 + p.toNat

/-- The number of a well channel (section 1.3). -/
def Channel.well? : Channel → Option No2
  | .wellPri => some .n1
  | .wellSec => some .n2
  | .inlet | .screenOut | .cur _ => none

/-! ## Channels, control level and level mode -/

def LevelUnit.chan (v : LevelUnit) : Channel → Option ChannelRec
  | .wellPri => v.wellPri
  | .wellSec => v.wellSec
  | .inlet => v.inlet
  | .screenOut => v.screenOut
  | .cur p => v.cur.get p

def LevelUnit.setChan (v : LevelUnit) (ch : Channel) (r : Option ChannelRec) : LevelUnit :=
  match ch with
  | .wellPri => { v with wellPri := r }
  | .wellSec => { v with wellSec := r }
  | .inlet => { v with inlet := r }
  | .screenOut => { v with screenOut := r }
  | .cur p => { v with cur := v.cur.set p r }

/-- The value the rest of the controller sees of a channel: its filtered value while IN_SERVICE (R5). -/
def ChannelRec.value (r : ChannelRec) : Option Nat :=
  match r.state with
  | .inService => r.filtered
  | _ => none

def State.chan (s : State) (ch : Channel) : Option ChannelRec := s.lvu.chan ch

def State.setChan (s : State) (ch : Channel) (r : ChannelRec) : State :=
  { s with lvu := s.lvu.setChan ch (some r) }

/-- The state of a channel, none while it is uninstalled. -/
def State.chanState (s : State) (ch : Channel) : Option ChannelState := (s.chan ch).map (·.state)

/-- The channel is installed and IN_SERVICE. -/
def State.serving (s : State) (ch : Channel) : Bool := s.chanState ch == some .inService

/-- The filtered value of a channel in service. -/
def State.level (s : State) (ch : Channel) : Option Nat := (s.chan ch).bind (·.value)

/-- LEVEL_DISAGREE is present in DISAGREE and AGREE_PENDING (R15). -/
def Disagreement.present : Disagreement → Bool
  | .disagree | .agreePending _ => true
  | .agree | .disagreePending _ => false

/-- The level mode (R13). -/
def State.levelMode (s : State) : LevelMode :=
  match s.serving .wellPri, s.serving .wellSec with
  | true, true => .normal
  | true, false => .single
  | false, true => .single
  | false, false => .floatBackup

/-- The control level, none while invalid (R13). -/
def State.controlLevel (s : State) : Option Nat :=
  match s.serving .wellPri, s.serving .wellSec with
  | true, true =>
    if s.lvu.disagreement.present then
      match s.level .wellPri, s.level .wellSec with
      | some a, some b => some (max a b)
      | some a, none => some a
      | none, b => b
    else s.level .wellPri
  | true, false => s.level .wellPri
  | false, true => s.level .wellSec
  | false, false => none

/-- The control level's source (R131). -/
def State.source (s : State) : Source :=
  match s.controlLevel with
  | none => .absent
  | some _ =>
    if s.lvu.disagreement.present then .higher
    else if s.serving .wellPri then .wellPri else .wellSec

/-- The FLOAT_BACKUP condition as the channels stand (R14). -/
def State.floatBackupNow (s : State) : Bool :=
  s.levelMode == .floatBackup && s.chanState .wellPri != some .starting && s.chanState .wellSec != some .starting

/-- The screen differential in signed mm, none while unknown (R87). -/
def State.differential (s : State) : Option Int :=
  if 1 ≤ s.img.units.screensInstalled then
    match s.level .inlet, s.level .screenOut with
    | some a, some b => some ((a : Int) - (b : Int))
    | _, _ => none
  else none

/-! ## Pumps -/

/-- The mode that the two switch contacts give (R64). -/
def modeOf (auto hand : Bool) : Mode :=
  match auto, hand with
  | false, false => .off
  | true, false => .auto
  | false, true => .hand
  | true, true => .switchFault

/-- A pump's mode, absent while it is uninstalled (R64, R85). -/
def State.mode (s : State) (p : Pump) : Option Mode :=
  if s.pumpIn p then some (modeOf (s.inputs.hoaAuto.get p) (s.inputs.hoaHand.get p)) else none

def State.inAuto (s : State) (p : Pump) : Bool := s.mode p == some .auto

/-- A pump that is STARTING or RUNNING is commanded (section 2.2). -/
def RunState.commanded : RunState → Bool
  | .starting | .running => true
  | .stopped | .waiting => false

def State.runState (s : State) (p : Pump) : RunState := (s.dsq.pumps.get p).run

/-- RUN_CMD (section 2.2). -/
def State.runCmd (s : State) (p : Pump) : Bool := (s.runState p).commanded

def State.runFb (s : State) (p : Pump) : Bool := s.inputs.runFb.get p

/-- The number of RUNNING pumps (R127). -/
def State.runningCount (s : State) : Nat := (No4.all.filter fun p => s.runState p == .running).length

/-- The number of pumps in AUTO that are STARTING or RUNNING (R25). -/
def State.autoCommanded (s : State) : Nat := (No4.all.filter fun p => s.inAuto p && s.runCmd p).length

/-- The override of a pump is FORCE_RUN. -/
def State.forced (s : State) (p : Pump) : Bool :=
  match (s.dsq.pumps.get p).override with
  | some ⟨.forceRun _, _⟩ => true
  | _ => false

/-- The override of a pump is FORCE_STOP. -/
def State.forceStopped (s : State) (p : Pump) : Bool :=
  match (s.dsq.pumps.get p).override with
  | some ⟨.forceStop, _⟩ => true
  | _ => false

/-- The speed in force in percent (R50). -/
def State.speedInForce (s : State) (p : Pump) : Nat :=
  if s.img.drive p then (s.dsq.pumps.get p).refInForce
  else if s.runCmd p then 100 else 0

/-! ## Overflow points -/

/-- The level of a point (section 6.1). -/
def State.pointLevel (s : State) : Point → Option Nat
  | .n1 => s.controlLevel
  | .n2 => s.level .inlet

/-- The head of a point in signed mm, none while unknown (R107). -/
def State.head (s : State) (pt : Point) : Option Int :=
  (s.pointLevel pt).map fun v => (v : Int) - (s.img.ovf.crest.get pt : Int)

def EpisodeState.opened : EpisodeState → Bool
  | .spilling | .ending => true
  | .dry | .confirming => false

/-- A point has an open episode (R120). -/
def State.episodeOpen (s : State) (pt : Point) : Bool :=
  match s.ovm.points.get pt with
  | some r => r.state.opened
  | none => false

/-- Storm mode (R120). -/
def State.storm (s : State) : Bool := No2.all.any s.episodeOpen

/-- The point 1 open flag (R120). -/
def State.point1Open (s : State) : Bool := s.episodeOpen .n1

/-- SCREEN_BLINDED (R101). -/
def State.isBlinded (s : State) : Bool := s.scr.blinded == .blinded

/-! ## Updates of one unit -/

def State.modDuty (s : State) (p : Pump) (f : DutyPump → DutyPump) : State :=
  { s with dsq := { s.dsq with pumps := s.dsq.pumps.modify p f } }

def State.modProt (s : State) (p : Pump) (f : ProtectedPump → ProtectedPump) : State :=
  { s with ppr := s.ppr.modify p f }

def State.modScreen (s : State) (sc : Screen) (f : ScreenRec → ScreenRec) : State :=
  { s with scr := { s.scr with screens := s.scr.screens.modify sc (Option.map f) } }

def State.modPoint (s : State) (pt : Point) (f : PointRec → PointRec) : State :=
  { s with ovm := { s.ovm with points := s.ovm.points.modify pt (Option.map f) } }

def State.modLink (s : State) (l : Link) (f : LinkRec → LinkRec) : State :=
  { s with lnk := { s.lnk with links := s.lnk.links.modify l f } }

def State.modFbl (s : State) (f : FlowBalance → FlowBalance) : State := { s with fbl := f s.fbl }

def State.modSrc (s : State) (f : StationRecord → StationRecord) : State := { s with src := f s.src }

/-- An event that is taken only while the controller is not held: while it is held no timer runs and no byte is taken (R191). -/
def State.live (s : State) (f : State → State) : State := if s.isHeld then s else f s

/-- The expiry of a timer of `secs` seconds: time reaches the moment of the expiry, and then the effect comes about. Nothing
happens where the timer does not run (log entry 2). -/
def State.onExpiry (s : State) (t : Timer) (secs : Nat) (f : State → State) : State :=
  s.live fun s =>
    match t with
    | some t0 => f (s.reach (deadline t0 secs))
    | none => s

/-- A change of a debounced input from `before` to `level`: the pin takes the level, and while the controller is not held the
effect follows; the same level is no change (R193, log entries 4 and 9). -/
def State.onChange (s : State) (before level : Bool) (pin : Inputs → Inputs) (f : State → State) : State :=
  if before = level then s
  else
    let t := { s with inputs := pin s.inputs }
    if s.isHeld then t else f t

/-- Apply a change for every element of a list, in order. -/
def State.each {α : Type} (s : State) (xs : List α) (f : State → α → State) : State := xs.foldl f s

end Sys2Proof.Machine
end

