-- ==== Sys2Proof/Machine/Flags.lean ====
section
/-! DEFINITION. What the blocks report (Chapter 8): the categories of the change sets, the alarm points with their moves, and
the alarm outputs. -/

namespace Sys2Proof.Machine

/-! ## Change sets -/

def ChangeSet.insert (c : ChangeSet) : Category → ChangeSet
  | .levels => { c with levels := true }
  | .pumps => { c with pumps := true }
  | .screens => { c with screens := true }
  | .alarms => { c with alarms := true }
  | .events => { c with events := true }
  | .seat => { c with seat := true }
  | .settings => { c with settings := true }
  | .clock => { c with clock := true }

def ChangeSet.has (c : ChangeSet) : Category → Bool
  | .levels => c.levels
  | .pumps => c.pumps
  | .screens => c.screens
  | .alarms => c.alarms
  | .events => c.events
  | .seat => c.seat
  | .settings => c.settings
  | .clock => c.clock

/-- The categories in the table's order (section 8.5). -/
def Category.all : List Category := [.levels, .pumps, .screens, .alarms, .events, .seat, .settings, .clock]

/-- The categories a set holds, in the table's order (R152). -/
def ChangeSet.list (c : ChangeSet) : List Category := Category.all.filter c.has

/-- A block reports a change in a category: it joins both links' change sets (R151). -/
def State.report (s : State) (k : Category) : State :=
  { s with alm := { s.alm with changes := s.alm.changes.mapBoth (·.insert k) } }

/-- Report a change only when there was one. -/
def State.reportIf (s : State) (c : Bool) (k : Category) : State := if c then s.report k else s

/-- An attention line is active exactly while its link's change set is non-empty (R153). -/
def State.attention (s : State) (l : Link) : Bool := s.alm.changes.get l != .none

/-! ## The alarm table (R141) -/

/-- The five pump conditions (R83). -/
inductive PumpAlarm where
  | trip | lockout | sealLeak | switchFault | runMismatch
  deriving DecidableEq, Repr

/-- The alarm points by name. -/
inductive AlarmPoint where
  | wellPriFault | wellSecFault | inletFault | screenOutFault
  | levelDisagree | floatBackup | highLevel | highHighFloat | lowLowFloat | floatDisagree
  | pump (p : Pump) (k : PumpAlarm)
  | rakeJam (sc : Screen)
  | rakeFailed (sc : Screen)
  | screenBlinded
  | overflow (pt : Point)
  | predictedOverflow | meterSilent | onGenerator | settingsLost | clockInvalid
  deriving DecidableEq, Repr

def PumpAlarm.all : List PumpAlarm := [.trip, .lockout, .sealLeak, .switchFault, .runMismatch]

def PumpAlarm.offset : PumpAlarm → Nat
  | .trip => 0 | .lockout => 1 | .sealLeak => 2 | .switchFault => 3 | .runMismatch => 4

/-- The place of a point in the table: its number less 1. -/
def AlarmPoint.index : AlarmPoint → Fin 42
  | .wellPriFault => 0
  | .wellSecFault => 1
  | .inletFault => 2
  | .screenOutFault => 3
  | .levelDisagree => 4
  | .floatBackup => 5
  | .highLevel => 6
  | .highHighFloat => 7
  | .lowLowFloat => 8
  | .floatDisagree => 9
  | .pump .n1 .trip => 10
  | .pump .n1 .lockout => 11
  | .pump .n1 .sealLeak => 12
  | .pump .n1 .switchFault => 13
  | .pump .n1 .runMismatch => 14
  | .pump .n2 .trip => 15
  | .pump .n2 .lockout => 16
  | .pump .n2 .sealLeak => 17
  | .pump .n2 .switchFault => 18
  | .pump .n2 .runMismatch => 19
  | .pump .n3 .trip => 20
  | .pump .n3 .lockout => 21
  | .pump .n3 .sealLeak => 22
  | .pump .n3 .switchFault => 23
  | .pump .n3 .runMismatch => 24
  | .pump .n4 .trip => 25
  | .pump .n4 .lockout => 26
  | .pump .n4 .sealLeak => 27
  | .pump .n4 .switchFault => 28
  | .pump .n4 .runMismatch => 29
  | .rakeJam .n1 => 30
  | .rakeFailed .n1 => 31
  | .rakeJam .n2 => 32
  | .rakeFailed .n2 => 33
  | .screenBlinded => 34
  | .overflow .n1 => 35
  | .overflow .n2 => 36
  | .predictedOverflow => 37
  | .meterSilent => 38
  | .onGenerator => 39
  | .settingsLost => 40
  | .clockInvalid => 41

/-- The point number 1 to 42. -/
def AlarmPoint.number (a : AlarmPoint) : Nat := a.index.val + 1

/-- The 42 points in number order. -/
def AlarmPoint.all : List AlarmPoint :=
  List.flatten [
    [AlarmPoint.wellPriFault, AlarmPoint.wellSecFault, AlarmPoint.inletFault, AlarmPoint.screenOutFault,
     AlarmPoint.levelDisagree, AlarmPoint.floatBackup, AlarmPoint.highLevel, AlarmPoint.highHighFloat,
     AlarmPoint.lowLowFloat, AlarmPoint.floatDisagree],
    PumpAlarm.all.map (AlarmPoint.pump .n1),
    PumpAlarm.all.map (AlarmPoint.pump .n2),
    PumpAlarm.all.map (AlarmPoint.pump .n3),
    PumpAlarm.all.map (AlarmPoint.pump .n4),
    [AlarmPoint.rakeJam .n1, AlarmPoint.rakeFailed .n1, AlarmPoint.rakeJam .n2, AlarmPoint.rakeFailed .n2,
     AlarmPoint.screenBlinded, AlarmPoint.overflow .n1, AlarmPoint.overflow .n2, AlarmPoint.predictedOverflow,
     AlarmPoint.meterSilent, AlarmPoint.onGenerator, AlarmPoint.settingsLost, AlarmPoint.clockInvalid]]

/-- The kind of a point, numbered from 0 in the order of section 11.1 (R148). -/
def AlarmPoint.kind : AlarmPoint → Fin 24
  | .wellPriFault => 0
  | .wellSecFault => 1
  | .inletFault => 2
  | .screenOutFault => 3
  | .levelDisagree => 4
  | .floatBackup => 5
  | .highLevel => 6
  | .highHighFloat => 7
  | .lowLowFloat => 8
  | .floatDisagree => 9
  | .pump _ .trip => 10
  | .pump _ .lockout => 11
  | .pump _ .sealLeak => 12
  | .pump _ .switchFault => 13
  | .pump _ .runMismatch => 14
  | .rakeJam _ => 15
  | .rakeFailed _ => 16
  | .screenBlinded => 17
  | .overflow _ => 18
  | .predictedOverflow => 19
  | .meterSilent => 20
  | .onGenerator => 21
  | .settingsLost => 22
  | .clockInvalid => 23

/-- Whether the unit a point belongs to is installed (R141). -/
def Image.alarmIn (m : Image) : AlarmPoint → Bool
  | .inletFault => m.channelIn .inlet
  | .screenOutFault | .screenBlinded => 1 ≤ m.units.screensInstalled
  | .pump p _ => p.toNat ≤ m.units.pumpsInstalled
  | .rakeJam sc | .rakeFailed sc => sc.toNat ≤ m.units.screensInstalled
  | .overflow pt => pt.toNat ≤ m.units.pointsInstalled
  | .wellPriFault | .wellSecFault | .levelDisagree | .floatBackup | .highLevel | .highHighFloat | .lowLowFloat
  | .floatDisagree | .predictedOverflow | .meterSilent | .onGenerator | .settingsLost | .clockInvalid => true

/-! ## Point states and outputs -/

def State.point (s : State) (a : AlarmPoint) : PointEntry := s.alm.points[a.index]

/-- The condition is present exactly in the two ACTIVE states (section 8.2). -/
def AlarmState.present : AlarmState → Bool
  | .activeUnack | .activeAck => true
  | .clear | .returnedUnack => false

/-- The condition of a point. -/
def State.condition (s : State) (a : AlarmPoint) : Bool := (s.point a).state.present

/-- The states that energise an output in its mode: 0 STEADY, 1 HORN (R149). -/
def AlarmState.energises (st : AlarmState) (outMode : Nat) : Bool :=
  match st with
  | .activeUnack => true
  | .activeAck => outMode == 0
  | .returnedUnack => outMode != 0
  | .clear => false

/-- One output as R149 judges it. -/
def State.outputNow (s : State) (m : No4) : Bool :=
  AlarmPoint.all.any fun a =>
    s.img.alarmIn a && s.img.alarm.route[a.kind] == m.toNat &&
      (s.point a).state.energises (s.img.alarm.outMode.get m)

/-- Judge the four outputs again (R149). -/
def State.judgeOutputs (s : State) : State :=
  { s with alm := { s.alm with outputs := ⟨s.outputNow .n1, s.outputNow .n2, s.outputNow .n3, s.outputNow .n4⟩ } }

def State.setPoint (s : State) (a : AlarmPoint) (e : PointEntry) : State :=
  { s with alm := { s.alm with points := s.alm.points.set a.index e } }

/-- The state after an appearance of the condition (R142). -/
def AlarmState.appear : AlarmState → AlarmState
  | .clear | .returnedUnack => .activeUnack
  | st => st

/-- The state after a disappearance of the condition (R142). -/
def AlarmState.vanish : AlarmState → AlarmState
  | .activeUnack => .returnedUnack
  | .activeAck => .clear
  | st => st

/-- An owner reports its condition present or absent. A report of what already stands marks no event; any other moves the
point, records the time, reports ALARMS and judges the outputs (R142). -/
def State.setCondition (s : State) (a : AlarmPoint) (present : Bool) : State :=
  if s.condition a = present then s
  else
    let e := s.point a
    let st := if present then e.state.appear else e.state.vanish
    ((s.setPoint a { e with state := st, time := some s.now }).report .alarms).judgeOutputs

/-- A point whose unit has been uninstalled goes to CLEAR (R144). -/
def State.clearPoint (s : State) (a : AlarmPoint) : State :=
  let e := s.point a
  if e.state = .clear then s
  else (s.setPoint a { e with state := .clear, time := some s.now }).report .alarms

/-! ## Acknowledgement -/

/-- The move of an acknowledgement, none where it moves nothing (R145). -/
def AlarmState.acknowledged : AlarmState → Option AlarmState
  | .activeUnack => some .activeAck
  | .returnedUnack => some .clear
  | .clear | .activeAck => none

/-- Acknowledge one point (R145). -/
def State.ackPoint (s : State) (src : AckSource) (a : AlarmPoint) : State :=
  match (s.point a).state.acknowledged with
  | some st => (s.setPoint a ⟨st, some s.now, some src⟩).report .alarms
  | none => s

/-- Acknowledge the installed points of a list at one event, then judge the outputs (R145, R146). -/
def State.acknowledge (s : State) (src : AckSource) (as : List AlarmPoint) : State :=
  (s.each (as.filter s.img.alarmIn) fun t a => t.ackPoint src a).judgeOutputs

end Sys2Proof.Machine
end

