-- ==== Sys2Proof/Machine/RecordOps.lean ====
section
/-! DEFINITION. The Station Record's own operations (Chapter 9): the calendar, the append of a record, the credits of the day
in progress and the day close. -/

namespace Sys2Proof.Machine

/-! ## Calendar (R161) -/

/-- A leap year of the calendar: divisible by 4 over 2000 to 2099; past 2099 R161 states no leap year (log entry 13). -/
def leapYear (y : Nat) : Bool := if y ≤ 2099 then y % 4 == 0 else Config.leapAfter2099 y

def daysInMonth (y m : Nat) : Nat :=
  match m with
  | 2 => if leapYear y then 29 else 28
  | 4 | 6 | 9 | 11 => 30
  | _ => 31

/-- The next calendar date. -/
def Date.next (d : Date) : Date :=
  if d.day < daysInMonth d.year d.month then { d with day := d.day + 1 }
  else if d.month < 12 then { d with month := d.month + 1, day := 1 }
  else { year := d.year + 1, month := 1, day := 1 }

/-- The reading one second later (R161). -/
def ClockReading.next (r : ClockReading) : ClockReading :=
  if r.second < 86399 then { r with second := r.second + 1 } else { date := r.date.next, second := 0 }

/-! ## Counts -/

/-- The largest value of a 32-bit count. -/
def max32 : Nat := 4294967295

/-- A 32-bit count that holds at its largest value (R164). -/
def holdAdd (a n : Nat) : Nat := min (a + n) max32

/-- A count of a stated largest value; past it the spec states no value (log entry 12). -/
def countAdd (c : Counter) (top a n : Nat) : Nat := if a + n ≤ top then a + n else Config.countPastEnd c (a + n)

/-- The largest value of a 64-bit count. -/
def max64 : Nat := 18446744073709551615

/-! ## The event log -/

/-- Sequence numbers run from 1 to 4,294,967,295 and then begin again (R158). -/
def followingSeq (n : Nat) : Nat := if n = max32 then 1 else n + 1

/-- The newest record's number; on an empty log the number before the next (log entry 36). -/
def StationRecord.newest (src : StationRecord) : Nat :=
  match src.log.getLast? with
  | some r => r.seq
  | none => src.nextSeq - 1

/-- The oldest record's number; on an empty log the next number (log entry 36). -/
def StationRecord.oldest (src : StationRecord) : Nat :=
  match src.log.head? with
  | some r => r.seq
  | none => src.nextSeq

/-- After record 4,294,967,295 the next append empties the log and sets both cursors to 1 (R158). -/
def StationRecord.wrap (src : StationRecord) : StationRecord :=
  if src.newest = max32 then { src with log := [], cursors := .fill 1 } else src

/-- A full log loses its oldest record, and a cursor that held its number moves to the new oldest (R157). -/
def StationRecord.makeRoom (src : StationRecord) : StationRecord :=
  match src.log with
  | r :: rest =>
    if 96 ≤ src.log.length then
      let oldest := (rest.head?.map (·.seq)).getD src.nextSeq
      { src with log := rest, cursors := src.cursors.mapBoth fun c => if c = r.seq then oldest else c }
    else src
  | [] => src

/-- Number, stamp and place a record (R156). -/
def StationRecord.place (src : StationRecord) (t : Stamp) (b : RecordBody) : StationRecord :=
  { src with log := src.log ++ [⟨src.nextSeq, t, b⟩], nextSeq := followingSeq src.nextSeq }

/-- Append a record to the event log, stamped with the time of the event, and report EVENTS (R156 to R158). -/
def State.append (s : State) (b : RecordBody) : State :=
  (s.modSrc fun src => src.wrap.makeRoom.place s.now b).report .events

/-! ## Credits (R164) -/

def State.credit (s : State) (f : Accumulators → Accumulators) : State :=
  s.modSrc fun src => { src with acc := f src.acc }

def Accumulators.addRun (a : Accumulators) (p : Pump) : Accumulators :=
  { a with pumps := a.pumps.modify p fun d => { d with runSeconds := holdAdd d.runSeconds 1 } }
def Accumulators.addStart (a : Accumulators) (p : Pump) : Accumulators :=
  { a with pumps := a.pumps.modify p fun d => { d with starts := holdAdd d.starts 1 } }
def Accumulators.addTrip (a : Accumulators) (p : Pump) : Accumulators :=
  { a with pumps := a.pumps.modify p fun d => { d with trips := holdAdd d.trips 1 } }
def Accumulators.addPumped (a : Accumulators) (n : Nat) : Accumulators :=
  { a with pumpedLitres := holdAdd a.pumpedLitres n }
def Accumulators.addInflow (a : Accumulators) (well station : Nat) : Accumulators :=
  { a with wellInflow := holdAdd a.wellInflow well, stationInflow := holdAdd a.stationInflow station }
def Accumulators.addUnknown (a : Accumulators) : Accumulators :=
  { a with unknownIntervals := holdAdd a.unknownIntervals 1 }
def Accumulators.addSpill (a : Accumulators) (pt : Point) (n : Nat) : Accumulators :=
  { a with points := a.points.modify pt fun d => { d with spill := countAdd .spill max64 d.spill n } }
def Accumulators.addEpisode (a : Accumulators) (pt : Point) : Accumulators :=
  { a with points := a.points.modify pt fun d => { d with episodes := holdAdd d.episodes 1 } }
def Accumulators.addCycle (a : Accumulators) (sc : Screen) : Accumulators :=
  { a with rakeCycles := a.rakeCycles.modify sc fun n => holdAdd n 1 }
def Accumulators.addSilent (a : Accumulators) : Accumulators :=
  { a with meterSilentSeconds := holdAdd a.meterSilentSeconds 1 }
def Accumulators.addBackup (a : Accumulators) : Accumulators :=
  { a with floatBackupSeconds := holdAdd a.floatBackupSeconds 1 }

/-- An offer of the control level for the day's peak: kept when greater than the peak held or when none is held (R166). -/
def Accumulators.offer (a : Accumulators) (level : Nat) (t : Stamp) : Accumulators :=
  match a.peak with
  | some (v, _) => if v < level then { a with peak := some (level, t) } else a
  | none => { a with peak := some (level, t) }

/-- LVU offers its control level as it stands; an invalid one is not offered (R20). -/
def State.offerPeak (s : State) : State :=
  match s.controlLevel with
  | some v => s.credit fun a => a.offer v s.now
  | none => s

/-! ## Day close (R165) -/

/-- The summary of the day in progress (R165). A day with no date closes under the clock's date (log entry 36). -/
def State.summary (s : State) (date : Date) : DaySummary :=
  let a := s.src.acc
  { date := date
    clockChanged := s.src.clockChanged
    pumps := s.pumpList.map fun p => (p, a.pumps.get p)
    pumpedLitres := a.pumpedLitres
    wellInflow := a.wellInflow
    stationInflow := a.stationInflow
    unknownIntervals := a.unknownIntervals
    points := s.pointList.map fun pt => (pt, (a.points.get pt).spill / 10, (a.points.get pt).episodes)
    screens := s.screenList.map fun sc => (sc, a.rakeCycles.get sc)
    peak := a.peak
    meterSilentSeconds := a.meterSilentSeconds
    floatBackupSeconds := a.floatBackupSeconds }

/-- Every episode record present crosses the day (R117). -/
def State.crossDay (s : State) : State :=
  s.each No2.all fun t pt => t.modPoint pt fun r =>
    { r with episode := r.episode.map fun e => { e with crossedDay := true } }

/-- Close the day: append its summary, start the accumulators of `next` at 0 with the given clock-changed flag, start the
peak at the control level as it stands with the time of the close, which is the summary's stamp (R165, R166, log entry 17), and tell the
Overflow Monitor (R117). -/
def State.closeDay (s : State) (next : Date) (changed : Bool) : State :=
  let closed := s.append (.dailySummary (s.summary (s.src.day.getD next)))
  let fresh := closed.modSrc fun src =>
    { src with day := some next, clockChanged := changed, acc := Accumulators.zero }
  fresh.offerPeak.crossDay

end Sys2Proof.Machine
end

