-- ==== Sys2Proof/Machine/PermitOps.lean ====
section
/-! DEFINITION. The Start Permit's own operations (Chapter 3): the waiting list, its rank, the spacing in force and the
record of a grant. What a grant does to a pump or a rake stands with those. -/

namespace Sys2Proof.Machine

/-- The spacing in force in seconds (R58). -/
def State.spacing (s : State) : Nat :=
  if s.inputs.onGenerator then s.img.permit.genSpacing else s.img.permit.startSpacing

/-- A request joins the waiting list, stamped with its arrival (R55). -/
def State.join (s : State) (who : Requester) : State :=
  { s with spm := { s.spm with waiting := s.spm.waiting ++ [⟨who, s.uptime⟩] } }

/-- A request leaves the waiting list without a grant (R56). -/
def State.withdraw (s : State) (who : Requester) : State :=
  { s with spm := { s.spm with waiting := s.spm.waiting.filter fun r => r.who != who } }

/-- The waiting request of one requester. -/
def State.requestOf (s : State) (who : Requester) : Option Request := s.spm.waiting.find? fun r => r.who == who

/-- The waiting pump requests in queue order. -/
def State.waitingPumps (s : State) : List Request := s.dsq.queue.filterMap fun p => s.requestOf (.pump p)

/-- The waiting screens, oldest arrival first, screen 1 first at equal arrivals (R57). -/
def State.waitingScreens (s : State) : List Request :=
  match s.requestOf (.screen .n1), s.requestOf (.screen .n2) with
  | some a, some b => if b.arrival < a.arrival then [b, a] else [a, b]
  | some a, none => [a]
  | none, some b => [b]
  | none, none => []

/-- Whether a request is of a pump whose override is FORCE_RUN. -/
def State.forcedRequest (s : State) (r : Request) : Bool :=
  match r.who with
  | .pump p => s.forced p
  | .screen _ => false

/-- The waiting requests in the order of R57: forced pumps, other pumps, screens. -/
def State.ranked (s : State) : List Request :=
  s.waitingPumps.filter s.forcedRequest ++ s.waitingPumps.filter (fun r => !s.forcedRequest r) ++ s.waitingScreens

/-- The permit's part of a grant: the request leaves the list, the last grant is recorded, the spacing timer restarts and the
permit is in SPACING (R61). -/
def State.recordGrant (s : State) (who : Requester) : State :=
  let t := s.withdraw who
  { t with spm := { t.spm with permit := .spacing, spacingStart := t.uptime, lastGrant := some (who, t.uptime) } }

/-- An observed outside start restarts the spacing timer (R60). -/
def State.outsideStart (s : State) (p : Pump) : State :=
  { s with spm := { s.spm with permit := .spacing, spacingStart := s.uptime, lastOutside := some (p, s.uptime) } }

end Sys2Proof.Machine
end

