-- ==== Sys2Proof/Machine/ScreenOps.lean ====
section
/-! DEFINITION. The Screen Controller's own operations (Chapter 5): triggers, the rake cycle, jams, failures and blinding. -/

namespace Sys2Proof.Machine

/-- A screen changes its rake state, reported in SCREENS (section 5.2). -/
def State.setRake (s : State) (sc : Screen) (k : RakeState) : State :=
  match s.scr.screens.get sc with
  | some r => (s.modScreen sc fun r => { r with rake := k }).reportIf (r.rake != k) .screens
  | none => s

/-- The interval timer as an event that restarts it leaves it; a setting of 0 starts none (R91). -/
def State.intervalTimer (s : State) : Timer := if s.img.screen.rakeIntervalMin = 0 then none else some s.uptime

/-- The differential is known and at or above `rake_start_mm` (R90, R95). -/
def State.diffHigh (s : State) : Bool :=
  match s.differential with
  | some d => (s.img.screen.rakeStart : Int) ≤ d
  | none => false

/-- A screen jams: BACKOFF with the reverse timer started and the retry count raised (R98). -/
def State.jam (s : State) (sc : Screen) : State :=
  (s.modScreen sc fun r =>
    { r with homeLeave := none, cycle := none, reverse := some s.uptime, retries := r.retries + 1 }).setRake sc .backoff

/-- A grant reaches a screen: FORWARD with its timers, and at once a jam where RAKE_TORQUE is active (R93). -/
def State.grantScreen (s : State) (sc : Screen) : State :=
  let home := s.inputs.rakeHome.get sc
  let t := (s.modScreen sc fun r =>
    { r with
      leftHome := !home
      homeLeave := if home then some s.uptime else none
      cycle := some s.uptime }).setRake sc .forward
  if s.inputs.rakeTorque.get sc then t.jam sc else t

/-- A screen enters WAITING: its request is granted at its arrival in OPEN and joins the list in SPACING (R55, R88). -/
def State.askScreen (s : State) (sc : Screen) : State :=
  let t := s.setRake sc .waiting
  match t.spm.permit with
  | .opened => (t.recordGrant (.screen sc)).grantScreen sc
  | .spacing => t.join (.screen sc)

/-- A screen enters FAILED: its outputs and timers stop, a request is withdrawn, RAKE_FAILED appears (R96). The differential
trigger is judged by the caller. -/
def State.failScreen (s : State) (sc : Screen) (c : RakeCause) : State :=
  (((s.modScreen sc fun r =>
    { r with cause := some c, homeLeave := none, cycle := none, reverse := none }).setRake sc .failed).withdraw
      (.screen sc)).setCondition (.rakeFailed sc) true

def State.rakeOf (s : State) (sc : Screen) : Option RakeState := (s.scr.screens.get sc).map (·.rake)

def State.isIdle (s : State) (sc : Screen) : Bool := s.rakeOf sc == some .idle

/-- The screen ended its last cycle longer ago than, or as long ago as, the other; an absent end counts as longer ago. -/
def endedLonger (a b : Option Nat) : Bool :=
  match a, b with
  | none, _ => true
  | some _, none => false
  | some x, some y => x ≤ y

/-- The IDLE screen that a differential trigger goes to (R90). -/
def State.pickIdle (s : State) : Option Screen :=
  match s.isIdle .n1, s.isIdle .n2 with
  | true, true =>
    if endedLonger ((s.scr.screens.get .n1).bind (·.lastEnd)) ((s.scr.screens.get .n2).bind (·.lastEnd)) then some .n1
    else some .n2
  | true, false => some .n1
  | false, true => some .n2
  | false, false => none

/-- The differential trigger is judged: while the differential is known and high it goes to an IDLE screen; a screen that its
thermal contact fails at the trigger has the trigger judged again (R90, R97). The number bounds the repeats. -/
def State.fireUpTo : Nat → State → State
  | 0, s => s
  | n + 1, s =>
    if s.diffHigh then
      match s.pickIdle with
      | some sc =>
        if s.inputs.rakeThermal.get sc then State.fireUpTo n (s.failScreen sc .thermal) else s.askScreen sc
      | none => s
    else s

/-- The differential trigger is judged (R90). Two screens allow two triggers at one event. -/
def State.fire (s : State) : State := s.fireUpTo 2

/-- A failure with the judgement that follows it (R96). -/
def State.failAndFire (s : State) (sc : Screen) (c : RakeCause) : State := (s.failScreen sc c).fire

/-- A trigger on a screen (R88, R97). -/
def State.trigger (s : State) (sc : Screen) : State :=
  match s.rakeOf sc with
  | some .idle => if s.inputs.rakeThermal.get sc then s.failAndFire sc .thermal else s.askScreen sc
  | some .waiting | some .forward | some .backoff => s.modScreen sc fun r => { r with again := true }
  | some .jammed | some .failed | none => s

/-- The screen is installed and neither JAMMED nor FAILED. -/
def State.inOrder (s : State) (sc : Screen) : Bool :=
  match s.rakeOf sc with
  | some .jammed | some .failed | none => false
  | _ => true

/-- The screen is in work (section 5.2). -/
def RakeState.inWork : RakeState → Bool
  | .waiting | .forward | .backoff => true
  | .idle | .jammed | .failed => false

/-- A cycle completes, with its follow-on trigger (R94, R95). -/
def State.completeCycle (s : State) (sc : Screen) : State :=
  let again := ((s.scr.screens.get sc).map (·.again)).getD false
  let t := ((s.modScreen sc fun r =>
    { r with
      homeLeave := none, cycle := none, retries := 0, again := false
      lastEnd := some s.uptime, interval := s.intervalTimer }).setRake sc .idle).credit (·.addCycle sc)
  if again || t.diffHigh || t.isBlinded then t.trigger (if t.inOrder sc.other then sc.other else sc) else t

/-- The end of a backoff: a new request, or JAMMED once the retries are used (R99). -/
def State.endBackoff (s : State) (sc : Screen) : State :=
  let retries := ((s.scr.screens.get sc).map (·.retries)).getD 0
  let t := s.modScreen sc fun r => { r with reverse := none }
  if retries ≤ s.img.screen.jamRetries then t.askScreen sc
  else
    (((t.setRake sc .jammed).setCondition (.rakeJam sc) true).append (.screenJam sc (retries - 1))).fire

/-! ## Blinding -/

/-- The blinded state is set; an appearance or disappearance of SCREEN_BLINDED is reported (R102). -/
def State.setBlinded (s : State) (b : Blinded) : State :=
  let t := { s with scr := { s.scr with blinded := b } }
  (t.reportIf (s.isBlinded != t.isBlinded) .screens).setCondition .screenBlinded (b == .blinded)

/-- The elapsed time of the blinding timer in ms. -/
def State.blindElapsed (s : State) (elapsed : Nat) (since : Timer) : Nat :=
  match since with
  | some t => elapsed + (s.uptime - t)
  | none => elapsed

/-- The blinded state is judged on the differential (R101, R102). -/
def State.judgeBlinded (s : State) : State :=
  match s.differential with
  | none =>
    match s.scr.blinded with
    | .pending e t => s.setBlinded (.pending (s.blindElapsed e t) none)
    | .clear | .blinded => s
  | some d =>
    let high : Bool := (s.img.screen.blindMm : Int) ≤ d
    match s.scr.blinded with
    | .clear => if high then s.setBlinded (.pending 0 (some s.uptime)) else s
    | .pending e t =>
      if high then
        if seconds s.img.screen.blindS ≤ s.blindElapsed e t then s.setBlinded .blinded
        else match t with
          | some _ => s
          | none => s.setBlinded (.pending e (some s.uptime))
      else s.setBlinded .clear
    | .blinded => if d < (s.img.screen.rakeStart : Int) then s.setBlinded .clear else s

end Sys2Proof.Machine
end

