-- ==== Sys2Proof/Machine/ProtectionOps.lean ====
section
/-! DEFINITION. Pump Protection's own operations (Chapter 4) and a pump's run state (Chapter 2): the fault timers, the feedback
watch, run commands and the start confirm. -/

namespace Sys2Proof.Machine

/-! ## Fault timers -/

def FaultCond.all : List FaultCond := [.failToStart, .runLost, .overtemp, .overcurrent, .undercurrent]

def FaultTimers.get (t : FaultTimers) : FaultCond → Timer
  | .failToStart => t.failToStart
  | .runLost => t.runLost
  | .overtemp => t.overtemp
  | .overcurrent => t.overcurrent
  | .undercurrent => t.undercurrent

/-- Whether a fault timer of the pump runs. -/
def FaultTimers.anyRuns (t : FaultTimers) : Bool := FaultCond.all.any fun c => (t.get c).isSome

/-- The duration of a fault timer in seconds (section 4.3). -/
def Image.faultSeconds (m : Image) : FaultCond → Nat
  | .failToStart => m.prot.startConfirmS
  | .runLost => m.prot.runLostS
  | .overtemp => m.prot.overtempS
  | .overcurrent => m.prot.ocS
  | .undercurrent => m.prot.ucS

/-- The current of a pump while its channel is IN_SERVICE, in dA (R70). -/
def State.current (s : State) (p : Pump) : Option Nat := s.level (.cur p)

/-- Whether a trip condition of a pump is present (R67 to R71). -/
def State.faultPresent (s : State) (p : Pump) : FaultCond → Bool
  | .failToStart => s.runState p == .starting && !s.runFb p
  | .runLost => s.runState p == .running && !s.runFb p
  | .overtemp => s.inputs.overtemp.get p
  | .overcurrent =>
    s.runState p == .running && (match s.current p with
      | some v => s.img.prot.ocLimit.get p < v
      | none => false)
  | .undercurrent =>
    s.runState p == .running && (s.ppr.get p).armed && (match s.current p with
      | some v => v < s.img.prot.ucLimit.get p
      | none => false)

/-- A pump whose state is HEALTHY or ALERT. -/
def Protection.watched : Protection → Bool
  | .healthy | .alert => true
  | .tripped | .lockedOut => false

/-- One fault timer after a judgement: it goes on, starts or stops with its condition (R66). -/
def State.faultTimerNow (s : State) (p : Pump) (c : FaultCond) : Timer :=
  if s.faultPresent p c then
    match (s.ppr.get p).faults.get c with
    | some t => some t
    | none => some s.uptime
  else none

/-- The five timers after a judgement. -/
def State.faultTimersNow (s : State) (p : Pump) : FaultTimers :=
  ⟨s.faultTimerNow p .failToStart, s.faultTimerNow p .runLost, s.faultTimerNow p .overtemp,
    s.faultTimerNow p .overcurrent, s.faultTimerNow p .undercurrent⟩

/-- Judge the trip conditions of an installed pump in HEALTHY or ALERT: each timer follows its condition, and the pump is in
ALERT while one runs (R65, R66). -/
def State.judgeFaults (s : State) (p : Pump) : State :=
  let r := s.ppr.get p
  if s.pumpIn p && r.protection.watched then
    let ts := s.faultTimersNow p
    let st : Protection := if ts.anyRuns then .alert else .healthy
    (s.modProt p fun r => { r with faults := ts, protection := st }).reportIf (st != r.protection) .pumps
  else s

/-! ## Feedback watch -/

/-- RUN_MISMATCH: the watch's timer has expired (R81, R82). -/
def Watch.mismatch : Watch → Bool
  | .stopWatch none | .uncommanded none => true
  | _ => false

/-- The feedback watch moves, and RUN_MISMATCH with it (R81, R82). -/
def State.setWatch (s : State) (p : Pump) (w : Watch) : State :=
  (s.modProt p fun r => { r with watch := w }).setCondition (.pump p .runMismatch) w.mismatch

/-! ## Run state -/

/-- The silence timer follows the count of RUNNING pumps (R127). -/
def State.followRunning (s : State) (before : Nat) : State :=
  if before = 0 ∧ s.runningCount ≠ 0 then s.modFbl fun b => { b with silence := .running s.uptime }
  else if before ≠ 0 ∧ s.runningCount = 0 then s.modFbl fun b => { b with silence := .stopped }
  else s

/-- A pump changes its run state, reported in PUMPS (R53). -/
def State.setRun (s : State) (p : Pump) (r : RunState) : State :=
  ((s.modDuty p fun d => { d with run := r }).reportIf (s.runState p != r) .pumps).followRunning s.runningCount

/-- The duty of a reference in percent: rounded(r × 255 / 100) (R50). -/
def dutyOf (r : Nat) : Nat := (r * 255 + 50) / 100

/-- A driven pump takes a new reference, whose duty is pending (R50). -/
def DutyPump.setRef (d : DutyPump) (r : Nat) : DutyPump := { d with speedRef := r, pendingDuty := dutyOf r }

/-- RUN_CMD of a commanded pump goes off: STOPPED with the min-off timer started, the reference at 0, the feedback watch begun
in AUTO with feedback, the conditions judged (R29, R30, R81). -/
def State.dropPump (s : State) (p : Pump) : State :=
  let t := ((s.modDuty p fun d =>
    { d with startTime := none, minRun := none, minOff := s.timer s.img.duty.minOffS, rampNext := none,
             speedRef := 0, pendingDuty := 0 }).setRun p .stopped).modProt p fun r =>
    { r with runningSince := none, armed := false }
  (if t.inAuto p && t.runFb p then t.setWatch p (.stopWatch (some t.uptime)) else t).judgeFaults p

/-- The start confirm: RUNNING, with running-since set (R67). -/
def State.startConfirm (s : State) (p : Pump) : State :=
  ((s.setRun p .running).modProt p fun r =>
    { r with runningSince := some s.uptime, armed := false }).judgeFaults p

/-- The start history after a grant at `t` seconds: at most 16 entries (R32). -/
def addStartEntry (h : List Nat) (t : Nat) : List Nat := (if 16 ≤ h.length then h.drop 1 else h) ++ [t]

/-- A grant reaches a pump: RUN_CMD on, STARTING, with its start time, history entry, min-run timer, credited start and, on a
drive, its first reference; the feedback watch ends, and active feedback confirms the start at once (R28, R67, R81). -/
def State.grantPump (s : State) (p : Pump) : State :=
  let t := (((s.modDuty p fun d =>
    let d := { d with
      startTime := some s.uptime
      history := addStartEntry d.history s.upSeconds
      minRun := s.timer s.img.duty.minRunS
      minOff := none }
    if s.img.drive p then { d.setRef s.img.duty.minSpeed with rampNext := some (s.uptime + 1000) } else d).setRun p
      .starting).credit (·.addStart p)).setWatch p .idle
  if t.runFb p then t.startConfirm p else t.judgeFaults p

end Sys2Proof.Machine
end

