-- ==== Sys2Proof/Machine/DutyOps.lean ====
section
/-! DEFINITION. The Duty Sequencer's own operations (Chapter 2): the rotation queue, demand, eligibility, slots, the run set and
its re-formation; the grant of the first-ranked request (R58, R61); and what a moved differential does, which ends in a
re-formation (R90, R101). -/

namespace Sys2Proof.Machine

/-! ## Grants -/

/-- What a grant does to its requester (R61). -/
def State.grantTo (s : State) : Requester → State
  | .pump p => s.grantPump p
  | .screen sc => s.grantScreen sc

/-- Grant the first-ranked waiting request, if there is one (R61). -/
def State.grantFirst (s : State) : State :=
  match s.ranked.head? with
  | some r => (s.recordGrant r.who).grantTo r.who
  | none => s

/-! ## Rotation queue -/

/-- A pump belongs in the rotation queue (R23). -/
def State.member (s : State) (p : Pump) : Bool := s.inAuto p && (s.ppr.get p).protection.watched

def State.setQueue (s : State) (q : List Pump) : State :=
  ({ s with dsq := { s.dsq with queue := q } }).reportIf (s.dsq.queue != q) .pumps

/-- The head of a queue moves to its tail (R25). -/
def rotate : List Pump → List Pump
  | p :: rest => rest ++ [p]
  | [] => []

/-- Alternation, when the count of commanded AUTO pumps fell from `before` to 0 (R25). -/
def State.alternate (s : State) (before : Nat) : State :=
  if before ≠ 0 ∧ s.autoCommanded = 0 then s.setQueue (rotate s.dsq.queue) else s

/-- A pump's override is placed, replaced or cancelled, reported in PUMPS (R53). -/
def State.setOverride (s : State) (p : Pump) (o : Option Override) : State :=
  (s.modDuty p fun d => { d with override := o }).reportIf ((s.dsq.pumps.get p).override != o) .pumps

/-- A WAITING pump goes back to STOPPED and its request is withdrawn (R27). -/
def State.unwait (s : State) (p : Pump) : State := (s.setRun p .stopped).withdraw (.pump p)

/-- What leaving the queue does to one pump (R24). -/
def State.leaveQueue (s : State) (p : Pump) : State :=
  let t := s.setOverride p none
  match t.runState p with
  | .waiting => t.unwait p
  | .starting | .running => t.dropPump p
  | .stopped => t

/-- Membership is judged again: leavers first, then the joiners at the tail in number order, then alternation against the
count of commanded AUTO pumps before the event (R23 to R25). -/
def State.requeue (s : State) (before : Nat) : State :=
  let leavers := s.dsq.queue.filter fun p => !s.member p
  let t := s.each leavers State.leaveQueue
  let joiners := No4.all.filter fun p => t.member p && !t.dsq.queue.contains p
  (t.setQueue (t.dsq.queue.filter t.member ++ joiners)).alternate before

/-! ## Demand (section 2.3) -/

/-- Whether duty position `k` is called after a valid control level `v`: the start level calls, the stop level uncalls (R33). -/
def callNow (m : Image) (k : No4) (v : Nat) (called : Bool) : Bool :=
  if m.duty.startLevel.get k ≤ v then true
  else if v ≤ m.duty.stopLevel.get k then false
  else called

/-- The position calls on the control level as it stands; while it is invalid they keep their states (R33). -/
def State.judgeCalls (s : State) : State :=
  match s.controlLevel with
  | some v =>
    let c := s.dsq.calls
    let m := s.img
    { s with dsq := { s.dsq with
      calls := ⟨callNow m .n1 v c.v1, callNow m .n2 v c.v2, callNow m .n3 v c.v3, callNow m .n4 v c.v4⟩ } }
  | none => s

def State.calledCount (s : State) : Nat := (No4.all.filter fun k => s.dsq.calls.get k).length

/-- Demand in its four steps (section 2.3). -/
def State.demand (s : State) : Nat :=
  let base :=
    match s.levelMode with
    | .normal | .single => s.calledCount
    | .floatBackup =>
      if s.inputs.floatHighHigh then s.dsq.queue.length else if s.dsq.latch then 1 else 0
  let storm := if s.storm then s.dsq.queue.length else base
  let limited := if s.isBlinded && !s.point1Open then min storm s.img.duty.blindedMaxPumps else storm
  if s.inputs.floatLowLow then 0 else limited

/-! ## Eligibility and slots (section 2.4) -/

/-- The start limit is met (R36). -/
def State.startLimitMet (s : State) (p : Pump) : Bool :=
  (s.dsq.pumps.get p).history.length < s.img.duty.startsPerHour || s.storm || s.forced p

/-- A queue pump is eligible (R36). -/
def State.eligible (s : State) (p : Pump) : Bool :=
  s.dsq.queue.contains p && !s.forceStopped p &&
    (s.runCmd p || ((s.dsq.pumps.get p).minOff == none && s.startLimitMet p))

/-- The cap in force (R38). -/
def State.cap (s : State) : Nat :=
  if s.inputs.onGenerator then s.img.duty.genMaxRunning else s.img.duty.maxRunning

/-- The outside count (R38). -/
def State.outsideCount (s : State) : Nat := (s.pumpList.filter fun p => s.runFb p && !s.runCmd p).length

/-- The slots (R38). -/
def State.slots (s : State) : Nat := s.cap - s.outsideCount

/-! ## The run set -/

/-- A well channel has been IN_SERVICE since the start: it is, or its fault is a lost signal (section 1.2). -/
def State.hasServed (s : State) (ch : Channel) : Bool :=
  match s.chanState ch with
  | some .inService | some (.fault .sample) => true
  | _ => false

/-- The level mode and the control level of Chapter 1 are in hand: a well channel has come into service, or the start-up checks of both
have ended without one (R54, R14, log entry 27). -/
def State.levelInHand (s : State) : Bool :=
  s.hasServed .wellPri || s.hasServed .wellSec ||
    (s.chanState .wellPri == some (.fault .check) && s.chanState .wellSec == some (.fault .check))

/-- Steps 1 and 2 of R39. Until the level is in hand no formation is made, and the run set stays empty (R54). -/
def State.wanted (s : State) : List Pump :=
  if s.inputs.floatLowLow || !s.levelInHand then []
  else
    let ok := s.dsq.queue.filter s.eligible
    let first := ok.filter s.forced
    first ++ (ok.filter fun p => !s.forced p).take (s.demand - first.length)

/-- A commanded pump that is not in the list is running out (R40). -/
def State.runningOut (s : State) (m : List Pump) : List Pump := No4.all.filter fun p => s.runCmd p && !m.contains p

/-- A commanded pump outside the list that R41 stops: its min-run timer has expired, or the cause is immediate. -/
def State.mustStop (s : State) (m : List Pump) : Option Pump :=
  (s.runningOut m).find? fun p =>
    (s.dsq.pumps.get p).minRun == none || s.inputs.floatLowLow || s.forceStopped p

/-- Take the last member of a list that the test holds of out of it. -/
def dropLast (f : Pump → Bool) (m : List Pump) : List Pump :=
  match m.reverse.find? f with
  | some p => m.filter (· != p)
  | none => m

/-- First line of R40: while the members and the pumps running out (`out` of them) number more than the slots, the last member
that is not commanded is dropped. The number bounds the drops. -/
def State.fitUpTo (s : State) (out : Nat) : Nat → List Pump → List Pump
  | 0, m => m
  | n + 1, m =>
    if s.slots < m.length + out && m.any (fun p => !s.runCmd p) then
      s.fitUpTo out n (dropLast (fun p => !s.runCmd p) m)
    else m

/-- Fit a list to the slots by drops alone (R40); four drops empty any list. -/
def State.fit (s : State) (m : List Pump) : List Pump := s.fitUpTo (s.runningOut m).length 4 m

/-- The commanded pump with the latest start time; at equal times the higher number (log entry 36). -/
def State.latestStarted (s : State) : Option Pump :=
  (No4.all.filter s.runCmd).foldl (fun best p =>
    match best with
    | none => some p
    | some q =>
      if (s.dsq.pumps.get q).startTime.getD 0 ≤ (s.dsq.pumps.get p).startTime.getD 0 then some p else best) none

/-- DSQ stops a commanded pump (R30), with alternation where it was the last commanded AUTO pump (R25). -/
def State.stopPump (s : State) (p : Pump) : State := (s.dropPump p).alternate s.autoCommanded

/-- The formed list becomes the run set: WAITING pumps outside it are withdrawn, STOPPED members go to WAITING and ask the
permit (R27, R41, R53). -/
def State.settleRunSet (s : State) (m : List Pump) : State :=
  let out := No4.all.filter fun p => s.runState p == .waiting && !m.contains p
  let t := s.each out State.unwait
  let moved := No4.all.any fun p => t.dsq.runSet.contains p != m.contains p
  let u := ({ t with dsq := { t.dsq with runSet := m } }).reportIf moved .pumps
  u.each (m.filter fun p => u.runState p == .stopped) fun v p => (v.setRun p .waiting).join (.pump p)

/-- Form the run set on the inputs as they stand and act on it (R39 to R42). Each stop and each grant changes the inputs, so
formation follows formation until nothing more is to be done; the number bounds the repeats (log entry 14). -/
def State.reformUpTo : Nat → State → State
  | 0, s => s
  | n + 1, s =>
    let m := s.wanted
    match s.mustStop m with
    | some p => State.reformUpTo n (s.stopPump p)
    | none =>
      let f := s.fit m
      if s.slots < f.length + (s.runningOut m).length then
        match s.latestStarted with
        | some p => State.reformUpTo n (s.stopPump p)
        | none => s.settleRunSet f
      else
        let t := s.settleRunSet f
        match t.spm.permit with
        | .opened => if t.spm.waiting.isEmpty then t else State.reformUpTo n t.grantFirst
        | .spacing => t

/-- Re-form the run set (R42). Four pumps and one grant allow at most ten formations at one event. -/
def State.reform (s : State) : State := s.reformUpTo 10

/-- The differential or `rake_start_mm` may have moved: judge the blinded state, re-form the run set on what the event has changed,
and fire the trigger where the differential was not high before (R90, R101, R42). The pumps that the event puts into WAITING come
before its rake: R57 ranks every pump request ahead of every screen's, so in OPEN the grant goes to a pump, and the rake's request
joins the list (R55). -/
def State.diffMoved (s : State) (wasHigh : Bool) : State :=
  let t := s.judgeBlinded.reform
  if t.diffHigh && !wasHigh then t.fire else t

/-- What follows an event that may change the membership of the queue: the queue, alternation against the count before the
event, and one re-formation (R23 to R25, R42). -/
def State.dutyEvent (s : State) (before : Nat) : State := (s.requeue before).reform

/-- The control level has a new valid value or a new validity: the position calls and the speed stage are judged (R33, R47). -/
def nextStage (m : Image) (st : Stage) (v : Nat) : Stage :=
  let l : Int := v
  let top : Int := (m.duty.startLevel.get .n2 : Int) - m.duty.speedDelta
  let mid : Int := top - m.duty.speedDelta
  let h : Int := m.duty.speedHys
  match st with
  | .min => if top ≤ l then .full else if mid ≤ l then .mid else .min
  | .mid => if top ≤ l then .full else if l < mid - h then .min else .mid
  | .full => if l < mid - h then .min else if l < top - h then .mid else .full

/-- The speed stage on the control level as it stands (R47). -/
def State.judgeStage (s : State) : State :=
  match s.controlLevel with
  | some v => { s with dsq := { s.dsq with stage := nextStage s.img s.dsq.stage v } }
  | none => s

/-- The target speed of a driven commanded pump (R48). -/
def State.target (s : State) (p : Pump) : Nat :=
  match (s.dsq.pumps.get p).override with
  | some ⟨.forceRun (some v), _⟩ => v
  | _ =>
    if s.storm || s.levelMode == .floatBackup then 100
    else match s.dsq.stage with
      | .full => 100
      | .mid => s.img.duty.midSpeed
      | .min => s.img.duty.minSpeed

/-- One ramp step from a reference toward a target (R49). -/
def rampToward (r target by_ : Nat) : Nat := if r < target then min (r + by_) target else max (r - by_) target

end Sys2Proof.Machine
end

