-- ==== Sys2Proof/Machine/BalanceOps.lean ====
section
/-! DEFINITION. Flow Balance's own operations (Chapter 7): stored volume, the level's source and its discontinuities, pumped volume,
the interval entry, rates, trend and the time to overflow. -/

namespace Sys2Proof.Machine

/-! ## Table lookups -/

/-- The value between two points of a table at a key `h` between theirs, truncated (R108, R129). -/
def interpolate (a b : TablePoint) (h : Nat) : Nat :=
  a.value + (b.value - a.value) * (h - a.key) / (b.key - a.key)

/-- Stored volume at a level above the first point of the table: between two points, or the last volume (R129). -/
def volumeAbove : List TablePoint → Nat → Nat
  | a :: b :: rest, h => if h ≤ b.key then interpolate a b h else volumeAbove (b :: rest) h
  | [a], _ => a.value
  | [], _ => 0

/-- The stored volume V(h) in L (R129). -/
def volumeAt (table : List TablePoint) (h : Nat) : Nat :=
  match table with
  | a :: rest => if h ≤ a.key then a.value else volumeAbove (a :: rest) h
  | [] => 0

/-- The spill flow of a table at a positive head at most 5000 mm: between two points, or on the last segment extended (R108). -/
def flowOn : List TablePoint → Nat → Nat
  | a :: b :: rest, h =>
    if h ≤ b.key then interpolate a b h
    else if rest.isEmpty then b.value + (b.value - a.value) * (h - b.key) / (b.key - a.key)
    else flowOn (b :: rest) h
  | _, _ => 0

/-- The spill flow F in dL/s at a head; 0 at a head of 0 mm or less (R108). -/
def spillFlow (table : List TablePoint) (head : Int) : Nat :=
  if head ≤ 0 then 0 else flowOn table (min head.toNat 5000)

def State.stored (s : State) (h : Nat) : Nat := volumeAt s.img.storage h

/-! ## Time to overflow -/

/-- The time to overflow (R136). -/
def State.timeToOverflow (s : State) : TimeToOverflow :=
  let crest := s.img.ovf.crest.get .n1
  if s.point1Open then .seconds 0
  else match s.controlLevel with
    | none => .unknown
    | some v =>
      if crest ≤ v then .seconds 0
      else match s.fbl.rates.wellA, s.fbl.rates.outA with
        | some w, some o =>
          if w ≤ o then .notFilling
          else .seconds (min ((s.stored crest - s.stored v) / (w - o)) 65535)
        | _, _ => .unknown

/-- PREDICTED_OVERFLOW after a judgement (R137). -/
def State.predictedNow (s : State) : Bool :=
  let warn := s.img.flow.predictWarnS
  if s.point1Open then false
  else if warn = 0 then false
  else match s.fbl.overflowIn with
    | .seconds n => if n ≤ warn then true else if warn + 60 < n then false else s.fbl.predicted
    | .notFilling | .unknown => false

/-- Judge PREDICTED_OVERFLOW and report it (R137, R138). -/
def State.judgePredicted (s : State) : State :=
  let p := s.predictedNow
  (s.modFbl fun b => { b with predicted := p }).setCondition .predictedOverflow p

/-- Recompute the time to overflow and judge the condition (R136, R137). -/
def State.predict (s : State) : State :=
  (s.modFbl fun b => { b with overflowIn := s.timeToOverflow }).judgePredicted

/-! ## Source and discontinuity -/

/-- A change of the control level's source from `before` marks a discontinuity (R131). -/
def State.followSource (s : State) (before : Source) : State :=
  if s.source = before then s else s.modFbl fun b => { b with discontinuity := true }

/-- A well channel in service has been rescaled: its first valid sample from here is looked out for (R131). -/
def State.expectRescaled (s : State) (ch : Channel) : State :=
  match Channel.well? ch with
  | some w => s.modFbl fun b => { b with rescaled := b.rescaled.set w true }
  | none => s

/-- A valid sample of a channel: the first one of a well channel since its rescale marks a discontinuity while the control level is
valid, whatever the channel's state has become (R131, log entry 39). -/
def State.seeRescaled (s : State) (ch : Channel) : State :=
  match Channel.well? ch with
  | some w =>
    if s.fbl.rescaled.get w then
      s.modFbl fun b =>
        { b with rescaled := b.rescaled.set w false, discontinuity := b.discontinuity || s.controlLevel.isSome }
    else s
  | none => s

/-! ## Pumped volume -/

/-- Add to the pumped accumulator and credit the rise of the pumped litres (R128). -/
def State.addPumped (s : State) (n : Nat) : State :=
  let p := countAdd .pumped max64 s.fbl.pumped n
  (s.modFbl fun b => { b with pumped := p }).credit (·.addPumped (p / 10 - s.fbl.pumped / 10))

/-- What the RUNNING pumps are estimated to move in one second (R128). -/
def State.estimate (s : State) : Nat :=
  (No4.all.map fun p =>
    if s.runState p == .running then s.img.flow.ratedFlow.get p * s.speedInForce p / 100 else 0).sum

/-- Flow Balance's own work of an accrual second: a meter-silent second and the estimate (R127, R128). -/
def State.balanceSecond (s : State) : State :=
  if s.fbl.meterSilent then (s.credit (·.addSilent)).addPumped s.estimate else s

/-- METER_SILENT appears or goes (R127). -/
def State.setSilent (s : State) (c : Bool) : State :=
  (s.modFbl fun b => { b with meterSilent := c }).setCondition .meterSilent c

/-! ## The interval close -/

/-- The spill count of a point in dL, 0 while it is uninstalled (R130). -/
def State.spillCount (s : State) (pt : Point) : Nat :=
  match s.ovm.points.get pt with
  | some r => r.spillCount
  | none => 0

/-- Whole litres spilled at a point since the previous close (R132). -/
def State.spillSince (s : State) (pt : Point) : Nat := s.spillCount pt / 10 - (s.fbl.previous.spill.get pt) / 10

/-- The entry of the interval that closes now (R131, R132). -/
def State.entry (s : State) : Interval :=
  let out := s.fbl.pumped / 10 - s.fbl.previous.litres
  let spill1 := s.spillSince .n1
  let spill2 := s.fbl.spill2Kept + s.spillSince .n2
  { closedAt := s.uptime
    out := out
    spill1 := spill1
    spill2 := spill2
    inflow :=
      match s.controlLevel, s.fbl.previous.level with
      | some now, some before =>
        if s.fbl.discontinuity then none
        else
          let dV : Int := (s.stored now : Int) - (s.stored before : Int)
          let well := (max 0 (dV + out + spill1)).toNat
          some (well, well + spill2)
      | _, _ => none }

/-- The sum of a figure of the known inflows of a window, none where an entry is unknown. -/
def sumKnown (f : Nat × Nat → Nat) : List Interval → Option Nat
  | [] => some 0
  | e :: rest =>
    match e.inflow, sumKnown f rest with
    | some q, some n => some (f q + n)
    | _, _ => none

/-- A rounded mean over a window's 60 s (R134). -/
def meanRate (sum : Nat) : Nat := (sum + 30) / 60

/-- The rates of the windows of an interval history, oldest first (R134). -/
def ratesOf (history : List Interval) : Rates :=
  let n := history.length
  let a := history.drop (n - 6)
  let b := (history.drop (n - 12)).take 6
  { wellA := if 6 ≤ n then (sumKnown (·.1) a).map meanRate else none
    stationA := if 6 ≤ n then (sumKnown (·.2) a).map meanRate else none
    outA := if 6 ≤ n then (sumKnown (·.1) a).map fun _ => meanRate (a.map (·.out)).sum else none
    wellB := if 12 ≤ n && (sumKnown (·.1) a).isSome then (sumKnown (·.1) b).map meanRate else none }

/-- The trend of two rates with a band (R135). -/
def trendOf (r : Rates) (band : Nat) : Trend :=
  match r.wellA, r.wellB with
  | some a, some b => if b + band < a then .rising else if a + band < b then .falling else .steady
  | _, _ => .unknown

/-- Append an entry, at most 12 held (R132). -/
def addEntry (h : List Interval) (e : Interval) : List Interval :=
  let h := h ++ [e]
  if h.length = 13 then h.drop 1 else h

/-- Close the interval: its entry, the day's credit, the rates, the trend, the previous close and the time to overflow (R130 to
R136). -/
def State.closeInterval (s : State) : State :=
  let e := s.entry
  let t := s.credit fun a =>
    match e.inflow with
    | some (well, station) => a.addInflow well station
    | none => a.addUnknown
  let history := addEntry t.fbl.history e
  let rates := ratesOf history
  (t.modFbl fun b =>
    { b with
      history := history
      rates := rates
      trend := trendOf rates s.img.flow.trendBand
      previous := ⟨s.controlLevel, b.pumped / 10, ⟨s.spillCount .n1, s.spillCount .n2⟩, s.source⟩
      spill2Kept := 0
      discontinuity := false }).predict

end Sys2Proof.Machine
end

