-- ==== Sys2Proof/Machine/OverflowOps.lean ====
section
/-! DEFINITION. The Overflow Monitor's own operations (Chapter 6): candidates, the opening, ending and closing of episodes, the loss
and return of a point's level, and accrual. -/

namespace Sys2Proof.Machine

/-- A change of an episode state has moved storm mode or the point 1 open flag: Flow Balance recomputes the time to overflow where
the flag changed (R120, R136). The Duty Sequencer's re-formation follows at the end of the event. -/
def State.followOpen (s : State) (wasOpen : Bool) : State := if s.point1Open = wasOpen then s else s.predict

/-- A point returns to DRY; its timers and episode record are gone (R111, R114, R119). -/
def PointRec.toDry (r : PointRec) : PointRec :=
  { r with state := .dry, confirm := none, endTimer := .stopped, lossTimer := none, pending := none, episode := none }

/-- A candidate is dropped (R111). -/
def State.dropCandidate (s : State) (pt : Point) : State := s.modPoint pt PointRec.toDry

/-- An episode closes: its OVERFLOW_END record, DRY, the condition gone, storm mode set again (R114, R119). -/
def State.closeEpisode (s : State) (pt : Point) (endTime : Stamp) (duration : Nat) (why : EndReason) : State :=
  match (s.ovm.points.get pt).bind (·.episode) with
  | some e =>
    let t := s.append (.overflowEnd pt e.startTime endTime duration e.peak (e.volume / 10) why e.crossedDay)
    ((t.modPoint pt PointRec.toDry).setCondition (.overflow pt) false).followOpen s.point1Open
  | none => s

/-- The end timer of a point expires: the episode closes with reason NORMAL at its candidate end (R114). -/
def State.endNormally (s : State) (pt : Point) : State :=
  match (s.ovm.points.get pt).bind (·.episode) with
  | some e =>
    match e.candidateEnd with
    | some (t, age) => s.closeEpisode pt t age .normal
    | none => s.closeEpisode pt s.now e.age .normal
  | none => s

/-- The level-loss timer of a point expires: the episode closes with reason SENSOR_FAULT at the loss (R119). -/
def State.endLost (s : State) (pt : Point) : State :=
  match (s.ovm.points.get pt).bind (·.episode) with
  | some e =>
    match e.levelLoss with
    | some (t, age) => s.closeEpisode pt t age .sensorFault
    | none => s.closeEpisode pt s.now e.age .sensorFault
  | none => s

/-- Credit an amount spilled to the day and to the point's spill count (R116). -/
def State.creditSpill (s : State) (pt : Point) (n : Nat) : State :=
  (s.credit (·.addSpill pt n)).modPoint pt fun r => { r with spillCount := countAdd .spill max64 r.spillCount n }

/-- The confirm timer of a point expires: the episode opens (R112). -/
def State.openEpisode (s : State) (pt : Point) : State :=
  match s.ovm.points.get pt with
  | some r =>
    match r.episode with
    | some e =>
      let n := r.pending.getD 0
      let t := s.modPoint pt fun r =>
        { r with state := .spilling, confirm := none, pending := none, episode := some { e with volume := e.volume + n } }
      ((((t.creditSpill pt n).credit (·.addEpisode pt)).append (.overflowStart pt e.startTime)).setCondition
        (.overflow pt) true).followOpen s.point1Open
    | none => s
  | none => s

/-- A point enters CONFIRMING with a new episode record; with `ovf_confirm_s` at 0 the episode opens at once (R110). -/
def State.candidate (s : State) (pt : Point) (head : Int) : State :=
  let t := s.modPoint pt fun r =>
    { r with
      state := .confirming
      confirm := some s.uptime
      pending := some 0
      episode := some ⟨s.now, 0, none, none, head.toNat, 0, false⟩ }
  if s.img.ovf.ovfConfirmS = 0 then t.openEpisode pt else t

/-- The end window starts anew: the candidate end is recorded and the end timer starts from its full duration; at 0 the episode
closes at once (R113). -/
def State.startEnd (s : State) (pt : Point) : State :=
  let t := s.modPoint pt fun r =>
    { r with
      state := .ending
      endTimer := .running s.uptime
      episode := r.episode.map fun e => { e with candidateEnd := some (s.now, e.age) } }
  if s.img.ovf.endConfirmS = 0 then t.endNormally pt else t

/-- The end window stops without its episode's end: to SPILLING or staying in ENDING (R113). -/
def State.cancelEnd (s : State) (pt : Point) (st : EpisodeState) : State :=
  s.modPoint pt fun r =>
    { r with
      state := st
      endTimer := .stopped
      episode := r.episode.map fun e => { e with candidateEnd := none } }

/-- A paused end timer resumes from its elapsed time; a duration already reached expires at the resumption (R118, R122). -/
def State.resumeEnd (s : State) (pt : Point) (elapsed : Nat) : State :=
  let t := s.modPoint pt fun r => { r with endTimer := .running (s.uptime - elapsed) }
  if seconds s.img.ovf.endConfirmS ≤ elapsed then t.endNormally pt else t

/-- The level of an open point has become invalid (R118); with `end_confirm_s` at 0 the episode closes at once (R119). -/
def State.loseLevel (s : State) (pt : Point) : State :=
  let t := s.modPoint pt fun r =>
    { r with
      lossTimer := some s.uptime
      endTimer := (match r.endTimer with
        | .running t => .paused (s.uptime - t)
        | e => e)
      episode := r.episode.map fun e => { e with levelLoss := some (s.now, e.age) } }
  if s.img.ovf.endConfirmS = 0 then t.endLost pt else t

/-- The peak head follows a valid head, and a level that has returned ends its loss (R115, R118). -/
def PointRec.see (r : PointRec) (head : Int) : PointRec :=
  { r with
    lossTimer := none
    episode := r.episode.map fun e => { e with peak := max e.peak head.toNat, levelLoss := none } }

/-- An installed point's head has been recomputed: judge its episode state (R107, R110 to R113, R118). -/
def State.judgePoint (s : State) (pt : Point) : State :=
  match s.ovm.points.get pt with
  | none => s
  | some r =>
    match s.head pt with
    | none =>
      match r.state with
      | .dry => s
      | .confirming => s.dropCandidate pt
      | .spilling | .ending => if r.lossTimer.isNone then s.loseLevel pt else s
    | some h =>
      let t := s.modPoint pt fun r => r.see h
      let startHead : Int := s.img.ovf.startHead
      let endHead : Int := s.img.ovf.endHead
      match r.state with
      | .dry => if startHead ≤ h then t.candidate pt h else t
      | .confirming => if h < startHead then t.dropCandidate pt else t
      | .spilling => if h < endHead then t.startEnd pt else t
      | .ending =>
        if startHead ≤ h then t.cancelEnd pt .spilling
        else if endHead ≤ h then
          match r.endTimer with
          | .stopped => t
          | .running _ | .paused _ => t.cancelEnd pt .ending
        else match r.endTimer with
          | .running _ => t
          | .paused e => t.resumeEnd pt e
          | .stopped => t.startEnd pt

/-- The accrual of one point at an accrual second, and the age of its record (R109, R115, R116). -/
def State.accrue (s : State) (pt : Point) : State :=
  let s := s.modPoint pt fun r =>
    { r with episode := r.episode.map fun e => { e with age := countAdd .age max32 e.age 1 } }
  match s.ovm.points.get pt, s.head pt with
  | some r, some h =>
    if h ≤ 0 then s
    else
      let f := spillFlow (s.img.rating.get pt) h
      match r.state with
      | .dry => s
      | .confirming => s.modPoint pt fun r => { r with pending := some (r.pending.getD 0 + f) }
      | .spilling | .ending =>
        (s.modPoint pt fun r =>
          { r with episode := r.episode.map fun e => { e with volume := e.volume + f } }).creditSpill pt f
  | _, _ => s

end Sys2Proof.Machine
end

