-- ==== Sys2Proof/Machine/LevelOps.lean ====
section
/-! DEFINITION. The Level Unit's own operations (Chapter 1): classification, conversion and filtering of a sample, the channel
states, disagreement, the float check and the high-level condition, and what a moved control level brings about. -/

namespace Sys2Proof.Machine

/-! ## Conversion -/

/-- The zero, the span and the upper clamp of a channel (R3, R4). -/
def Image.scaling (m : Image) : Channel → Nat × Nat × Nat
  | .wellPri => (m.level.zeroMm.v1, m.level.spanMm.v1, min (m.level.zeroMm.v1 + m.level.spanMm.v1) m.level.wellDepth)
  | .wellSec => (m.level.zeroMm.v2, m.level.spanMm.v2, min (m.level.zeroMm.v2 + m.level.spanMm.v2) m.level.wellDepth)
  | .inlet => (m.level.zeroMm.v3, m.level.spanMm.v3, m.level.zeroMm.v3 + m.level.spanMm.v3)
  | .screenOut => (m.level.zeroMm.v4, m.level.spanMm.v4, m.level.zeroMm.v4 + m.level.spanMm.v4)
  | .cur p => (0, m.level.curSpan.get p, m.level.curSpan.get p)

/-- A count on a zero and a span, the lower clamp at 0 included (R3). -/
def rawLevel (base span c : Nat) : Nat :=
  if 819 ≤ c then base + ((c - 819) * span + 1638) / 3276 else base - ((819 - c) * span + 1638) / 3276

/-- The converted value of a valid sample (R3, R4). -/
def Image.convert (m : Image) (ch : Channel) (c : Nat) : Nat :=
  min (rawLevel (m.scaling ch).1 (m.scaling ch).2.1 c) (m.scaling ch).2.2

/-- A sample as R2 classifies it: none for UNDER, else its converted value and whether its class is OVER. -/
def Image.classify (m : Image) (ch : Channel) (c : Nat) : Option (Nat × Bool) :=
  if c ≤ 736 then none else some (m.convert ch c, decide (4090 ≤ c))

/-! ## The channel record -/

/-- A channel enters IN_SERVICE with its history filled from one value (R6, R7, R9). -/
def ChannelRec.enterService (v : Nat) (sat : Bool) : ChannelRec :=
  ⟨.inService, [v, v, v, v], some v, sat, 0, 0, 0, none, none⟩

/-- A valid sample enters the filter of a channel in service; the first one after a rescale fills the history (R5, R11). -/
def ChannelRec.feed (r : ChannelRec) (v : Nat) (sat : Bool) : ChannelRec :=
  let h := if r.history.isEmpty then [v, v, v, v] else
    let h := r.history ++ [v]
    if h.length = 5 then h.drop 1 else h
  { r with history := h, filtered := some ((h.sum + 2) / 4), saturated := sat, invalidCount := 0 }

/-- A pair passes: both samples valid and within the limit (R6). -/
def pairPasses (limit : Nat) (first second : Option Nat) : Bool :=
  match first, second with
  | some a, some b => (max a b - min a b) ≤ limit
  | _, _ => false

/-- A pair has failed: the fourth of STARTING, and any pair of a CHECK fault, starts the check timer (R7). -/
def ChannelRec.failPair (r : ChannelRec) (now : Nat) : ChannelRec :=
  match r.state with
  | .starting =>
    if r.pairsFailed + 1 = 4 then
      { r with state := .fault .check, pairsFailed := 4, pairFirst := none, checkTimer := some now }
    else { r with pairsFailed := r.pairsFailed + 1, pairFirst := none }
  | _ => { r with pairFirst := none, checkTimer := some now }

/-- The second sample of a pair has come: pass, or fail as the state counts it (R6, R7). -/
def ChannelRec.judgePair (r : ChannelRec) (limit now : Nat) (first : Option Nat) (v : Option (Nat × Bool)) : ChannelRec :=
  match v with
  | some (x, sat) =>
    if pairPasses limit first (some x) then ChannelRec.enterService x sat else r.failPair now
  | none => r.failPair now

/-- A sample of a channel under its pair check (R6, R7). -/
def ChannelRec.pairSample (r : ChannelRec) (limit now : Nat) (v : Option (Nat × Bool)) : ChannelRec :=
  match r.pairFirst with
  | none => { r with pairFirst := some (v.map (·.1)) }
  | some first => r.judgePair limit now first v

/-- A sample applied to the channel's record (R5 to R9). -/
def ChannelRec.sample (r : ChannelRec) (limit now : Nat) (v : Option (Nat × Bool)) : ChannelRec :=
  match r.state with
  | .starting => r.pairSample limit now v
  | .fault .check => if r.checkTimer.isSome then r else r.pairSample limit now v
  | .inService =>
    match v with
    | some (x, sat) => r.feed x sat
    | none =>
      if r.invalidCount + 1 = 5 then
        { r with state := .fault .sample, history := [], filtered := none, invalidCount := 5, validCount := 0 }
      else { r with invalidCount := r.invalidCount + 1 }
  | .fault .sample =>
    match v with
    | some (x, sat) =>
      if r.validCount + 1 = 20 then ChannelRec.enterService x sat else { r with validCount := r.validCount + 1 }
    | none => { r with validCount := 0 }

/-! ## Conditions on the control level -/

/-- HIGH_LEVEL on a valid control level (R19). -/
def State.judgeHighLevel (s : State) : State :=
  match s.controlLevel with
  | some v =>
    let high := s.img.level.highAlarm
    let c := if high ≤ v then true else if v + 100 < high then false else s.lvu.highLevel
    ({ s with lvu := { s.lvu with highLevel := c } }).setCondition .highLevel c
  | none => s

/-- The float-check comparison (R18). -/
def State.floatsDisagree (s : State) : Bool :=
  match s.controlLevel with
  | some v =>
    (s.inputs.floatHighHigh && v + s.img.level.floatTol < s.img.level.hhFloat) ||
      (s.inputs.floatLowLow && s.img.level.llFloat + s.img.level.floatTol < v)
  | none => false

/-- The float-check comparison is made again: it starts the timer when it begins to hold, and ends timer and condition when it
ceases (R18). -/
def State.judgeFloats (s : State) : State :=
  if s.floatsDisagree then
    if s.lvu.floatCheck.isNone && !s.lvu.floatDisagree then
      { s with lvu := { s.lvu with floatCheck := some s.uptime } }
    else s
  else ({ s with lvu := { s.lvu with floatCheck := none, floatDisagree := false } }).setCondition .floatDisagree false

/-- What follows a well event at which the control level may have moved; `old` is the state before the event (R13, R18 to R20,
R33, R47, R107, R131, R136, R42). -/
def State.settleLevel (s : State) (old : State) : State :=
  let s := s.setCondition .levelDisagree s.lvu.disagreement.present
  let s := s.judgeHighLevel.judgeFloats
  let moved : Bool := s.controlLevel != old.controlLevel
  let s := if moved then s.offerPeak.judgeCalls.judgeStage.judgePoint .n1 else s
  let s := s.followSource old.source
  (if moved then s.predict else s).reform

/-- The comparison of the two well channels (R15). -/
def Disagreement.compare (st : Disagreement) (apart : Bool) (now : Nat) : Disagreement :=
  match st, apart with
  | .agree, true => .disagreePending now
  | .disagreePending _, false => .agree
  | .disagree, false => .agreePending now
  | .agreePending _, true => .disagree
  | st, _ => st

/-- The disagreement state after a change of either well channel: AGREE unless both are in service, else compared (R15, R16). -/
def State.judgeDisagreement (s : State) : State :=
  let d := match s.level .wellPri, s.level .wellSec with
    | some a, some b =>
      if s.serving .wellPri && s.serving .wellSec then
        s.lvu.disagreement.compare (s.img.level.disagreeMm < max a b - min a b) s.uptime
      else .agree
    | _, _ => .agree
  { s with lvu := { s.lvu with disagreement := d } }

/-- The level mode and the FLOAT_BACKUP condition after a change of a well channel (R13, R14). -/
def State.judgeLevelMode (s : State) (old : State) : State :=
  let s := s.reportIf (s.levelMode != old.levelMode) .levels
  let now := s.floatBackupNow
  if now = s.lvu.floatBackup then s
  else
    (({ s with lvu := { s.lvu with floatBackup := now } }).setCondition .floatBackup now).append (.levelMode now)

/-- A well channel's record has changed (section 1.3). -/
def State.wellMoved (s : State) (old : State) : State :=
  (s.judgeDisagreement.judgeLevelMode old).settleLevel old

/-- The fault condition of a level channel (R12). -/
def Channel.faultPoint : Channel → Option AlarmPoint
  | .wellPri => some .wellPriFault
  | .wellSec => some .wellSecFault
  | .inlet => some .inletFault
  | .screenOut => some .screenOutFault
  | .cur _ => none

def ChannelState.isFault : ChannelState → Bool
  | .fault _ => true
  | .starting | .inService => false

/-- A channel's record may have changed its state or its value: LEVELS, its fault condition, and what its readers do (R12, R13, R20, R70, R87,
R107); `old` is the state before the event. -/
def State.channelMoved (s : State) (old : State) (ch : Channel) : State :=
  if s.chanState ch = old.chanState ch ∧ s.level ch = old.level ch then s
  else
  let st := s.chanState ch
  let s := s.reportIf (st != old.chanState ch) .levels
  let s := match Channel.faultPoint ch with
    | some a => if st.isSome then s.setCondition a ((st.map ChannelState.isFault).getD false) else s.clearPoint a
    | none => s
  match ch with
  | .wellPri | .wellSec => s.wellMoved old
  | .inlet =>
    let s := if s.level ch != old.level ch then s.judgePoint .n2 else s
    s.diffMoved old.diffHigh
  | .screenOut => s.diffMoved old.diffHigh
  | .cur p => s.judgeFaults p

end Sys2Proof.Machine
end

