-- ==== Sys2Proof/Machine/Operands.lean ====
section
/-! DEFINITION. The operand forms: the figures of a request's PAYLOAD, the encoding of answer data, the layout of event records,
the CRC and the frames (sections 10.1, 10.2 and 9.6). -/

namespace Sys2Proof.Machine

/-! ## Figures of a payload -/

/-- A figure, most significant byte first (section 10.1). -/
def figure (bs : List Byte) : Nat := bs.foldl (fun n b => n * 256 + b.toNat) 0

/-- The figure of the `n` bytes from byte `i` of a payload. -/
def part (bs : List Byte) (i n : Nat) : Nat := figure ((bs.drop i).take n)

/-- The points of a table in a WRITE_TABLE payload: a 2-byte key and a 4-byte value each (R186). -/
def pointsOf : List Byte → List TablePoint
  | a :: b :: c :: d :: e :: f :: rest => ⟨figure [a, b], figure [c, d, e, f]⟩ :: pointsOf rest
  | _ => []

/-! ## Encoding of data (R176) -/

/-- The lowest `k` bytes of a number, most significant byte first. -/
def bytesOf : Nat → Nat → List Byte
  | 0, _ => []
  | k + 1, n => bytesOf k (n / 256) ++ [BitVec.ofNat 8 n]

/-- A figure of an answer in `k` bytes; what a figure too wide for them sends is free (log entry 11). -/
def field (k n : Nat) : List Byte := bytesOf k (if n < 256 ^ k then n else Config.wideFigure k n)

/-- A signed figure in `k` bytes, two's complement (R176). -/
def signedField (k : Nat) (v : Int) : List Byte := bytesOf k (v % (256 ^ k : Int)).toNat

def u8 (n : Nat) : List Byte := field 1 n
def u16 (n : Nat) : List Byte := field 2 n
def u32 (n : Nat) : List Byte := field 4 n
def u64 (n : Nat) : List Byte := field 8 n

/-- A flag: 0 clear, 1 set (log entry 10); an item worded as whether something holds is 1 when it does (DESIGN CHOICE, log entry 37). -/
def flag (b : Bool) : List Byte := [if b then 1 else 0]

/-- A value named "active or inactive", or "present or absent", numbered in that order (R176, log entry 10). -/
def active (b : Bool) : List Byte := [if b then 0 else 1]

/-- An item that may be absent: its presence byte, then its field when present (R176). -/
def optional {α : Type} (f : α → List Byte) : Option α → List Byte
  | some x => 1 :: f x
  | none => [0]

/-- A list: a one-byte count of its entries, then the entries (R176). -/
def listed {α : Type} (f : α → List Byte) (xs : List α) : List Byte := u8 xs.length ++ (xs.map f).flatten

/-- A time field (section 9.6). An uptime past 4,294,967,295 s sends a free value, inside a record too (DESIGN CHOICE, log entry
41). -/
def timeField : Stamp → List Byte
  | .clock r => bytesOf 1 (r.date.year - 2000) ++ bytesOf 1 r.date.month ++ bytesOf 1 r.date.day ++ bytesOf 3 r.second
  | .uptime n => [255] ++ field 4 n ++ [0]

/-- A bare date in 3 bytes, year less 2000, month, day, as section 9.6 lays out the date of a DAILY_SUMMARY; in an answer this form is
the model's (DESIGN CHOICE, log entry 37). -/
def dateField (d : Date) : List Byte := bytesOf 1 (d.year - 2000) ++ bytesOf 1 d.month ++ bytesOf 1 d.day

/-- An uptime in ms as a 4-byte count of tenths, truncated (R176). -/
def uptimeField (ms : Nat) : List Byte := u32 (ms / 100)

/-! ## Event records (section 9.6) -/

/-- A figure of a record: wider than its field, the largest value the field holds (section 9.6). -/
def held (k n : Nat) : List Byte := bytesOf k (min n (256 ^ k - 1))

def FaultCond.code : FaultCond → Nat
  | .failToStart => 1 | .runLost => 2 | .overtemp => 3 | .overcurrent => 4 | .undercurrent => 5

def Seat.code : Seat → Nat
  | .free => 0
  | .held l => l.toNat

def SeatCause.code : SeatCause → Nat
  | .claim => 1 | .release => 2 | .expiry => 3 | .localKey => 4

def EndReason.code : EndReason → Nat
  | .normal => 1 | .sensorFault => 2 | .powerLoss => 3

/-- The body of a DAILY_SUMMARY record. -/
def DaySummary.body (d : DaySummary) : List Byte :=
  dateField d.date ++ flag d.clockChanged ++
  listed (fun (p, f) => held 1 (No4.toNat p) ++ held 4 f.runSeconds ++ held 2 f.starts ++ held 1 f.trips) d.pumps ++
  held 4 d.pumpedLitres ++ held 4 d.wellInflow ++ held 4 d.stationInflow ++ held 4 d.unknownIntervals ++
  listed (fun (pt, l, n) => held 1 (No2.toNat pt) ++ held 4 l ++ held 2 n) d.points ++
  listed (fun (sc, n) => held 1 (No2.toNat sc) ++ held 2 n) d.screens ++
  (match d.peak with
    | some (v, t) => [1] ++ held 2 v ++ timeField t
    | none => List.replicate 9 0) ++
  held 4 d.meterSilentSeconds ++ held 4 d.floatBackupSeconds

/-- The kind number and the body of a record. -/
def RecordBody.encode : RecordBody → Nat × List Byte
  | .power warm gen => (1, flag warm ++ flag gen)
  | .generator on => (2, flag on)
  | .levelMode entered => (3, flag (!entered))
  | .pumpTrip p c n => (4, held 1 (No4.toNat p) ++ held 1 (FaultCond.code c) ++ held 1 n)
  | .pumpLockout p => (5, held 1 (No4.toNat p))
  | .lockoutCleared p l => (6, held 1 (No4.toNat p) ++ held 1 l.toNat)
  | .screenJam sc n => (7, held 1 (No2.toNat sc) ++ held 1 n)
  | .overflowStart pt t => (8, held 1 (No2.toNat pt) ++ timeField t)
  | .overflowEnd pt t u d h v why x =>
    (9, held 1 (No2.toNat pt) ++ timeField t ++ timeField u ++ held 4 d ++ held 2 h ++ held 4 v ++ held 1 why.code ++
      flag x)
  | .seat h c => (10, held 1 h.code ++ held 1 c.code)
  | .settingsSaved l => (11, held 1 l.toNat)
  | .clockSet l old new =>
    (12, held 1 l.toNat ++ timeField (.clock new) ++ (match old with
      | some r => timeField (.clock r)
      | none => []))
  | .dailySummary d => (13, d.body)

/-- A record as a READ_EVENTS answer holds it: length, kind, sequence number, stamp, body. -/
def LogRecord.encode (r : LogRecord) : List Byte :=
  let (kind, body) := r.body.encode
  bytesOf 1 (body.length + 12) ++ bytesOf 1 kind ++ bytesOf 4 r.seq ++ timeField r.stamp ++ body

/-- As many whole records as `max` allows and as fit in `room` bytes (R159, R172). -/
def fitting : Nat → Nat → List LogRecord → List LogRecord
  | n + 1, room, r :: rest => if r.encode.length ≤ room then r :: fitting n (room - r.encode.length) rest else []
  | _, _, _ => []

/-! ## CRC and frames (section 10.1) -/

/-- One bit of the check: polynomial 0x1021, most significant bit first. -/
def crcBit (c : BitVec 16) : BitVec 16 := if c.msb then (c <<< 1) ^^^ 0x1021#16 else c <<< 1

def crcByte (c : BitVec 16) (b : Byte) : BitVec 16 :=
  crcBit (crcBit (crcBit (crcBit (crcBit (crcBit (crcBit (crcBit (c ^^^ (b.setWidth 16 <<< 8)))))))))

/-- The CRC of a run of bytes: initial value 0xFFFF, no reflection, no final inversion. -/
def crc (bs : List Byte) : BitVec 16 := bs.foldl crcByte 0xFFFF#16

/-- The statuses (section 10.1). -/
inductive Status where
  | done | unknown | length | notSeat | localKey | seatHeld | busy | range | conflict | state
  deriving DecidableEq, Repr

def Status.code : Status → Byte
  | .done => 0 | .unknown => 1 | .length => 2 | .notSeat => 3 | .localKey => 4
  | .seatHeld => 5 | .busy => 6 | .range => 7 | .conflict => 8 | .state => 9

/-- A frame of an answer: SYNC, LEN, CODE with its top bit set, the body from STATUS on, CRC (log entry 19). -/
def answerFrame (code : Byte) (body : List Byte) : Frame :=
  let inner := BitVec.ofNat 8 body.length :: (code ||| 0x80#8) :: body
  0xA5#8 :: inner ++ bytesOf 2 (crc inner).toNat

/-- A refused answer carries STATUS alone. -/
def refusal (code : Byte) (st : Status) : List Frame := [answerFrame code [st.code]]

/-- Data cut into pieces of at most 238 bytes; no data is one empty piece. The number bounds the pieces. -/
def pieces : Nat → List Byte → List (List Byte)
  | 0, bs => [bs]
  | n + 1, bs => if bs.length ≤ 238 then [bs] else bs.take 238 :: pieces n (bs.drop 238)

/-- The DONE frames of the pieces: the segment byte numbers each from `i`, its top bit set in the last (section 10.1). -/
def segmentFrames (code : Byte) : Nat → List (List Byte) → List Frame
  | _, [] => []
  | i, [p] => [answerFrame code (Status.done.code :: (BitVec.ofNat 8 (i % 128) ||| 0x80#8) :: p)]
  | i, p :: rest =>
    answerFrame code (Status.done.code :: BitVec.ofNat 8 (i % 128) :: p) :: segmentFrames code (i + 1) rest

/-- The frames of a DONE answer (R172). -/
def doneFrames (code : Byte) (bs : List Byte) : List Frame := segmentFrames code 0 (pieces bs.length bs)

end Sys2Proof.Machine
end

