-- ==== Sys2Proof/Machine/TripOps.lean ====
section
/-! DEFINITION. Trips, lockouts and the returns from them (sections 4.4 and 4.5). -/

namespace Sys2Proof.Machine

/-- A trip that has brought the counter to `lockout_trips` locks the pump out within the event (R77). -/
def State.lockOut (s : State) (p : Pump) : State :=
  (((s.modProt p fun r => { r with protection := .lockedOut, rest := none, forgive := none }).setCondition (.pump p .trip)
    false).append (.pumpLockout p)).setCondition (.pump p .lockout) true

/-- A trip (R73) with the lockout it may bring (R77), before the Duty Sequencer re-judges its queue. -/
def State.tripPump (s : State) (p : Pump) (c : FaultCond) : State :=
  let n := (s.ppr.get p).trips + 1
  let t := if s.runCmd p then s.dropPump p else s
  let t := ((t.modProt p fun r =>
    { r with
      faults := .allStopped, protection := .tripped, trips := n, rest := some s.uptime, awaitingCool := false
      forgive := some s.uptime, lastTrip := some (c, s.uptime) }).report .pumps).append (.pumpTrip p c n)
  let t := (t.credit (·.addTrip p)).setCondition (.pump p .trip) true
  if s.img.prot.lockoutTrips ≤ n then t.lockOut p else t

/-- A trip with what the Duty Sequencer does at it (R73, R24, R25, R29, R42). -/
def State.trip (s : State) (p : Pump) (c : FaultCond) : State := (s.tripPump p c).dutyEvent s.autoCommanded

/-- A fault timer of a pump has run its duration (R66). -/
def State.faultRun (s : State) (p : Pump) (c : FaultCond) : Bool :=
  match (s.ppr.get p).faults.get c with
  | some t => s.passed t (s.img.faultSeconds c)
  | none => false

/-- A fault timer that has run its duration trips its pump (R66). -/
def State.expireFault (s : State) (p : Pump) (c : FaultCond) : State := if s.faultRun p c then s.tripPump p c else s

/-- An OVERTEMP timer of 0 s expires at the moment it starts (R66): the trip belongs to the event that started the timer, and the one
formation of R42 follows both (log entry 23). -/
def State.overtempAtOnce (s : State) (p : Pump) : State :=
  if s.img.prot.overtempS = 0 then s.expireFault p .overtemp else s

/-- A pump returns to HEALTHY from its rest (R75): its conditions are judged again, before the queue takes it back. -/
def State.recover (s : State) (p : Pump) : State :=
  ((((s.modProt p fun r => { r with protection := .healthy, rest := none, awaitingCool := false }).report
    .pumps).setCondition (.pump p .trip) false).judgeFaults p).overtempAtOnce p

/-- A pump returns to HEALTHY, and the queue takes it back (R75, R23, R42). -/
def State.returnHealthy (s : State) (p : Pump) : State := (s.recover p).dutyEvent s.autoCommanded

/-- A rest ends with OVERTEMP active: the pump awaits cool (R75). -/
def State.awaitCool (s : State) (p : Pump) : State := s.modProt p fun r => { r with rest := none, awaitingCool := true }

/-- The rest of a pump is over: HEALTHY, or awaiting cool while OVERTEMP is active (R75). -/
def State.endRest (s : State) (p : Pump) : State :=
  if s.inputs.overtemp.get p then s.awaitCool p else s.returnHealthy p

/-- The forgive timer expires (R76). -/
def State.forgive (s : State) (p : Pump) : State :=
  let r := s.ppr.get p
  if r.trips = 0 ∨ r.protection = .lockedOut then s.modProt p fun r => { r with forgive := none }
  else
    (s.modProt p fun r =>
      { r with trips := r.trips - 1, forgive := if r.trips - 1 = 0 then none else some s.uptime }).report .pumps

/-- One counter set against a new limit (R79). -/
def ProtectedPump.limit (r : ProtectedPump) (l : Nat) : ProtectedPump :=
  if r.protection = .lockedOut then { r with trips := l }
  else if l ≤ r.trips then { r with trips := l - 1, forgive := if l - 1 = 0 then none else r.forgive }
  else r

/-- Every pump's counter set against a new limit (R79). -/
def limitAll (q : Quad ProtectedPump) (l : Nat) : Quad ProtectedPump :=
  ⟨q.v1.limit l, q.v2.limit l, q.v3.limit l, q.v4.limit l⟩

end Sys2Proof.Machine
end

