-- ==== Sys2Proof/Machine/LinkOps.lean ====
section
/-! DEFINITION. The Link Interface's own operations (Chapter 10): the arrival of a valid frame, the checks, the answers, BUSY, and
seat changes. -/

namespace Sys2Proof.Machine

/-- What a request comes to: refused with a status, done with its data, or its work begun (R173, R174). -/
inductive Reply where
  | refused (st : Status)
  | done (data : List Byte)
  | working
  deriving DecidableEq, Repr

def State.link (s : State) (l : Link) : LinkRec := s.lnk.links.get l

def State.holds (s : State) (l : Link) : Bool := s.lnk.seat == .held l

/-- A valid frame: the receiver is in HUNT with its gap timer stopped, and a frame of the holder restarts the hold timer while
LOCAL_KEY is inactive (R170, R171, R180). -/
def State.arrive (s : State) (l : Link) : State :=
  let t := s.modLink l fun r => { r with receive := .hunt, gap := none }
  if s.holds l && !s.inputs.localKey then { t with lnk := { t.lnk with holdTimer := some s.uptime } } else t

/-- Frames are handed to TXD, or wait for the end of a BUSY answer being sent; the link is in SENDING (R173). -/
def State.sendAnswer (s : State) (l : Link) (frames : List Frame) : State :=
  s.modLink l fun r =>
    match r.transmit with
    | .busy _ _ => { r with request := .sending, answerWaiting := frames }
    | _ => { r with request := .sending, transmit := .answer frames s.uptime }

/-- The reply to a request taken in FREE (R172 to R174). -/
def State.give (s : State) (l : Link) (code : Byte) : Reply → State
  | .refused st => s.sendAnswer l (refusal code st)
  | .done data => s.sendAnswer l (doneFrames code data)
  | .working => s.modLink l fun r => { r with request := .working }

/-- A request in WORKING or SENDING: answered BUSY, or discarded while the link holds a BUSY answer (R173). -/
def State.giveBusy (s : State) (l : Link) (code : Byte) : State :=
  s.modLink l fun r =>
    match r.transmit, r.busyWaiting with
    | .busy _ _, _ => r
    | _, some _ => r
    | .idle, none => { r with transmit := .busy (answerFrame code [Status.busy.code]) s.uptime }
    | .answer _ _, none => { r with busyWaiting := some (answerFrame code [Status.busy.code]) }

/-- The checks the Link Interface makes itself, in their order: length, then seat (R175). -/
def State.check (s : State) (l : Link) (lengthOk seatNeeded : Bool) : Option Status :=
  if !lengthOk then some .length
  else if seatNeeded && !s.holds l then some .notSeat
  else none

/-- A request arrives: it is checked and carried out on a FREE link, else met with BUSY (R171, R173, R175). `work` is what the
owning block does with it. -/
def State.request (s : State) (l : Link) (code : Byte) (lengthOk seatNeeded : Bool) (work : State → State × Reply) : State :=
  if s.isHeld then s
  else
    let t := s.arrive l
    match (t.link l).request with
    | .free =>
      match t.check l lengthOk seatNeeded with
      | some st => t.give l code (.refused st)
      | none =>
        let r := work t
        r.1.give l code r.2
    | .working | .sending => t.giveBusy l code

/-- A read: open to both links, of one length, its answer formed from the state as it stands. -/
def State.read (s : State) (l : Link) (code : Byte) (lengthOk : Bool) (data : State → List Byte) : State :=
  s.request l code lengthOk false fun t => (t, .done (data t))

/-- A refused request has no effect. -/
def State.refuse (s : State) (st : Status) : State × Reply := (s, .refused st)

/-- A request carried out, with no data in its answer. -/
def State.carryOut (s : State) : State × Reply := (s, .done [])

/-- The holder of the seat changes (R182): every override is cancelled, the run set is re-formed, a SEAT record is appended and
SEAT reported. -/
def State.changeSeat (s : State) (holder : Seat) (cause : SeatCause) : State :=
  let t := { s with lnk := { s.lnk with seat := holder } }
  (((t.each No4.all fun u p => u.setOverride p none).reform).append (.seat holder cause)).report .seat

/-- The hold timer runs from now, or is stopped while LOCAL_KEY is active (R180). -/
def State.startHold (s : State) : State :=
  { s with lnk := { s.lnk with holdTimer := if s.inputs.localKey then none else some s.uptime } }

def State.stopHold (s : State) : State := { s with lnk := { s.lnk with holdTimer := none } }

/-- The bytes of frames on a line. -/
def frameBytes (fs : List Frame) : Nat := (fs.map List.length).sum

/-- The bytes a link is sending, with the moment their sending began; none while TXD idles. -/
def Transmit.sent : Transmit → Option (Nat × Nat)
  | .idle => none
  | .answer fs t => some (frameBytes fs, t)
  | .busy f t => some (f.length, t)

/-- The ms in which bytes are sent: ten bit times a byte at 57,600 baud, rounded up (section 10.1, log entry 24). -/
def sendingMs (bytes : Nat) : Nat := (bytes * 10000 + 57599) / 57600

/-- The last byte of what a link was sending has gone out: an answer leaves the link FREE and lets a BUSY answer follow, a BUSY
answer lets a waiting answer follow (R173). -/
def LinkRec.sentAll (r : LinkRec) (now : Nat) : LinkRec :=
  match r.transmit with
  | .idle => r
  | .answer _ _ =>
    match r.busyWaiting with
    | some f => { r with request := .free, transmit := .busy f now, busyWaiting := none }
    | none => { r with request := .free, transmit := .idle }
  | .busy _ _ =>
    if r.answerWaiting.isEmpty then { r with transmit := .idle }
    else { r with transmit := .answer r.answerWaiting now, answerWaiting := [] }

end Sys2Proof.Machine
end

