-- ==== Sys2Proof/Machine/Levels.lean ====
section
/-! DEFINITION. The commands of Chapter 1: samples, the level timers, the floats and READ_LEVELS. -/

namespace Sys2Proof.Machine

/-- SAMPLE (R1 to R9): the result goes to its channel's record, if the channel is installed; the rotation moves on. A valid sample may
be the first of a well channel since its rescale, judged on the control level that the sample leaves (R131). -/
def execSample (ch : Channel) (counts : BitVec 12) (s : State) : Host.Outcome State Fault Refusal :=
  .next (s.live fun s =>
    let t := { s with lvu := { s.lvu with scanNext := Channel.following ch } }
    match t.chan ch with
    | none => t
    | some r =>
      let v := t.img.classify ch counts.toNat
      let u := t.setChan ch (r.sample t.img.level.initLimit t.uptime v)
      let w := u.channelMoved t ch
      if v.isSome then w.seeRescaled ch else w)

/-- CHECK_TIMER_EXPIRY (R7): the channel's next two samples form a pair. -/
def execCheckTimerExpiry (ch : Channel) (s : State) : Host.Outcome State Fault Refusal :=
  .next (match s.chan ch with
    | none => s
    | some r => s.onExpiry r.checkTimer 10 fun s => s.setChan ch { r with checkTimer := none, pairFirst := none })

/-- The timer of the disagreement state, while it runs (R15). -/
def Disagreement.timer : Disagreement → Timer
  | .disagreePending t | .agreePending t => some t
  | .agree | .disagree => none

/-- The disagreement state after its timer's expiry (R15). -/
def Disagreement.expired : Disagreement → Disagreement
  | .disagreePending _ => .disagree
  | .agreePending _ => .agree
  | d => d

/-- The disagreement timer has expired: the state moves, and the control level with it (R13, R15). -/
def State.endDisagreement (s : State) : State :=
  ({ s with lvu := { s.lvu with disagreement := s.lvu.disagreement.expired } }).settleLevel s

/-- DISAGREE_TIMER_EXPIRY (R15). -/
def execDisagreeTimerExpiry (s : State) : Host.Outcome State Fault Refusal :=
  .next (s.onExpiry s.lvu.disagreement.timer s.img.level.disagreeS State.endDisagreement)

def Inputs.getFloat (i : Inputs) : FloatSwitch → Bool
  | .lowLow => i.floatLowLow
  | .high => i.floatHigh
  | .highHigh => i.floatHighHigh

def Inputs.setFloat (i : Inputs) (f : FloatSwitch) (a : Bool) : Inputs :=
  match f with
  | .lowLow => { i with floatLowLow := a }
  | .high => { i with floatHigh := a }
  | .highHigh => { i with floatHighHigh := a }

/-- What a float's change does to the latch (R34) and to its alarm condition (R17). -/
def State.floatMoved (s : State) (f : FloatSwitch) (a : Bool) : State :=
  match f with
  | .lowLow =>
    ({ s with dsq := { s.dsq with latch := if a then false else s.dsq.latch } }).setCondition .lowLowFloat a
  | .high => { s with dsq := { s.dsq with latch := if a then true else s.dsq.latch } }
  | .highHigh => s.setCondition .highHighFloat a

/-- FLOAT_CHANGE (R17, R18, R34, R41). -/
def execFloatChange (f : FloatSwitch) (a : Bool) (s : State) : Host.Outcome State Fault Refusal :=
  .next (s.onChange (s.inputs.getFloat f) a (fun i => i.setFloat f a) fun s => ((s.floatMoved f a).judgeFloats).reform)

/-- FLOAT_CHECK_TIMER_EXPIRY (R18): FLOAT_DISAGREE appears. -/
def execFloatCheckTimerExpiry (s : State) : Host.Outcome State Fault Refusal :=
  .next (s.onExpiry s.lvu.floatCheck 10 fun s =>
    ({ s with lvu := { s.lvu with floatCheck := none, floatDisagree := true } }).setCondition .floatDisagree true)

/-! ## READ_LEVELS (R21) -/

def LevelMode.code : LevelMode → Nat
  | .normal => 0 | .single => 1 | .floatBackup => 2

def Disagreement.code : Disagreement → Nat
  | .agree => 0 | .disagreePending _ => 1 | .disagree => 2 | .agreePending _ => 3

/-- A channel's state, numbered in the order of section 1.2: STARTING 0, IN_SERVICE 1, FAULT 2 (R21, R176, log entry 10). -/
def ChannelState.code : ChannelState → Nat
  | .starting => 0 | .inService => 1 | .fault _ => 2

/-- A fault's cause, numbered in the order of section 1.2: CHECK 0, SAMPLE 1 (R21, R176, log entry 10). -/
def ChannelState.cause : ChannelState → Option Nat
  | .fault .check => some 0
  | .fault .sample => some 1
  | .starting | .inService => none

def channelEntry (ch : Channel) (r : ChannelRec) : List Byte :=
  u8 (Channel.number ch) ++ u8 r.state.code ++ optional u8 r.state.cause ++ optional u16 r.value ++ flag r.saturated

/-- The data of READ_LEVELS (R21, R176). -/
def State.levelsData (s : State) : List Byte :=
  u8 s.levelMode.code ++ optional u16 s.controlLevel ++ u8 s.lvu.disagreement.code ++ active s.inputs.floatLowLow ++
  active s.inputs.floatHigh ++ active s.inputs.floatHighHigh ++
  listed (fun (ch, r) => channelEntry ch r) (Channel.all.filterMap fun ch => (s.chan ch).map fun r => (ch, r))

/-- READ_LEVELS (R21). -/
def execReadLevels (l : Link) (b : List Byte) (s : State) : Host.Outcome State Fault Refusal :=
  .next (s.read l 0x01 b.isEmpty State.levelsData)

end Sys2Proof.Machine
end

