-- ==== Sys2Proof/Machine/Duty.lean ====
section
/-! DEFINITION. The commands of Chapter 2: the run timers, the start histories, the drive speeds, PUMP_COMMAND, SET_ROTATION and
READ_PUMPS. -/

namespace Sys2Proof.Machine

/-- MIN_RUN_EXPIRY (R31): the run set is re-formed with the timer expired. -/
def execMinRunExpiry (p : Pump) (s : State) : Host.Outcome State Fault Refusal :=
  .next (s.onExpiry (s.dsq.pumps.get p).minRun s.img.duty.minRunS fun s =>
    (s.modDuty p fun d => { d with minRun := none }).reform)

/-- MIN_OFF_EXPIRY (R31). -/
def execMinOffExpiry (p : Pump) (s : State) : Host.Outcome State Fault Refusal :=
  .next (s.onExpiry (s.dsq.pumps.get p).minOff s.img.duty.minOffS fun s =>
    (s.modDuty p fun d => { d with minOff := none }).reform)

/-- START_HISTORY_AGE_OUT (R32): the oldest entry goes 3600 s of uptime after it. -/
def execStartHistoryAgeOut (p : Pump) (s : State) : Host.Outcome State Fault Refusal :=
  .next (s.live fun s =>
    match (s.dsq.pumps.get p).history with
    | h :: rest => ((s.reach (seconds (h + 3600))).modDuty p fun d => { d with history := rest }).reform
    | [] => s)

/-- One ramp step of a driven commanded pump (R49). -/
def State.ramp (s : State) (p : Pump) (at_ : Nat) : State :=
  s.modDuty p fun d =>
    { d.setRef (rampToward d.speedRef (s.target p) s.img.duty.rampPct) with rampNext := some (at_ + 1000) }

/-- RAMP_STEP (R49). -/
def execRampStep (p : Pump) (s : State) : Host.Outcome State Fault Refusal :=
  .next (s.live fun s =>
    match (s.dsq.pumps.get p).rampNext with
    | some t => (s.reach t).ramp p t
    | none => s)

/-- SPEED_REF_PERIOD_END (R50): the pending duty comes into force. -/
def execSpeedRefPeriodEnd (p : Pump) (s : State) : Host.Outcome State Fault Refusal :=
  .next (s.live fun s =>
    if s.img.drive p then s.modDuty p fun d => { d with dutyInForce := d.pendingDuty, refInForce := d.speedRef } else s)

/-! ## PUMP_COMMAND and SET_ROTATION -/

/-- The fixed speed of a FORCE_RUN: none for no speed or a speed of 0, else raised to `min_speed_pct` (R43). -/
def fixedSpeed (m : Image) (v : Nat) : Option Nat := if v = 0 then none else some (max v m.duty.minSpeed)

/-- An accepted PUMP_COMMAND places or removes the override (R43). -/
def State.command (s : State) (l : Link) (p : Pump) (action speed : Nat) : State :=
  match action with
  | 0 => s.setOverride p none
  | 1 => (s.setOverride p (some ⟨.forceRun (fixedSpeed s.img speed), l⟩)).report .pumps
  | _ => (s.setOverride p (some ⟨.forceStop, l⟩)).report .pumps

/-- What the Duty Sequencer does with a PUMP_COMMAND of the seat holder (R43). -/
def State.pumpCommand (s : State) (l : Link) (b : List Byte) : State × Reply :=
  let action := part b 1 1
  let speed := part b 2 1
  match No4.ofNat? (part b 0 1) with
  | none => s.refuse .range
  | some p =>
    if 2 < action ∨ 100 < speed then s.refuse .range
    else if !s.dsq.queue.contains p then s.refuse .state
    else (s.command l p action speed).reform.carryOut

/-- PUMP_COMMAND (R43 to R46). -/
def execPumpCommand (l : Link) (b : List Byte) (s : State) : Host.Outcome State Fault Refusal :=
  .next (s.request l 0x33 (b.length == 2 || b.length == 3) true fun s => s.pumpCommand l b)

/-- What the Duty Sequencer does with a SET_ROTATION of the seat holder (R26). -/
def State.setRotation (s : State) (b : List Byte) : State × Reply :=
  match No4.ofNat? (part b 0 1) with
  | none => s.refuse .range
  | some p =>
    if !s.dsq.queue.contains p then s.refuse .state
    else (s.setQueue (p :: s.dsq.queue.filter (· != p))).reform.carryOut

/-- SET_ROTATION (R26). -/
def execSetRotation (l : Link) (b : List Byte) (s : State) : Host.Outcome State Fault Refusal :=
  .next (s.request l 0x34 (b.length == 1) true fun s => s.setRotation b)

/-! ## READ_PUMPS (R52) -/

def Stage.code : Stage → Nat
  | .min => 0 | .mid => 1 | .full => 2

def RunState.code : RunState → Nat
  | .stopped => 0 | .waiting => 1 | .starting => 2 | .running => 3

def Mode.code : Mode → Nat
  | .off => 0 | .auto => 1 | .hand => 2 | .switchFault => 3

def Protection.code : Protection → Nat
  | .healthy => 0 | .alert => 1 | .tripped => 2 | .lockedOut => 3

/-- An override: its action numbered as PUMP_COMMAND numbers it, its fixed speed, its link (R52). The presence byte of the fixed speed is
sent under FORCE_RUN and not under FORCE_STOP (DESIGN CHOICE, log entry 37). -/
def Override.encode (o : Override) : List Byte :=
  (match o.action with
    | .forceRun v => u8 1 ++ optional u8 v
    | .forceStop => u8 2) ++ u8 o.owner.toNat

/-- The time remaining of a timer in tenths, present while it runs and the test holds. -/
def State.remainingIf (s : State) (c : Bool) (t : Timer) (secs : Nat) : Option Nat :=
  if c then t.map fun t0 => s.remaining t0 secs else none

def State.pumpEntry (s : State) (p : Pump) : List Byte :=
  let d := s.dsq.pumps.get p
  let r := s.ppr.get p
  u8 p.toNat ++ u8 (modeOf (s.inputs.hoaAuto.get p) (s.inputs.hoaHand.get p)).code ++ u8 r.protection.code ++ u8 r.trips ++
  u8 d.run.code ++ flag (s.dsq.runSet.contains p) ++ optional Override.encode d.override ++
  optional u16 (s.remainingIf d.run.commanded d.minRun s.img.duty.minRunS) ++
  optional u16 (s.remainingIf (d.run == .stopped) d.minOff s.img.duty.minOffS) ++
  u8 d.history.length ++ u8 (s.speedInForce p)

/-- The data of READ_PUMPS (R52, R176). -/
def State.pumpsData (s : State) : List Byte :=
  listed (fun p => u8 (No4.toNat p)) s.dsq.queue ++ u8 s.demand ++ u8 s.cap ++ u8 s.outsideCount ++ u8 s.slots ++
  u8 s.dsq.stage.code ++ listed s.pumpEntry s.pumpList

/-- READ_PUMPS (R52). -/
def execReadPumps (l : Link) (b : List Byte) (s : State) : Host.Outcome State Fault Refusal :=
  .next (s.read l 0x02 b.isEmpty State.pumpsData)

end Sys2Proof.Machine
end

