-- ==== Sys2Proof/Machine/Permit.lean ====
section
/-! DEFINITION. The commands of Chapter 3: the expiry of the spacing timer and READ_PERMIT. -/

namespace Sys2Proof.Machine

/-- The spacing timer expires: the first-ranked request is granted, or the permit becomes OPEN (R58). -/
def State.expireSpacing (s : State) : State :=
  match s.ranked.head? with
  | some _ => s.grantFirst
  | none => { s with spm := { s.spm with permit := .opened } }

/-- The expiry of the spacing timer with the re-formation that a grant brings (R58, R42). -/
def State.endSpacing (s : State) : State :=
  match s.ranked.head? with
  | some _ => s.expireSpacing.reform
  | none => s.expireSpacing

/-- The timer in the permit's state: it runs in SPACING (R58). -/
def StartPermit.timer (m : StartPermit) : Timer :=
  match m.permit with
  | .spacing => some m.spacingStart
  | .opened => none

/-- The spacing in force has become longer than the time since the timer last started: the timer has not expired by it, and an OPEN
permit is in SPACING again, its timer running from the same moment (R58, R59, log entry 35). -/
def State.reclose (s : State) : State :=
  match s.spm.permit with
  | .opened => if s.passed s.spm.spacingStart s.spacing then s else { s with spm := { s.spm with permit := .spacing } }
  | .spacing => s

/-- The spacing timer runs and has run the spacing in force (R58). -/
def State.spacingPassed (s : State) : Bool :=
  match s.spm.timer with
  | some t => s.passed t s.spacing
  | none => false

/-- The spacing in force has changed: a timer that has run the new spacing expires at the change (R58). -/
def State.spacingChanged (s : State) : State := if s.spacingPassed then s.endSpacing else s

/-- SPACING_TIMER_EXPIRY (R58). -/
def execSpacingTimerExpiry (s : State) : Host.Outcome State Fault Refusal :=
  .next (s.onExpiry s.spm.timer s.spacing State.endSpacing)

/-! ## READ_PERMIT (R62) -/

def PermitState.code : PermitState → Nat
  | .opened => 0 | .spacing => 1

/-- A requester: its kind (pump 0, screen 1) and its number. -/
def Requester.encode : Requester → List Byte
  | .pump p => u8 0 ++ u8 p.toNat
  | .screen sc => u8 1 ++ u8 sc.toNat

def State.requestEntry (s : State) (r : Request) : List Byte :=
  r.who.encode ++ flag (s.forcedRequest r) ++ uptimeField r.arrival

/-- The data of READ_PERMIT (R62, R176). -/
def State.permitData (s : State) : List Byte :=
  u8 s.spm.permit.code ++ u8 s.spacing ++ u8 (if s.inputs.onGenerator then 1 else 0) ++
  optional u16 (s.spm.timer.map fun t => s.remaining t s.spacing) ++ listed s.requestEntry s.ranked ++
  optional (fun (w, t) => Requester.encode w ++ uptimeField t) s.spm.lastGrant ++
  optional (fun (p, t) => u8 (No4.toNat p) ++ uptimeField t) s.spm.lastOutside

/-- READ_PERMIT (R62). -/
def execReadPermit (l : Link) (b : List Byte) (s : State) : Host.Outcome State Fault Refusal :=
  .next (s.read l 0x03 b.isEmpty State.permitData)

end Sys2Proof.Machine
end

