-- ==== Sys2Proof/Machine/Protection.lean ====
section
/-! DEFINITION. The commands of Chapter 4: the pump inputs, the protection timers, CLEAR_LOCKOUT and READ_PROTECTION. -/

namespace Sys2Proof.Machine

/-! ## HOA switch -/

def Inputs.getHoa (i : Inputs) (p : Pump) : HoaContact → Bool
  | .auto => i.hoaAuto.get p
  | .hand => i.hoaHand.get p

def Inputs.setHoa (i : Inputs) (p : Pump) (c : HoaContact) (a : Bool) : Inputs :=
  match c with
  | .auto => { i with hoaAuto := i.hoaAuto.set p a }
  | .hand => { i with hoaHand := i.hoaHand.set p a }

/-- The feedback watch of a pump after a change of its mode: NONE outside AUTO, UNCOMMANDED_WATCH on entering AUTO with feedback
and no command (R81, R82). -/
def State.watchMode (s : State) (p : Pump) : State :=
  if s.inAuto p then
    if s.runFb p && !s.runCmd p then s.setWatch p (.uncommanded (some s.uptime)) else s
  else s.setWatch p .idle

/-- An installed pump's mode has changed (R64); `old` is the state before the event. -/
def State.modeMoved (s : State) (old : State) (p : Pump) : State :=
  if s.mode p = old.mode p then s
  else
    (((s.report .pumps).setCondition (.pump p .switchFault) (s.mode p == some .switchFault)).watchMode p).dutyEvent
      old.autoCommanded

/-- HOA_CHANGE (R64, R23, R24, R82). -/
def execHoaChange (p : Pump) (c : HoaContact) (a : Bool) (s : State) : Host.Outcome State Fault Refusal :=
  .next (s.onChange (s.inputs.getHoa p c) a (fun i => i.setHoa p c a) fun t => t.modeMoved s p)

/-! ## Run feedback -/

/-- RUN_FB of an installed pump has gone active (R60, R67, R68, R82). -/
def State.feedbackOn (s : State) (p : Pump) : State :=
  match s.runState p with
  | .starting => s.startConfirm p
  | .running => s.judgeFaults p
  | .stopped | .waiting =>
    let t := s.outsideStart p
    if t.inAuto p then t.setWatch p (.uncommanded (some t.uptime)) else t

/-- RUN_FB of an installed pump has gone inactive (R68, R81, R82). -/
def State.feedbackOff (s : State) (p : Pump) : State :=
  if s.runCmd p then s.judgeFaults p else s.setWatch p .idle

/-- RUN_FB_CHANGE (R82, R38); the inputs of an uninstalled pump are ignored (R24). -/
def execRunFbChange (p : Pump) (a : Bool) (s : State) : Host.Outcome State Fault Refusal :=
  .next (s.onChange (s.inputs.runFb.get p) a (fun i => { i with runFb := i.runFb.set p a }) fun s =>
    if s.pumpIn p then (if a then s.feedbackOn p else s.feedbackOff p).reform else s)

/-! ## Overtemperature and seal leak -/

/-- OVERTEMP of an installed pump has changed (R69, R75). -/
def State.overtempMoved (s : State) (p : Pump) (a : Bool) : State :=
  let r := s.ppr.get p
  if r.protection = .tripped ∧ r.awaitingCool = true ∧ a = false then s.returnHealthy p
  else
    let t := s.judgeFaults p
    if t.img.prot.overtempS = 0 ∧ t.faultRun p .overtemp = true then t.trip p .overtemp else t

/-- OVERTEMP_CHANGE (R69, R75). -/
def execOvertempChange (p : Pump) (a : Bool) (s : State) : Host.Outcome State Fault Refusal :=
  .next (s.onChange (s.inputs.overtemp.get p) a (fun i => { i with overtemp := i.overtemp.set p a }) fun s =>
    if s.pumpIn p then s.overtempMoved p a else s)

/-- SEAL_LEAK of a pump: the seal timer starts, or stops with the condition (R80). -/
def State.sealMoved (s : State) (p : Pump) (a : Bool) : State :=
  if a then s.modProt p fun r => { r with sealTimer := some s.uptime }
  else (s.modProt p fun r => { r with sealTimer := none, sealLeak := false }).setCondition (.pump p .sealLeak) false

/-- SEAL_LEAK_CHANGE (R80). -/
def execSealLeakChange (p : Pump) (a : Bool) (s : State) : Host.Outcome State Fault Refusal :=
  .next (s.onChange (s.inputs.sealLeak.get p) a (fun i => { i with sealLeak := i.sealLeak.set p a }) fun s =>
    if s.pumpIn p then s.sealMoved p a else s)

/-- SEAL_TIMER_EXPIRY (R80): SEAL_LEAK appears. -/
def execSealTimerExpiry (p : Pump) (s : State) : Host.Outcome State Fault Refusal :=
  .next (s.onExpiry (s.ppr.get p).sealTimer 5 fun s =>
    (s.modProt p fun r => { r with sealTimer := none, sealLeak := true }).setCondition (.pump p .sealLeak) true)

/-! ## Protection timers -/

/-- FAULT_TIMER_EXPIRY (R66, R73). -/
def execFaultTimerExpiry (p : Pump) (c : FaultCond) (s : State) : Host.Outcome State Fault Refusal :=
  .next (s.onExpiry ((s.ppr.get p).faults.get c) (s.img.faultSeconds c) fun s => s.trip p c)

/-- UNDERCURRENT_ARM (R71): 10 s have passed since running-since, and the condition is judged. -/
def execUndercurrentArm (p : Pump) (s : State) : Host.Outcome State Fault Refusal :=
  .next (s.onExpiry (s.ppr.get p).runningSince 10 fun s =>
    (s.modProt p fun r => { r with armed := true }).judgeFaults p)

/-- REST_TIMER_EXPIRY (R75). -/
def execRestTimerExpiry (p : Pump) (s : State) : Host.Outcome State Fault Refusal :=
  .next (s.onExpiry (s.ppr.get p).rest s.img.prot.tripRestS fun s => s.endRest p)

/-- FORGIVE_TIMER_EXPIRY (R76). -/
def execForgiveTimerExpiry (p : Pump) (s : State) : Host.Outcome State Fault Refusal :=
  .next (s.onExpiry (s.ppr.get p).forgive s.img.prot.tripForgiveS fun s => s.forgive p)

/-- The timer of a STOP_WATCH (R81). -/
def Watch.stopTimer : Watch → Timer
  | .stopWatch t => t
  | .idle | .uncommanded _ => none

/-- The timer of an UNCOMMANDED_WATCH (R82). -/
def Watch.uncommandedTimer : Watch → Timer
  | .uncommanded t => t
  | .idle | .stopWatch _ => none

/-- STOP_WATCH_EXPIRY (R81): FAIL_TO_STOP appears. -/
def execStopWatchExpiry (p : Pump) (s : State) : Host.Outcome State Fault Refusal :=
  .next (s.onExpiry (s.ppr.get p).watch.stopTimer s.img.prot.stopConfirmS fun s => s.setWatch p (.stopWatch none))

/-- UNCOMMANDED_WATCH_EXPIRY (R82): UNCOMMANDED_RUN appears. -/
def execUncommandedWatchExpiry (p : Pump) (s : State) : Host.Outcome State Fault Refusal :=
  .next (s.onExpiry (s.ppr.get p).watch.uncommandedTimer 5 fun s => s.setWatch p (.uncommanded none))

/-! ## CLEAR_LOCKOUT -/

/-- An accepted CLEAR_LOCKOUT (R78), with the trip of an OVERTEMP timer of 0 s within it (R66, log entry 23). -/
def State.clear (s : State) (l : Link) (p : Pump) : State :=
  let t := (s.modProt p fun r =>
    { r with trips := 0, protection := .healthy, lastTrip := none, forgive := none }).report .pumps
  ((((t.setCondition (.pump p .lockout) false).append (.lockoutCleared p l)).judgeFaults p).overtempAtOnce p).dutyEvent
    s.autoCommanded

/-- What Pump Protection does with a CLEAR_LOCKOUT of the seat holder (R78). -/
def State.clearLockout (s : State) (l : Link) (b : List Byte) : State × Reply :=
  match No4.ofNat? (part b 0 1) with
  | none => s.refuse .range
  | some p =>
    if s.pumpIn p && (s.ppr.get p).protection == .lockedOut then (s.clear l p).carryOut else s.refuse .state

/-- CLEAR_LOCKOUT (R78). -/
def execClearLockout (l : Link) (b : List Byte) (s : State) : Host.Outcome State Fault Refusal :=
  .next (s.request l 0x35 (b.length == 1) true fun s => s.clearLockout l b)

/-! ## READ_PROTECTION (R84) -/

/-- The watch: NONE 0, STOP_WATCH 1, UNCOMMANDED_WATCH 2, with its time remaining while its timer runs. -/
def State.watchEntry (s : State) : Watch → List Byte
  | .idle => u8 0 ++ optional u16 none
  | .stopWatch t => u8 1 ++ optional u16 (t.map fun t0 => s.remaining t0 s.img.prot.stopConfirmS)
  | .uncommanded t => u8 2 ++ optional u16 (t.map fun t0 => s.remaining t0 5)

/-- The alarm conditions present: SWITCH_FAULT 0, SEAL_LEAK 1, FAIL_TO_STOP 2, UNCOMMANDED_RUN 3, listed in that order (DESIGN
CHOICE, log entry 37). -/
def State.conditionList (s : State) (p : Pump) : List Nat :=
  let r := s.ppr.get p
  (if s.mode p == some .switchFault then [0] else []) ++ (if r.sealLeak then [1] else []) ++
  (if r.watch == .stopWatch none then [2] else []) ++ (if r.watch == .uncommanded none then [3] else [])

/-- The running fault timers of a pump with their time remaining, listed in the order of section 4.3's table (DESIGN CHOICE, log entry
37). -/
def State.faultList (s : State) (p : Pump) : List (FaultCond × Nat) :=
  FaultCond.all.filterMap fun c =>
    ((s.ppr.get p).faults.get c).map fun t0 => (c, s.remaining t0 (s.img.faultSeconds c))

def State.protectionEntry (s : State) (p : Pump) : List Byte :=
  let r := s.ppr.get p
  u8 p.toNat ++ u8 (modeOf (s.inputs.hoaAuto.get p) (s.inputs.hoaHand.get p)).code ++ u8 r.protection.code ++ u8 r.trips ++
  optional u32 (r.forgive.map fun t0 => s.remaining t0 s.img.prot.tripForgiveS) ++
  optional u16 (r.rest.map fun t0 => s.remaining t0 s.img.prot.tripRestS) ++ flag r.awaitingCool ++
  listed (fun (c, n) => u8 (FaultCond.code c) ++ u16 n) (s.faultList p) ++ s.watchEntry r.watch ++
  listed u8 (s.conditionList p) ++
  optional (fun (c, t) => u8 (FaultCond.code c) ++ uptimeField t) r.lastTrip ++ optional u16 (s.current p)

/-- The data of READ_PROTECTION (R84, R176). -/
def State.protectionData (s : State) : List Byte :=
  u8 s.img.prot.lockoutTrips ++ listed s.protectionEntry s.pumpList

/-- READ_PROTECTION (R84). -/
def execReadProtection (l : Link) (b : List Byte) (s : State) : Host.Outcome State Fault Refusal :=
  .next (s.read l 0x04 b.isEmpty State.protectionData)

end Sys2Proof.Machine
end

