-- ==== Sys2Proof/Machine/Screens.lean ====
section
/-! DEFINITION. The commands of Chapter 5: the screen inputs and timers, RAKE_REQUEST, RAKE_RESET and READ_SCREENS. -/

namespace Sys2Proof.Machine

def State.screenTimer (s : State) (sc : Screen) (f : ScreenRec → Timer) : Timer := (s.scr.screens.get sc).bind f

/-- The duration of the interval timer in seconds (R91). -/
def Image.intervalSeconds (m : Image) : Nat := m.screen.rakeIntervalMin * 60

/-- The interval timer stops and triggers its screen (R91). -/
def State.endInterval (s : State) (sc : Screen) : State :=
  (s.modScreen sc fun r => { r with interval := none }).trigger sc

/-- INTERVAL_TIMER_EXPIRY (R91). -/
def execIntervalTimerExpiry (sc : Screen) (s : State) : Host.Outcome State Fault Refusal :=
  .next (s.onExpiry (s.screenTimer sc (·.interval)) s.img.intervalSeconds fun s => s.endInterval sc)

/-- What the Screen Controller does with a RAKE_REQUEST (R92). -/
def State.rakeRequest (s : State) (b : List Byte) : State × Reply :=
  match No2.ofNat? (part b 0 1) with
  | none => s.refuse .range
  | some sc => if s.inOrder sc then (s.trigger sc).carryOut else s.refuse .state

/-- RAKE_REQUEST (R92). -/
def execRakeRequest (l : Link) (b : List Byte) (s : State) : Host.Outcome State Fault Refusal :=
  .next (s.request l 0x21 (b.length == 1) false fun s => s.rakeRequest b)

/-- RAKE_HOME of a screen has changed; it acts in FORWARD alone (R94). -/
def State.homeMoved (s : State) (sc : Screen) (a : Bool) : State :=
  match s.scr.screens.get sc with
  | some r =>
    if r.rake = .forward then
      if a then (if r.leftHome then s.completeCycle sc else s)
      else s.modScreen sc fun r => { r with leftHome := true, homeLeave := none }
    else s
  | none => s

/-- RAKE_HOME_CHANGE (R94). -/
def execRakeHomeChange (sc : Screen) (a : Bool) (s : State) : Host.Outcome State Fault Refusal :=
  .next (s.onChange (s.inputs.rakeHome.get sc) a (fun i => { i with rakeHome := i.rakeHome.set sc a }) fun s =>
    s.homeMoved sc a)

/-- HOME_LEAVE_TIMER_EXPIRY (R94): FAILED with cause HOME_NOT_LEFT. -/
def execHomeLeaveTimerExpiry (sc : Screen) (s : State) : Host.Outcome State Fault Refusal :=
  .next (s.onExpiry (s.screenTimer sc (·.homeLeave)) s.img.screen.homeLeaveS fun s => s.failAndFire sc .homeNotLeft)

/-- CYCLE_TIMER_EXPIRY (R94): FAILED with cause CYCLE_TIME. -/
def execCycleTimerExpiry (sc : Screen) (s : State) : Host.Outcome State Fault Refusal :=
  .next (s.onExpiry (s.screenTimer sc (·.cycle)) s.img.screen.cycleMaxS fun s => s.failAndFire sc .cycleTime)

/-- RAKE_TORQUE_CHANGE (R94, R98): a jam when it goes active in FORWARD. -/
def execRakeTorqueChange (sc : Screen) (a : Bool) (s : State) : Host.Outcome State Fault Refusal :=
  .next (s.onChange (s.inputs.rakeTorque.get sc) a (fun i => { i with rakeTorque := i.rakeTorque.set sc a }) fun s =>
    if a && s.rakeOf sc == some .forward then s.jam sc else s)

/-- RAKE_THERMAL_CHANGE (R97): FAILED with cause THERMAL when it goes active in a screen in work. -/
def execRakeThermalChange (sc : Screen) (a : Bool) (s : State) : Host.Outcome State Fault Refusal :=
  .next (s.onChange (s.inputs.rakeThermal.get sc) a (fun i => { i with rakeThermal := i.rakeThermal.set sc a }) fun s =>
    if a && ((s.rakeOf sc).map RakeState.inWork).getD false then s.failAndFire sc .thermal else s)

/-- REVERSE_TIMER_EXPIRY (R99). -/
def execReverseTimerExpiry (sc : Screen) (s : State) : Host.Outcome State Fault Refusal :=
  .next (s.onExpiry (s.screenTimer sc (·.reverse)) s.img.screen.reverseS fun s => s.endBackoff sc)

/-- An accepted RAKE_RESET (R100). -/
def State.resetRake (s : State) (sc : Screen) : State :=
  (((((s.modScreen sc fun r =>
    { r with retries := 0, again := false, cause := none, interval := s.intervalTimer }).setRake sc .idle).setCondition
      (.rakeJam sc) false).setCondition (.rakeFailed sc) false)).fire

/-- What the Screen Controller does with a RAKE_RESET of the seat holder (R100). -/
def State.rakeReset (s : State) (b : List Byte) : State × Reply :=
  match No2.ofNat? (part b 0 1) with
  | none => s.refuse .range
  | some sc =>
    match s.rakeOf sc with
    | some .jammed | some .failed => (s.resetRake sc).carryOut
    | _ => s.refuse .state

/-- RAKE_RESET (R100). -/
def execRakeReset (l : Link) (b : List Byte) (s : State) : Host.Outcome State Fault Refusal :=
  .next (s.request l 0x36 (b.length == 1) true fun s => s.rakeReset b)

/-- The blinding timer with the time it still has to run: its start and the ms from there to `blind_s` (R101, R102). -/
def State.blindDue (s : State) : Option Nat :=
  match s.scr.blinded with
  | .pending e (some t) => some (t + (seconds s.img.screen.blindS - e))
  | _ => none

/-- BLINDING_TIMER_EXPIRY (R101): BLINDED, and demand is limited (R35). -/
def execBlindingTimerExpiry (s : State) : Host.Outcome State Fault Refusal :=
  .next (s.live fun s =>
    match s.blindDue with
    | some t => ((s.reach t).setBlinded .blinded).reform
    | none => s)

/-! ## READ_SCREENS (R104) -/

def RakeState.code : RakeState → Nat
  | .idle => 0 | .waiting => 1 | .forward => 2 | .backoff => 3 | .jammed => 4 | .failed => 5

def RakeCause.code : RakeCause → Nat
  | .homeNotLeft => 0 | .cycleTime => 1 | .thermal => 2

def Blinded.code : Blinded → Nat
  | .clear => 0 | .pending _ _ => 1 | .blinded => 2

/-- The running supervision timers of a screen: home-leave 0, cycle 1, reverse 2, with their time remaining, listed in that order
(DESIGN CHOICE, log entry 37). -/
def State.rakeTimers (s : State) (r : ScreenRec) : List (Nat × Nat) :=
  let m := s.img.screen
  [(0, r.homeLeave, m.homeLeaveS), (1, r.cycle, m.cycleMaxS), (2, r.reverse, m.reverseS)].filterMap
    fun (k, t, secs) => (t : Timer).map fun t0 => (k, s.remaining t0 secs)

/-- A screen's items; the time remaining of its interval timer is truncated to the second (R104; DESIGN CHOICE, log entry 40). -/
def State.screenEntry (s : State) (sc : Screen) (r : ScreenRec) : List Byte :=
  u8 sc.toNat ++ u8 r.rake.code ++ optional (fun c => u8 (RakeCause.code c)) r.cause ++ u8 r.retries ++ flag r.again ++
  listed (fun (k, n) => u8 k ++ u16 n) (s.rakeTimers r) ++
  optional u32 (r.interval.map fun t0 => s.remaining t0 s.img.intervalSeconds / 10) ++ optional uptimeField r.lastEnd ++
  active (s.inputs.rakeHome.get sc) ++ active (s.inputs.rakeTorque.get sc) ++ active (s.inputs.rakeThermal.get sc)

/-- The blinding time in tenths with its paused marker, present in PENDING; truncated (DESIGN CHOICE, log entry 40). -/
def State.blindField (s : State) : Option (Nat × Bool) :=
  match s.scr.blinded with
  | .pending e t => some (s.blindElapsed e t / 100, t.isNone)
  | .clear | .blinded => none

/-- The data of READ_SCREENS (R104, R176). -/
def State.screensData (s : State) : List Byte :=
  optional (signedField 4) s.differential ++ u8 s.scr.blinded.code ++
  optional (fun (n, c) => u16 n ++ flag c) s.blindField ++
  listed (fun (sc, r) => s.screenEntry sc r) (No2.all.filterMap fun sc => (s.scr.screens.get sc).map fun r => (sc, r))

/-- READ_SCREENS (R104). -/
def execReadScreens (l : Link) (b : List Byte) (s : State) : Host.Outcome State Fault Refusal :=
  .next (s.read l 0x05 b.isEmpty State.screensData)

end Sys2Proof.Machine
end

