-- ==== Sys2Proof/Machine/Overflow.lean ====
section
/-! DEFINITION. The commands of Chapter 6: the timers of an episode and READ_OVERFLOW. The spill part of ACCRUAL_SECOND stands in
OverflowOps.lean. -/

namespace Sys2Proof.Machine

def State.pointTimer (s : State) (pt : Point) (f : PointRec → Timer) : Timer := (s.ovm.points.get pt).bind f

/-- The end timer while it runs (R113). -/
def EndTimer.timer : EndTimer → Timer
  | .running t => some t
  | .stopped | .paused _ => none

/-- CONFIRM_TIMER_EXPIRY (R112): the episode opens, and the run set is re-formed in storm mode. -/
def execConfirmTimerExpiry (pt : Point) (s : State) : Host.Outcome State Fault Refusal :=
  .next (s.onExpiry (s.pointTimer pt (·.confirm)) s.img.ovf.ovfConfirmS fun s => (s.openEpisode pt).reform)

/-- END_TIMER_EXPIRY (R114): the episode closes with reason NORMAL. -/
def execEndTimerExpiry (pt : Point) (s : State) : Host.Outcome State Fault Refusal :=
  .next (s.onExpiry (s.pointTimer pt fun r => r.endTimer.timer) s.img.ovf.endConfirmS fun s => (s.endNormally pt).reform)

/-- LEVEL_LOSS_TIMER_EXPIRY (R119): the episode closes with reason SENSOR_FAULT. -/
def execLevelLossTimerExpiry (pt : Point) (s : State) : Host.Outcome State Fault Refusal :=
  .next (s.onExpiry (s.pointTimer pt (·.lossTimer)) s.img.ovf.endConfirmS fun s => (s.endLost pt).reform)

/-! ## READ_OVERFLOW (R124) -/

def EpisodeState.code : EpisodeState → Nat
  | .dry => 0 | .confirming => 1 | .spilling => 2 | .ending => 3

/-- The timer of a point that runs, with its time remaining: confirm 0, end 1, level-loss 2. -/
def State.pointTimerField (s : State) (r : PointRec) : Option (Nat × Nat) :=
  match r.confirm, r.lossTimer, r.endTimer with
  | some t, _, _ => some (0, s.remaining t s.img.ovf.ovfConfirmS)
  | none, some t, _ => some (2, s.remaining t s.img.ovf.endConfirmS)
  | none, none, .running t => some (1, s.remaining t s.img.ovf.endConfirmS)
  | none, none, _ => none

/-- The elapsed time in tenths of a paused end timer, truncated (DESIGN CHOICE, log entry 40). -/
def EndTimer.pausedField : EndTimer → Option Nat
  | .paused e => some (e / 100)
  | .stopped | .running _ => none

/-- A moment with the age then: a time field and 4 bytes. -/
def momentField (m : Stamp × Nat) : List Byte := timeField m.1 ++ u32 m.2

def episodeField (pt : Point) (e : Episode) : List Byte :=
  u8 (No2.toNat pt) ++ timeField e.startTime ++ u32 e.age ++ optional momentField e.candidateEnd ++
  optional momentField e.levelLoss ++ u16 e.peak ++ u64 e.volume ++ flag e.crossedDay

def State.pointEntry (s : State) (pt : Point) (r : PointRec) : List Byte :=
  u8 pt.toNat ++ u16 (s.img.ovf.crest.get pt) ++ optional u16 (s.pointLevel pt) ++ optional (signedField 4) (s.head pt) ++
  optional u64 ((s.head pt).map (spillFlow (s.img.rating.get pt))) ++ u8 r.state.code ++
  optional (fun (k, n) => u8 k ++ u16 n) (s.pointTimerField r) ++
  optional (fun n => u16 n ++ flag true) r.endTimer.pausedField ++ optional u64 r.pending ++
  optional (episodeField pt) r.episode ++ u64 r.spillCount

/-- The data of READ_OVERFLOW (R124, R176). Storm mode is a flag, 1 in force (DESIGN CHOICE, log entry 37). -/
def State.overflowData (s : State) : List Byte :=
  flag s.storm ++
  listed (fun (pt, r) => s.pointEntry pt r) (No2.all.filterMap fun pt => (s.ovm.points.get pt).map fun r => (pt, r))

/-- READ_OVERFLOW (R124). -/
def execReadOverflow (l : Link) (b : List Byte) (s : State) : Host.Outcome State Fault Refusal :=
  .next (s.read l 0x06 b.isEmpty State.overflowData)

end Sys2Proof.Machine
end

