-- ==== Sys2Proof/Machine/Balance.lean ====
section
/-! DEFINITION. The commands of Chapter 7: the accrual second, the flowmeter, the interval close and READ_BALANCE. -/

namespace Sys2Proof.Machine

/-- The run seconds of an accrual second (R53). -/
def State.creditRuns (s : State) : State :=
  s.each No4.all fun t p => if t.runCmd p then t.credit (·.addRun p) else t

/-- Flow Balance's part of an accrual second, unless an interval close has taken it (R127, R128, R130). -/
def State.balancePart (s : State) : State :=
  if s.fbl.ahead then s.modFbl fun b => { b with ahead := false } else s.balanceSecond

/-- ACCRUAL_SECOND (R109, R14, R53, R116, R127, R128). -/
def execAccrualSecond (s : State) : Host.Outcome State Fault Refusal :=
  .next (s.live fun s =>
    let t := (s.reach (seconds (s.fbl.seconds + 1))).modFbl fun b => { b with seconds := b.seconds + 1 }
    let t := if t.lvu.floatBackup then t.credit (·.addBackup) else t
    (t.creditRuns.each No2.all State.accrue).balancePart)

/-- A period in ms as R126 takes it, with its saturated marker. -/
def periodOf (diff : Nat) (saturating : Bool) : Nat × Bool :=
  if 65535 < diff ∨ saturating = true then (65535, true) else (max diff 1, false)

/-- The meter rate of a period (R126). -/
def meterRate (litres : Nat) (period : Nat × Bool) : Nat :=
  if period.2 then 0 else (litres * 10000 * 2 + period.1) / (period.1 * 2)

/-- The flowmeter's part of a pulse: count, capture, period and rate (R126). -/
def FlowBalance.pulse (b : FlowBalance) (now litres : Nat) : FlowBalance :=
  let b := { b with pulses := countAdd .pulses max32 b.pulses 1 }
  match b.lastCapture with
  | none => { b with lastCapture := some now }
  | some t =>
    let p := periodOf (now - t) b.saturating
    { b with lastCapture := some now, period := some p, rate := some (meterRate litres p), saturating := false }

/-- A pulse ends METER_SILENT and restarts the silence timer while a pump is RUNNING (R127). -/
def State.pulseSilence (s : State) : State :=
  let t := if s.runningCount ≠ 0 then s.modFbl fun b => { b with silence := .running s.uptime } else s
  t.setSilent false

/-- FLOW_PULSE (R126 to R128). -/
def execFlowPulse (s : State) : Host.Outcome State Fault Refusal :=
  .next (s.live fun s =>
    ((s.modFbl fun b => b.pulse s.uptime s.img.flow.pulseLitres).pulseSilence).addPumped (s.img.flow.pulseLitres * 10))

/-- METER_RATE_TIMEOUT (R126): 65,535 ms have passed since the last capture while a rate is present. The mark of the period in progress
is a field of its own, which no answer shows before the pulse that ends the period (DESIGN CHOICE, log entry 38). -/
def execMeterRateTimeout (s : State) : Host.Outcome State Fault Refusal :=
  .next (s.live fun s =>
    match s.fbl.rate, s.fbl.lastCapture with
    | some _, some t => (s.reach (t + 65535)).modFbl fun b => { b with rate := some 0, saturating := true }
    | _, _ => s)

/-- The silence timer while it runs (R127). -/
def SilenceTimer.timer : SilenceTimer → Timer
  | .running t => some t
  | .stopped | .expired => none

/-- The silence timer expires: METER_SILENT appears (R127). -/
def State.endSilence (s : State) : State := (s.modFbl fun b => { b with silence := .expired }).setSilent true

/-- SILENCE_TIMER_EXPIRY (R127). -/
def execSilenceTimerExpiry (s : State) : Host.Outcome State Fault Refusal :=
  .next (s.onExpiry s.fbl.silence.timer s.img.flow.meterSilenceS State.endSilence)

/-- INTERVAL_CLOSE (R130): Flow Balance first takes its own work of that accrual second if it has not been taken. -/
def execIntervalClose (s : State) : Host.Outcome State Fault Refusal :=
  .next (s.live fun s =>
    let n := (s.fbl.closes + 1) * 10
    let t := (s.reach (seconds n)).modFbl fun b => { b with closes := b.closes + 1 }
    let t := if t.fbl.seconds < n ∧ t.fbl.ahead = false then t.balanceSecond.modFbl fun b => { b with ahead := true } else t
    t.closeInterval)

/-! ## READ_BALANCE (R139) -/

def Trend.code : Trend → Nat
  | .rising => 0 | .steady => 1 | .falling => 2 | .unknown => 3

/-- The time to overflow: seconds 0, NOT_FILLING 1, UNKNOWN 2, with the figure when it is seconds (DESIGN CHOICE, log entry 37). -/
def TimeToOverflow.encode : TimeToOverflow → List Byte
  | .seconds n => u8 0 ++ optional u16 (some n)
  | .notFilling => u8 1 ++ optional u16 none
  | .unknown => u8 2 ++ optional u16 none

def Interval.encode (e : Interval) : List Byte :=
  uptimeField e.closedAt ++ flag e.inflow.isSome ++ u32 e.out ++ u32 e.spill1 ++ u32 e.spill2 ++
  optional u32 (e.inflow.map (·.1)) ++ optional u32 (e.inflow.map (·.2))

/-- The data of READ_BALANCE (R139, R176). An UNKNOWN rate is sent as an absent item (DESIGN CHOICE, log entry 37); the saturated mark
shown is the last period's (DESIGN CHOICE, log entry 38). -/
def State.balanceData (s : State) : List Byte :=
  let b := s.fbl
  u32 b.pulses ++ optional u32 b.rate ++ optional (fun (n, c) => u16 n ++ flag c) b.period ++ active b.meterSilent ++
  optional u16 (b.silence.timer.map fun t0 => s.remaining t0 s.img.flow.meterSilenceS) ++ u64 b.pumped ++
  optional u32 (s.controlLevel.map s.stored) ++ listed Interval.encode b.history ++ optional u32 b.rates.wellA ++
  optional u32 b.rates.stationA ++ optional u32 b.rates.outA ++ optional u32 b.rates.wellB ++ u8 b.trend.code ++
  b.overflowIn.encode ++ flag s.point1Open ++ active b.predicted

/-- READ_BALANCE (R139). -/
def execReadBalance (l : Link) (b : List Byte) (s : State) : Host.Outcome State Fault Refusal :=
  .next (s.read l 0x07 b.isEmpty State.balanceData)

end Sys2Proof.Machine
end

