-- ==== Sys2Proof/Machine/Alarms.lean ====
section
/-! DEFINITION. The commands of Chapter 8: acknowledgement, READ_ALARMS and READ_CHANGES. -/

namespace Sys2Proof.Machine

/-- The point of a number (R141). -/
def AlarmPoint.ofNumber? (n : Nat) : Option AlarmPoint := AlarmPoint.all.find? fun a => a.number == n

def AckSource.ofLink : Link → AckSource
  | .panel => .panel
  | .telemetry => .telemetry

/-- What the Alarm Unit does with an ACK_ALARM (R145); 0 stands for ALL (section 10.3). -/
def State.ackAlarm (s : State) (l : Link) (b : List Byte) : State × Reply :=
  let n := part b 0 1
  if n = 0 then (s.acknowledge (.ofLink l) AlarmPoint.all).carryOut
  else match AlarmPoint.ofNumber? n with
    | none => s.refuse .range
    | some a => if s.img.alarmIn a then (s.acknowledge (.ofLink l) [a]).carryOut else s.refuse .state

/-- ACK_ALARM (R145). -/
def execAckAlarm (l : Link) (b : List Byte) (s : State) : Host.Outcome State Fault Refusal :=
  .next (s.request l 0x20 (b.length == 1) false fun s => s.ackAlarm l b)

/-- ACK_IN (R146): going active acknowledges every installed point; its release has no effect. -/
def execAckIn (a : Bool) (s : State) : Host.Outcome State Fault Refusal :=
  .next (s.onChange s.inputs.ackIn a (fun i => { i with ackIn := a }) fun s =>
    if a then s.acknowledge .button AlarmPoint.all else s)

/-! ## READ_ALARMS (R154) -/

def AlarmState.code : AlarmState → Nat
  | .clear => 0 | .activeUnack => 1 | .activeAck => 2 | .returnedUnack => 3

def AckSource.code : AckSource → Nat
  | .panel => 0 | .telemetry => 1 | .button => 2

def alarmEntry (a : AlarmPoint) (e : PointEntry) : List Byte :=
  u8 a.number ++ active e.state.present ++ u8 e.state.code ++ optional timeField e.time ++
  optional (fun c => u8 (AckSource.code c)) e.source

/-- The points an answer lists: every installed one, or those outside CLEAR (R154). -/
def State.alarmList (s : State) (outstanding : Bool) : List AlarmPoint :=
  AlarmPoint.all.filter fun a => s.img.alarmIn a && (!outstanding || (s.point a).state != .clear)

/-- The data of READ_ALARMS (R154, R172, R176). An output's flag is 1 when it is energised (DESIGN CHOICE, log entry 37). -/
def State.alarmsData (s : State) (outstanding : Bool) : List Byte :=
  listed (fun m => u8 (s.img.alarm.outMode.get m) ++ flag (s.alm.outputs.get m)) No4.all ++
  listed (fun a => alarmEntry a (s.point a)) (s.alarmList outstanding)

/-- READ_ALARMS (R154); a selector above 1 is refused with RANGE (R177). -/
def execReadAlarms (l : Link) (b : List Byte) (s : State) : Host.Outcome State Fault Refusal :=
  .next (s.request l 0x08 (b.length == 1) false fun s =>
    if 1 < part b 0 1 then s.refuse .range else (s, .done (s.alarmsData (part b 0 1 == 1))))

/-! ## READ_CHANGES (R152) -/

def Category.code : Category → Nat
  | .levels => 0 | .pumps => 1 | .screens => 2 | .alarms => 3 | .events => 4 | .seat => 5 | .settings => 6 | .clock => 7

/-- The link's change set is emptied (R152). -/
def State.emptyChanges (s : State) (l : Link) : State :=
  { s with alm := { s.alm with changes := s.alm.changes.set l .none } }

/-- READ_CHANGES (R152): the answer lists the categories and the set is emptied at the same event. -/
def execReadChanges (l : Link) (b : List Byte) (s : State) : Host.Outcome State Fault Refusal :=
  .next (s.request l 0x09 b.isEmpty false fun s =>
    (s.emptyChanges l, .done (listed (fun c => u8 (Category.code c)) (s.alm.changes.get l).list)))

end Sys2Proof.Machine
end

