-- ==== Sys2Proof/Machine/Record.lean ====
section
/-! DEFINITION. The commands of Chapter 9: the log's reads and releases, the station clock and the day's summary. -/

namespace Sys2Proof.Machine

/-! ## The event log -/

/-- The place of a cursor in the numbering: after record 4,294,967,295 a cursor of 1 stands above every record held (R158). -/
def StationRecord.position (src : StationRecord) (c : Nat) : Nat := if src.newest = max32 ∧ c = 1 then max32 + 1 else c

/-- The records held from a link's cursor on (R159). -/
def StationRecord.fromCursor (src : StationRecord) (l : Link) : List LogRecord :=
  src.log.filter fun r => src.position (src.cursors.get l) ≤ r.seq

/-- The data of READ_EVENTS: 12 bytes of oldest, newest and cursor, then the records that fit in the rest (R159, R172). -/
def State.eventsData (s : State) (l : Link) (max : Nat) : List Byte :=
  u32 s.src.oldest ++ u32 s.src.newest ++ u32 (s.src.cursors.get l) ++
  listed LogRecord.encode (fitting max 225 (s.src.fromCursor l))

/-- READ_EVENTS (R159). -/
def execReadEvents (l : Link) (b : List Byte) (s : State) : Host.Outcome State Fault Refusal :=
  .next (s.request l 0x0A (b.length == 1) false fun s =>
    if part b 0 1 = 0 ∨ 8 < part b 0 1 then s.refuse .range else (s, .done (s.eventsData l (part b 0 1))))

/-- A link releases the records up to number `n` (R158, R160). -/
def StationRecord.release (src : StationRecord) (l : Link) (n : Nat) : StationRecord :=
  if src.position (src.cursors.get l) ≤ n then { src with cursors := src.cursors.set l (followingSeq n) } else src

/-- RELEASE_EVENTS (R160). -/
def execReleaseEvents (l : Link) (b : List Byte) (s : State) : Host.Outcome State Fault Refusal :=
  .next (s.request l 0x0B (b.length == 4) false fun s =>
    if s.src.newest < figure b then s.refuse .range else (s.modSrc fun src => src.release l (figure b)).carryOut)

/-! ## The station clock -/

/-- The valid clock counts one second; a passage to the next date closes the day while the controller is not held (R161, R165,
R169). -/
def State.clockTick (s : State) (r : ClockReading) : State :=
  let t := s.elapse (1000 - s.src.clockPhase)
  let u := t.modSrc fun src => { src with clock := some r.next, clockPhase := src.clockPhase - 1000 }
  if r.next.date = r.date ∨ s.isHeld = true then u else u.closeDay r.next.date false

/-- CLOCK_SECOND (R161); the clock runs on while the controller is held (R191). -/
def execClockSecond (s : State) : Host.Outcome State Fault Refusal :=
  .next (match s.src.clock with
    | some r => s.clockTick r
    | none => s)

/-- An accepted SET_CLOCK, from an invalid clock, within the date, or to another date (R162). -/
def State.setClock (s : State) (l : Link) (r : ClockReading) : State :=
  let change (s : State) : State := s.modSrc fun src => { src with clock := some r, clockPhase := 0 }
  match s.src.clock with
  | none =>
    let t := ((change s).modSrc fun src => { src with day := some r.date, clockChanged := true })
    ((t.setCondition .clockInvalid false).append (.clockSet l none r)).report .clock
  | some old =>
    let t := s.modSrc fun src => { src with clockChanged := true }
    let t := if old.date = r.date then t else t.closeDay r.date true
    ((change t).append (.clockSet l (some old) r)).report .clock

/-- The reading a SET_CLOCK payload carries, none where a figure is outside its range or the month has no such day (R162). -/
def readingOf (b : List Byte) : Option ClockReading :=
  let y := part b 0 1
  let m := part b 1 1
  let d := part b 2 1
  let sec := part b 3 3
  if y < 100 ∧ 1 ≤ m ∧ m ≤ 12 ∧ 1 ≤ d ∧ d ≤ daysInMonth (2000 + y) m ∧ sec ≤ 86399 then some ⟨⟨2000 + y, m, d⟩, sec⟩
  else none

/-- SET_CLOCK (R162). -/
def execSetClock (l : Link) (b : List Byte) (s : State) : Host.Outcome State Fault Refusal :=
  .next (s.request l 0x37 (b.length == 6) true fun s =>
    match readingOf b with
    | some r => (s.setClock l r).carryOut
    | none => s.refuse .range)

/-- The data of READ_CLOCK (R163, R176). The validity is a flag, 1 valid; the date of the day is bare (DESIGN CHOICE, log entry 37). -/
def State.clockData (s : State) : List Byte :=
  flag s.src.clock.isSome ++ optional (fun r => timeField (.clock r)) s.src.clock ++ u32 s.upSeconds ++
  optional dateField s.src.day

/-- READ_CLOCK (R163). -/
def execReadClock (l : Link) (b : List Byte) (s : State) : Host.Outcome State Fault Refusal :=
  .next (s.read l 0x0D b.isEmpty State.clockData)

/-! ## READ_SUMMARY (R167) -/

/-- The data of READ_SUMMARY: the figures of a DAILY_SUMMARY, the spill totals in dL as they are held (R167, R176); the
date of the day is bare (DESIGN CHOICE, log entry 37). -/
def State.summaryData (s : State) : List Byte :=
  let a := s.src.acc
  optional dateField s.src.day ++ flag s.src.clockChanged ++
  listed (fun p =>
    let f := a.pumps.get p
    u8 (No4.toNat p) ++ u32 f.runSeconds ++ u32 f.starts ++ u32 f.trips) s.pumpList ++
  u32 a.pumpedLitres ++ u32 a.wellInflow ++ u32 a.stationInflow ++ u32 a.unknownIntervals ++
  listed (fun pt => u8 (No2.toNat pt) ++ u64 (a.points.get pt).spill ++ u32 (a.points.get pt).episodes) s.pointList ++
  listed (fun sc => u8 (No2.toNat sc) ++ u32 (a.rakeCycles.get sc)) s.screenList ++
  optional (fun (v, t) => u16 v ++ timeField t) a.peak ++ u32 a.meterSilentSeconds ++ u32 a.floatBackupSeconds

/-- READ_SUMMARY (R167). -/
def execReadSummary (l : Link) (b : List Byte) (s : State) : Host.Outcome State Fault Refusal :=
  .next (s.read l 0x0C b.isEmpty State.summaryData)

end Sys2Proof.Machine
end

