-- ==== Sys2Proof/Machine/Links.lean ====
section
/-! DEFINITION. The commands of Chapter 10 but for the bytes themselves: the gap timer, discarded frames, sent answers, the control
seat and the LOCAL key. -/

namespace Sys2Proof.Machine

/-- The frame in progress is discarded: the receiver is in HUNT with its gap timer stopped (R170). -/
def LinkRec.dropFrame (r : LinkRec) : LinkRec := { r with receive := .hunt, gap := none }

/-- GAP_TIMER_EXPIRY (R170): 50 ms have passed since the last byte of the frame in progress. -/
def execGapTimerExpiry (l : Link) (s : State) : Host.Outcome State Fault Refusal :=
  .next (s.live fun s =>
    match (s.link l).gap with
    | some t => (s.reach (t + 50)).modLink l LinkRec.dropFrame
    | none => s)

/-- FRAME_DISCARDED (R170): a byte with a bad stop bit discards the frame in progress in any state. -/
def execFrameDiscarded (l : Link) (s : State) : Host.Outcome State Fault Refusal :=
  .next (s.live fun s => s.modLink l LinkRec.dropFrame)

/-- ANSWER_SENT (R173): the last byte of what the link was sending has gone out. -/
def execAnswerSent (l : Link) (s : State) : Host.Outcome State Fault Refusal :=
  .next (s.live fun s =>
    match (s.link l).transmit.sent with
    | some (n, t) =>
      let u := s.reach (t + sendingMs n)
      u.modLink l fun r => r.sentAll u.uptime
    | none => s)

/-- What the Link Interface does with a CLAIM_SEAT (R178). -/
def State.claimSeat (s : State) (l : Link) : State × Reply :=
  match s.lnk.seat with
  | .free => ((s.changeSeat (.held l) .claim).startHold).carryOut
  | .held h =>
    if h = l then s.startHold.carryOut
    else if s.inputs.localKey && l == .telemetry then s.refuse .localKey
    else s.refuse .seatHeld

/-- CLAIM_SEAT (R178). -/
def execClaimSeat (l : Link) (b : List Byte) (s : State) : Host.Outcome State Fault Refusal :=
  .next (s.request l 0x22 b.isEmpty false fun s => s.claimSeat l)

/-- What the Link Interface does with a RELEASE_SEAT (R179). -/
def State.releaseSeat (s : State) (l : Link) : State × Reply :=
  if !s.holds l then s.refuse .state
  else if s.inputs.localKey then s.refuse .localKey
  else ((s.stopHold).changeSeat .free .release).carryOut

/-- RELEASE_SEAT (R179). -/
def execReleaseSeat (l : Link) (b : List Byte) (s : State) : Host.Outcome State Fault Refusal :=
  .next (s.request l 0x23 b.isEmpty false fun s => s.releaseSeat l)

/-- The data of READ_SEAT (R183, R176). -/
def State.seatData (s : State) (l : Link) : List Byte :=
  u8 l.toNat ++ u8 s.lnk.seat.code ++ active s.inputs.localKey ++
  optional u16 (s.lnk.holdTimer.map fun t0 => s.remaining t0 s.img.seat.seatHoldS) ++ u16 s.img.seat.seatHoldS

/-- READ_SEAT (R183). -/
def execReadSeat (l : Link) (b : List Byte) (s : State) : Host.Outcome State Fault Refusal :=
  .next (s.read l 0x0E b.isEmpty fun s => s.seatData l)

/-- The hold timer expires: the seat becomes FREE with cause EXPIRY (R180). -/
def State.endHold (s : State) : State := (s.stopHold).changeSeat .free .expiry

/-- HOLD_TIMER_EXPIRY (R180). -/
def execHoldTimerExpiry (s : State) : Host.Outcome State Fault Refusal :=
  .next (s.onExpiry s.lnk.holdTimer s.img.seat.seatHoldS State.endHold)

/-- LOCAL_KEY has changed (R181): going active it takes the seat for the Panel link and stops the hold timer; going inactive it
starts the timer. -/
def State.keyMoved (s : State) (a : Bool) : State :=
  if a then
    let t := s.stopHold
    (if s.holds .panel then t else t.changeSeat (.held .panel) .localKey).report .seat
  else s.startHold.report .seat

/-- LOCAL_KEY_CHANGE (R181). -/
def execLocalKeyChange (a : Bool) (s : State) : Host.Outcome State Fault Refusal :=
  .next (s.onChange s.inputs.localKey a (fun i => { i with localKey := a }) fun s => s.keyMoved a)

end Sys2Proof.Machine
end

