-- ==== Sys2Proof/Machine/Settings.lean ====
section
/-! DEFINITION. The commands of sections 11.2 and 11.3: what each setting does at its write, tables, saves and their reads. -/

namespace Sys2Proof.Machine

def State.setLive (s : State) (m : Image) : State := { s with cfg := { s.cfg with live := m } }

/-! ## Running timers met by a changed duration (R16, R31, R58, R66, R91, R122, R127, R180) -/

/-- A running timer that has already run its new duration expires at the write. -/
def State.lapse (s : State) (t : Timer) (secs : Nat) (f : State → State) : State :=
  match t with
  | some t0 => if s.passed t0 secs then f s else s
  | none => s

/-- A timer after a write of its duration: gone where it has already run it. -/
def State.kept (s : State) (t : Timer) (secs : Nat) : Timer :=
  match t with
  | some t0 => if s.passed t0 secs then none else some t0
  | none => none

/-! ## Channels (R10, R11) -/

/-- The channels whose conversion depends on a setting (R11). -/
def Setting.rescales : Setting → List Channel
  | .zeroMm c | .spanMm c =>
    match c with
    | .n1 => [.wellPri]
    | .n2 => [.wellSec]
    | .n3 => [.inlet]
    | .n4 => [.screenOut]
  | .curSpan p => [.cur p]
  | .wellDepth => [.wellPri, .wellSec]
  | _ => []

/-- A rescaled channel in service waits for its next valid sample with an empty history (R11), and Flow Balance for that of a well
channel (R131). -/
def State.rescale (s : State) (ch : Channel) : State :=
  match s.chan ch with
  | some r => if r.state = .inService then (s.setChan ch { r with history := [] }).expectRescaled ch else s
  | none => s

/-- A channel follows its installation (R10, R12). -/
def State.followInstall (s : State) (ch : Channel) : State :=
  match s.chan ch, s.img.channelIn ch with
  | none, true => (s.setChan ch .atStart).report .levels
  | some _, false =>
    let t := ({ s with lvu := s.lvu.setChan ch none }).report .levels
    match Channel.faultPoint ch with
    | some a => t.clearPoint a
    | none => t
  | _, _ => s

def State.followInstalls (s : State) : State := s.each Channel.all State.followInstall

/-! ## Installed counts -/

def ProtectedPump.uninstalled (r : ProtectedPump) : ProtectedPump :=
  { r with
    protection := if r.protection = .lockedOut then .lockedOut else .healthy
    faults := .allStopped, rest := none, awaitingCool := false, forgive := none, sealTimer := none, sealLeak := false
    watch := .idle }

/-- A pump becomes uninstalled (R85, R144). -/
def State.uninstallPump (s : State) (p : Pump) : State :=
  ((s.modProt p ProtectedPump.uninstalled).report .pumps).each (PumpAlarm.all.map (AlarmPoint.pump p)) State.clearPoint

/-- A pump's inputs, mode and kept state are judged as an installation or a start finds them: the seal timer, the watch of
feedback without a command, the five conditions and the fault timers (R85, R86). -/
def State.judgePump (s : State) (p : Pump) (w : Watch) : State :=
  let r := s.ppr.get p
  let t := s.modProt p fun r =>
    { r with
      forgive := if r.trips ≠ 0 ∧ r.protection ≠ .lockedOut then some s.uptime else none
      sealTimer := if s.inputs.sealLeak.get p then some s.uptime else none
      watch := if s.inAuto p && s.runFb p then w else .idle }
  ((t.setCondition (.pump p .lockout) (r.protection == .lockedOut)).setCondition (.pump p .switchFault)
    (s.mode p == some .switchFault)).judgeFaults p

/-- A pump becomes installed (R85). -/
def State.installPump (s : State) (p : Pump) : State :=
  (s.report .pumps).judgePump p (.uncommanded (some s.uptime))

/-- `pumps_installed` has been written; `old` is the state before the write. A pump found hot with `overtemp_s` 0 trips before the one
formation of the event (R23, R24, R42, R66, R85, log entry 23), the pumps in number order (DESIGN CHOICE, log entry 3). -/
def State.pumpsWritten (s : State) (old : State) : State :=
  let gone := No4.all.filter fun p => old.pumpIn p && !s.pumpIn p
  let come := No4.all.filter fun p => s.pumpIn p && !old.pumpIn p
  let t := ((s.each gone State.uninstallPump).followInstalls).each come State.installPump
  ((t.each come State.overtempAtOnce).dutyEvent old.autoCommanded).judgeOutputs

/-- A screen becomes uninstalled (R105, R144). -/
def State.uninstallScreen (s : State) (sc : Screen) : State :=
  let t := s.withdraw (.screen sc)
  ((({ t with scr := { t.scr with screens := t.scr.screens.set sc none } }).report .screens).clearPoint
    (.rakeJam sc)).clearPoint (.rakeFailed sc)

/-- A screen becomes installed (R105). -/
def State.installScreen (s : State) (sc : Screen) : State :=
  ({ s with scr := { s.scr with screens := s.scr.screens.set sc (some (.atStart s.intervalTimer)) } }).report .screens

/-- With no screen installed the blinded state is CLEAR and its point CLEAR (R102, R144). -/
def State.clearBlinded (s : State) : State :=
  if s.img.units.screensInstalled = 0 then
    (({ s with scr := { s.scr with blinded := .clear } }).reportIf s.isBlinded .screens).clearPoint .screenBlinded
  else s

/-- `screens_installed` has been written (R10, R102, R105). -/
def State.screensWritten (s : State) (old : State) : State :=
  let gone := No2.all.filter fun sc => old.screenIn sc && !s.screenIn sc
  let come := No2.all.filter fun sc => s.screenIn sc && !old.screenIn sc
  let t := ((s.each gone State.uninstallScreen).followInstalls.each come State.installScreen).clearBlinded
  (if come.isEmpty then t.reform else t.reform.fire).judgeOutputs

/-- Point 2 becomes uninstalled: Flow Balance first keeps its litres, an open episode closes with SENSOR_FAULT at the write, the
record goes (R123, R130, R144). -/
def State.uninstallPoint2 (s : State) : State :=
  let t := s.modFbl fun b =>
    { b with spill2Kept := b.spill2Kept + s.spillSince .n2, previous := { b.previous with spill := b.previous.spill.set .n2 0 } }
  let t := if t.episodeOpen .n2 then
      match (t.ovm.points.get .n2).bind (·.episode) with
      | some e => t.closeEpisode .n2 t.now e.age .sensorFault
      | none => t
    else t
  ({ t with ovm := { t.ovm with points := t.ovm.points.set .n2 none } }).clearPoint (.overflow .n2)

/-- `points_installed` has been written (R10, R123). -/
def State.pointsWritten (s : State) (old : State) : State :=
  let t :=
    match old.pointIn .n2, s.pointIn .n2 with
    | true, false => s.uninstallPoint2.followInstalls
    | false, true =>
      (({ s with ovm := { s.ovm with points := s.ovm.points.set .n2 (some .atStart) } }).followInstalls).judgePoint .n2
    | _, _ => s
  t.reform.judgeOutputs

/-! ## Drives (R51) -/

/-- `has_drive` of a pump has been set. -/
def State.driveSet (s : State) (p : Pump) : State :=
  if s.runCmd p then
    s.modDuty p fun d => { d.setRef s.img.duty.minSpeed with rampNext := some (s.uptime + 1000) }
  else s

/-- `has_drive` of a pump has been cleared: SPEED_REF is held low. -/
def State.driveCleared (s : State) (p : Pump) : State :=
  s.modDuty p fun d =>
    { d with speedRef := 0, pendingDuty := 0, dutyInForce := 0, refInForce := 0, rampNext := none }

/-- A fixed speed below a raised `min_speed_pct` rises to it (R48). -/
def Override.raise (o : Override) (least : Nat) : Override :=
  match o.action with
  | .forceRun (some v) => { o with action := .forceRun (some (max v least)) }
  | _ => o

/-- A duration of the fault timers has been written: each timer that has run the new duration trips its pump at the write, and one
formation follows (R66, R73, R42); `old` is the state before the write. The pumps trip in number order (DESIGN CHOICE, log entry
3). -/
def State.expireFaults (s : State) (old : State) (c : FaultCond) : State :=
  (s.each No4.all fun t p => t.expireFault p c).dutyEvent old.autoCommanded

/-! ## What the owning block does at an accepted write (R185) -/

/-- The effect on the owning block of a setting that has changed; `old` is the state before the write, `s` holds the new live
image. The units whose timers one write makes expire are taken in number order (DESIGN CHOICE, log entry 3). -/
def State.settingMoved (s : State) (old : State) (x : Setting) : State :=
  let m := s.img
  match x with
  | .pumpsInstalled => s.pumpsWritten old
  | .screensInstalled => s.screensWritten old
  | .pointsInstalled => s.pointsWritten old
  | .zeroMm _ | .spanMm _ | .curSpan _ | .wellDepth => s.each x.rescales State.rescale
  | .initLimit | .disagreeMm | .midSpeed | .rampPct | .jamRetries | .pulseLitres | .ratedFlow _ => s
  | .disagreeS => s.lapse s.lvu.disagreement.timer m.level.disagreeS State.endDisagreement
  | .hhFloat | .llFloat | .floatTol => s.judgeFloats
  | .highAlarm => s.judgeHighLevel
  | .startLevel _ | .stopLevel _ => s.judgeCalls.judgeStage.reform
  | .minRunS =>
    (s.each No4.all fun t p => t.modDuty p fun d => { d with minRun := t.kept d.minRun m.duty.minRunS }).reform
  | .minOffS =>
    (s.each No4.all fun t p => t.modDuty p fun d => { d with minOff := t.kept d.minOff m.duty.minOffS }).reform
  | .startsPerHour | .maxRunning | .genMaxRunning | .blindedMaxPumps => s.reform
  | .speedDelta | .speedHys => s.judgeStage
  | .minSpeed =>
    s.each No4.all fun t p => t.modDuty p fun d => { d with override := d.override.map (·.raise m.duty.minSpeed) }
  | .hasDrive p => if m.drive p then s.driveSet p else s.driveCleared p
  | .startSpacing | .genSpacing => if s.spacing = old.spacing then s else s.reclose.spacingChanged
  | .startConfirmS => s.expireFaults old .failToStart
  | .runLostS => s.expireFaults old .runLost
  | .overtempS => s.expireFaults old .overtemp
  | .ocS => s.expireFaults old .overcurrent
  | .ucS => s.expireFaults old .undercurrent
  | .stopConfirmS =>
    s.each No4.all fun t p =>
      t.lapse (t.ppr.get p).watch.stopTimer m.prot.stopConfirmS fun t => t.setWatch p (.stopWatch none)
  | .tripRestS =>
    (s.each No4.all fun t p => t.lapse (t.ppr.get p).rest m.prot.tripRestS fun t =>
      if t.inputs.overtemp.get p then t.awaitCool p else t.recover p).dutyEvent old.autoCommanded
  | .tripForgiveS => s.each No4.all fun t p => t.lapse (t.ppr.get p).forgive m.prot.tripForgiveS fun t => t.forgive p
  | .lockoutTrips =>
    let q := limitAll s.ppr m.prot.lockoutTrips
    ({ s with ppr := q }).reportIf (No4.all.any fun p => (q.get p).trips != (s.ppr.get p).trips) .pumps
  | .ocLimit p | .ucLimit p => s.judgeFaults p
  | .rakeStart => s.diffMoved old.diffHigh
  | .rakeIntervalMin =>
    if m.screen.rakeIntervalMin = 0 then s.each No2.all fun t sc => t.modScreen sc fun r => { r with interval := none }
    else if old.img.screen.rakeIntervalMin = 0 then
      s.each No2.all fun t sc => t.modScreen sc fun r => { r with interval := some t.uptime }
    else s.each No2.all fun t sc =>
      t.lapse (t.screenTimer sc (·.interval)) m.intervalSeconds fun t => t.endInterval sc
  | .homeLeaveS =>
    s.each No2.all fun t sc =>
      t.lapse (t.screenTimer sc (·.homeLeave)) m.screen.homeLeaveS fun t => t.failAndFire sc .homeNotLeft
  | .cycleMaxS =>
    s.each No2.all fun t sc =>
      t.lapse (t.screenTimer sc (·.cycle)) m.screen.cycleMaxS fun t => t.failAndFire sc .cycleTime
  | .reverseS =>
    s.each No2.all fun t sc => t.lapse (t.screenTimer sc (·.reverse)) m.screen.reverseS fun t => t.endBackoff sc
  | .blindMm | .blindS => s.judgeBlinded.reform
  | .crest pt =>
    let t := s.judgePoint pt
    (if pt = .n1 then t.predict else t).reform
  | .startHead | .endHead => (s.each No2.all State.judgePoint).reform
  | .ovfConfirmS =>
    (s.each No2.all fun t pt =>
      t.lapse (t.pointTimer pt (·.confirm)) m.ovf.ovfConfirmS fun t => t.openEpisode pt).reform
  | .endConfirmS =>
    (s.each No2.all fun t pt =>
      let u := t.lapse (t.pointTimer pt fun r => r.endTimer.timer) m.ovf.endConfirmS fun t => t.endNormally pt
      u.lapse (u.pointTimer pt (·.lossTimer)) m.ovf.endConfirmS fun t => t.endLost pt).reform
  | .meterSilenceS => s.lapse s.fbl.silence.timer m.flow.meterSilenceS State.endSilence
  | .trendBand => s.modFbl fun b => { b with trend := trendOf b.rates m.flow.trendBand }
  | .predictWarnS => s.judgePredicted
  | .route _ | .outMode _ => s.judgeOutputs
  | .seatHoldS => s.lapse s.lnk.holdTimer m.seat.seatHoldS State.endHold

/-- An accepted write (R185): the live value is replaced, the owning block acts where it changed, SETTINGS is reported. -/
def State.putSetting (s : State) (x : Setting) (v : Nat) : State :=
  let t := s.setLive (s.img.put x v)
  (if s.img.get x = v then t else t.settingMoved s x).report .settings

/-- What the Settings Store does with a WRITE_SETTING of the seat holder: range, then conflict (R185). -/
def State.writeSetting (s : State) (b : List Byte) : State × Reply :=
  let v := part b 2 4
  match Setting.ofIdent? (part b 0 2) with
  | none => s.refuse .range
  | some x =>
    if v < x.range.1 ∨ x.range.2 < v then s.refuse .range
    else if !(s.img.put x v).constraintsHold then s.refuse .conflict
    else (s.putSetting x v).carryOut

/-- WRITE_SETTING (R185). -/
def execWriteSetting (l : Link) (b : List Byte) (s : State) : Host.Outcome State Fault Refusal :=
  .next (s.request l 0x30 (b.length == 6) true fun s => s.writeSetting b)

/-! ## Tables (R186) -/

/-- LEN equals 2 + 6k with k the second payload byte (R177). -/
def tableLengthOk (b : List Byte) : Bool :=
  match b with
  | _ :: k :: rest => rest.length == 6 * k.toNat
  | _ => false

/-- What the Settings Store does with a WRITE_TABLE of the seat holder at its arrival (R186). -/
def State.writeTable (s : State) (l : Link) (b : List Byte) : State × Reply :=
  let n := part b 0 1
  let pts := pointsOf (b.drop 2)
  if !tableInRange n pts then s.refuse .range
  else if !tableConsistent n pts then s.refuse .conflict
  else ({ s with cfg := { s.cfg with writes := s.cfg.writes ++ [⟨l, n, pts, s.uptime⟩] } }, .working)

/-- WRITE_TABLE (R186, R174). -/
def execWriteTable (l : Link) (b : List Byte) (s : State) : Host.Outcome State Fault Refusal :=
  .next (s.request l 0x31 (tableLengthOk b) true fun s => s.writeTable l b)

/-- One table write ends: the table is in force whole, SETTINGS is reported, the time to overflow follows a new stage-storage
table, and the answer DONE is formed (R186, R136). -/
def State.endWrite (s : State) (w : TableWrite) : State :=
  let t := (s.setLive (s.img.putTable w.table w.points)).report .settings
  let t := { t with cfg := { t.cfg with writes := t.cfg.writes.erase w } }
  (if w.table = 0 then t.predict else t).give w.link 0x31 (.done [])

/-- The writes that end with that of a link: earlier ones of the same table first (R186, log entry 20). -/
def writesUpTo (l : Link) (ws : List TableWrite) : List TableWrite :=
  match ws.find? fun w => w.link == l with
  | some w => (ws.takeWhile fun v => v.link != l).filter (fun v => v.table == w.table) ++ [w]
  | none => []

/-- WRITE_TABLE_END (R186). -/
def execWriteTableEnd (l : Link) (s : State) : Host.Outcome State Fault Refusal :=
  .next (s.live fun s => s.each (writesUpTo l s.cfg.writes) State.endWrite)

/-! ## Saving (R188) -/

/-- What the Settings Store does with a SAVE_SETTINGS of the seat holder: BUSY in SAVING, else the save begins (R188). -/
def State.saveSettings (s : State) (l : Link) : State × Reply :=
  match s.cfg.saving with
  | some _ => s.refuse .busy
  | none => ({ s with cfg := { s.cfg with saving := some ⟨l, s.img, s.uptime⟩ } }, .working)

/-- SAVE_SETTINGS (R188, R174). -/
def execSaveSettings (l : Link) (b : List Byte) (s : State) : Host.Outcome State Fault Refusal :=
  .next (s.request l 0x32 b.isEmpty true fun s => s.saveSettings l)

/-- The save ends: the stored image is the captured one with a good check word (R188). -/
def State.endSave (s : State) (v : Save) : State :=
  let t := { s with cfg := { s.cfg with stored := some v.image, saving := none, settingsLost := false } }
  (((t.append (.settingsSaved v.link)).setCondition .settingsLost false).report .settings).give v.link 0x32 (.done [])

/-- SAVE_END (R188). -/
def execSaveEnd (s : State) : Host.Outcome State Fault Refusal :=
  .next (s.live fun s =>
    match s.cfg.saving with
    | some v => s.endSave v
    | none => s)

/-! ## Reads (R187) -/

/-- The data of READ_SETTING: identifier, live value, lowest, highest, default (R187), the figures in 4 bytes each for every setting
(DESIGN CHOICE, log entry 37). -/
def State.settingData (s : State) (x : Setting) : List Byte :=
  u16 x.ident ++ u32 (s.img.get x) ++ u32 x.range.1 ++ u32 x.range.2 ++ u32 (Image.defaults.get x)

/-- READ_SETTING (R187). -/
def execReadSetting (l : Link) (b : List Byte) (s : State) : Host.Outcome State Fault Refusal :=
  .next (s.request l 0x0F (b.length == 2) false fun s =>
    match Setting.ofIdent? (part b 0 2) with
    | some x => (s, .done (s.settingData x))
    | none => s.refuse .range)

/-- READ_TABLE (R187): the live table, so that a write under way does not show. -/
def execReadTable (l : Link) (b : List Byte) (s : State) : Host.Outcome State Fault Refusal :=
  .next (s.request l 0x10 (b.length == 1) false fun s =>
    match s.img.table? (part b 0 1) with
    | some pts => (s, .done (u8 (part b 0 1) ++ listed (fun q => u16 q.key ++ u32 q.value) pts))
    | none => s.refuse .range)

end Sys2Proof.Machine
end

