-- ==== Sys2Proof/Machine/StartUp.lean ====
section
/-! DEFINITION. The commands of sections 11.4 and 11.5: the controller held, the two kinds of start block by block, the loss of the
backup supply, and the generator input. -/

namespace Sys2Proof.Machine

/-! ## Generator (R192) -/

/-- ON_GENERATOR has changed: its record and its alarm point; then the new spacing, if longer, closes the permit (R59), and, if it has
passed, expires the timer (R58); last the new cap re-forms the run set (R38, R42). A requester granted at this event receives the
grant first and meets the new cap as a commanded pump (R61; log entry 26). -/
def State.generatorMoved (s : State) (a : Bool) : State :=
  let t := ((s.append (.generator a)).setCondition .onGenerator a).reclose
  (if t.spacingPassed then t.expireSpacing else t).reform

/-- ON_GENERATOR_CHANGE (R192). -/
def execOnGeneratorChange (a : Bool) (s : State) : Host.Outcome State Fault Refusal :=
  .next (s.onChange s.inputs.onGenerator a (fun i => { i with onGenerator := a }) fun s => s.generatorMoved a)

/-! ## The controller held (R191) -/

/-- The controller is held: a save under way is cut short with a bad check word (R188), table writes are lost (R186), both change
sets are empty and the alarm outputs off. The other outputs are off because it is held (Pins.lean). -/
def State.hold (s : State) : State :=
  if s.isHeld then s
  else
    { s with
      isHeld := true
      alm := { s.alm with outputs := .fill false, changes := .fill .none }
      cfg :=
        { s.cfg with
          stored := if s.cfg.saving.isSome then none else s.cfg.stored
          saving := none
          writes := [] } }

/-- HOLD (R191): the main supply fails or RESET goes active. -/
def execHold (s : State) : Host.Outcome State Fault Refusal := .next s.hold

/-- BACKUP_SUPPLY_LOSS (R190): the validity marker is cleared (log entry 33). -/
def execBackupSupplyLoss (s : State) : Host.Outcome State Fault Refusal := .next { s with marker := false }

/-! ## What a start rebuilds -/

/-- The Level Unit at a start (R22). -/
def LevelUnit.atStart (m : Image) : LevelUnit :=
  let rec_ (ch : Channel) : Option ChannelRec := if m.channelIn ch then some .atStart else none
  { wellPri := rec_ .wellPri, wellSec := rec_ .wellSec, inlet := rec_ .inlet, screenOut := rec_ .screenOut
    cur := ⟨rec_ (.cur .n1), rec_ (.cur .n2), rec_ (.cur .n3), rec_ (.cur .n4)⟩
    scanNext := .wellPri, disagreement := .agree, floatCheck := none
    floatDisagree := false, highLevel := false, floatBackup := false }

/-- The Duty Sequencer at a start, before its queue is formed (R54, R34). -/
def DutySequencer.atStart (m : Image) (i : Inputs) : DutySequencer :=
  { queue := []
    pumps := .fill (.atStart (if m.duty.minOffS = 0 then none else some 0))
    calls := .fill false
    latch := i.floatHigh && !i.floatLowLow
    runSet := []
    stage := .min }

/-- The Start Permit at a start (R63). -/
def StartPermit.atStart : StartPermit :=
  { permit := .spacing, spacingStart := 0, waiting := [], lastGrant := none, lastOutside := none }

/-- What a warm start keeps of a pump's protection (R86). -/
def ProtectedPump.warm (r : ProtectedPump) : ProtectedPump :=
  { ProtectedPump.atStart with
    protection := if r.protection = .lockedOut then .lockedOut else .healthy
    trips := r.trips }

/-- Pump Protection at a start, before its conditions are judged (R86). -/
def protectionAtStart (warm : Bool) (kept : Quad ProtectedPump) (m : Image) : Quad ProtectedPump :=
  if warm then
    let q := limitAll kept m.prot.lockoutTrips
    ⟨q.v1.warm, q.v2.warm, q.v3.warm, q.v4.warm⟩
  else .fill .atStart

/-- The Screen Controller at a start (R106). -/
def ScreenController.atStart (m : Image) : ScreenController :=
  let timer : Timer := if m.screen.rakeIntervalMin = 0 then none else some 0
  let rec_ (sc : Screen) : Option ScreenRec := if sc.toNat ≤ m.units.screensInstalled then some (.atStart timer) else none
  { screens := ⟨rec_ .n1, rec_ .n2⟩, blinded := .clear }

/-- The Overflow Monitor at a start (R125). -/
def OverflowMonitor.atStart (m : Image) : OverflowMonitor :=
  let rec_ (pt : Point) : Option PointRec := if pt.toNat ≤ m.units.pointsInstalled then some .atStart else none
  { points := ⟨rec_ .n1, rec_ .n2⟩ }

/-- The Alarm Unit at a start, before the conditions are reported (R155). -/
def AlarmUnit.atStart : AlarmUnit :=
  { points := Vector.replicate 42 .atStart, outputs := .fill false, changes := .fill .full }

/-- The Link Interface at a start (R184). -/
def LinkInterface.atStart (localKey : Bool) : LinkInterface :=
  { links := .fill .atStart, seat := if localKey then .held .panel else .free, holdTimer := none }

/-- The rotation queue at a start: the members of the kept order, then the others in number order (R54). -/
def State.formQueue (s : State) (kept : List Pump) : State :=
  let first := kept.filter s.member
  { s with dsq := { s.dsq with queue := first ++ No4.all.filter fun p => s.member p && !first.contains p } }

/-- Every block at its start, the settings loaded (R189) and uptime at 0, before anything is appended or reported. -/
def State.restart (s : State) : State :=
  let warm := s.marker
  let m := s.cfg.stored.getD .defaults
  { pending := s.pending
    isHeld := false
    marker := s.marker
    uptime := 0
    inputs := s.inputs
    lvu := .atStart m
    dsq := .atStart m s.inputs
    spm := .atStart
    ppr := protectionAtStart warm s.ppr m
    scr := .atStart m
    ovm := .atStart m
    fbl := .atStart
    alm := .atStart
    src := if warm then s.src else .cold
    lnk := .atStart s.inputs.localKey
    cfg := { live := m, stored := s.cfg.stored, saving := none, writes := [], settingsLost := s.cfg.stored.isNone } }

/-- Whether two times are both in clock form and name different dates (R125). -/
def Stamp.datesDiffer : Stamp → Stamp → Bool
  | .clock a, .clock b => a.date != b.date
  | _, _ => false

/-- One open episode of before the loss of power is closed as POWER_LOSS (R125). -/
def State.closeLost (s : State) (pt : Point) (r : PointRec) : State :=
  match r.episode with
  | some e =>
    if r.state.opened then
      s.append (.overflowEnd pt e.startTime s.now e.age e.peak (e.volume / 10) .powerLoss
        (e.crossedDay || e.startTime.datesDiffer s.now))
    else s
  | none => s

/-- The closings at a warm start, point 1 before point 2 (R125). -/
def State.closeAllLost (s : State) (kept : OverflowMonitor) : State :=
  s.each No2.all fun t pt =>
    match kept.points.get pt with
    | some r => t.closeLost pt r
    | none => t

/-- The day close a warm start may owe (R169). -/
def State.closeOwedDay (s : State) : State :=
  match s.src.clock with
  | some r => if s.src.day = some r.date then s else s.closeDay r.date false
  | none => s

/-- The conditions decided at the start itself, and the outputs (R22, R86, R155, R189). -/
def State.judgeStart (s : State) : State :=
  let t := (s.setCondition .highHighFloat s.inputs.floatHighHigh).setCondition .lowLowFloat s.inputs.floatLowLow
  let t := t.each t.pumpList fun u p => u.judgePump p (.stopWatch (some u.uptime))
  let t := (t.setCondition .onGenerator t.inputs.onGenerator).setCondition .settingsLost t.cfg.settingsLost
  (t.setCondition .clockInvalid t.src.clock.isNone).judgeOutputs

/-- The records of a start: POWER first, then at a warm start the closings and the day close (R190, R125, R169). -/
def State.recordStart (s : State) (warm : Bool) (kept : OverflowMonitor) : State :=
  let t := s.append (.power warm s.inputs.onGenerator)
  if warm then (t.closeAllLost kept).closeOwedDay else t

/-- A start, warm when the validity marker is set (R190). A start of a controller not held holds it first (log entry 5). A pump found
hot with `overtemp_s` 0 trips after the start's records and before the queue is formed (R66, R54, log entry 23), the pumps in number
order (DESIGN CHOICE, log entry 3). No run set is formed (R54). -/
def State.startUp (s : State) : State :=
  let h := s.hold
  let t := h.restart.recordStart h.marker h.ovm
  let t := { t with marker := true }
  let t := t.judgeStart
  (t.each t.pumpList State.overtempAtOnce).formQueue (if h.marker then h.dsq.queue else [])

/-- START (R189 to R191). -/
def execStart (s : State) : Host.Outcome State Fault Refusal := .next s.startUp

end Sys2Proof.Machine
end

