-- ==== Sys2Proof/Machine/Bytes.lean ====
section
/-! DEFINITION. The receiver of a link (R170, R171), the request a valid frame makes, and the request with a CODE outside the
catalogue (R175). -/

namespace Sys2Proof.Machine

/-- The state an outcome leaves; every command of the part has a next state, so the other cases leave the state as it was. -/
def nextOr (s : State) : Host.Outcome State Fault Refusal → State
  | .next t => t
  | .fault _ | .refused _ => s

/-- A request with a CODE outside the catalogue is answered UNKNOWN (R171, R175). -/
def State.unknown (s : State) (l : Link) (code : Byte) : State :=
  s.request l code true false fun t => t.refuse .unknown

/-- The request of a valid frame, by its CODE (section 10.3). -/
def takeFrame (l : Link) (code : Byte) (b : List Byte) (s : State) : Host.Outcome State Fault Refusal :=
  match code.toNat with
  | 0x01 => execReadLevels l b s
  | 0x02 => execReadPumps l b s
  | 0x03 => execReadPermit l b s
  | 0x04 => execReadProtection l b s
  | 0x05 => execReadScreens l b s
  | 0x06 => execReadOverflow l b s
  | 0x07 => execReadBalance l b s
  | 0x08 => execReadAlarms l b s
  | 0x09 => execReadChanges l b s
  | 0x0A => execReadEvents l b s
  | 0x0B => execReleaseEvents l b s
  | 0x0C => execReadSummary l b s
  | 0x0D => execReadClock l b s
  | 0x0E => execReadSeat l b s
  | 0x0F => execReadSetting l b s
  | 0x10 => execReadTable l b s
  | 0x20 => execAckAlarm l b s
  | 0x21 => execRakeRequest l b s
  | 0x22 => execClaimSeat l b s
  | 0x23 => execReleaseSeat l b s
  | 0x30 => execWriteSetting l b s
  | 0x31 => execWriteTable l b s
  | 0x32 => execSaveSettings l b s
  | 0x33 => execPumpCommand l b s
  | 0x34 => execSetRotation l b s
  | 0x35 => execClearLockout l b s
  | 0x36 => execRakeReset l b s
  | 0x37 => execSetClock l b s
  | _ => .next (s.unknown l code)

/-- UNKNOWN_REQUEST (R175, check 1). A CODE of the catalogue makes the request it names (WellFormed.lean). -/
def execUnknownRequest (l : Link) (code : Byte) (b : List Byte) (s : State) : Host.Outcome State Fault Refusal :=
  takeFrame l code b s

/-- The receive state after a byte, with the frame that the byte completes as valid (R170, R171). -/
def Receive.next (r : Receive) (b : Byte) : Receive × Option (Byte × List Byte) :=
  match r with
  | .hunt => (if b = 0xA5#8 then .length else .hunt, none)
  | .length => (if 241 ≤ b.toNat then .hunt else .code b.toNat, none)
  | .code len => (if len = 0 then .check 0 b [] none else .payload len b [], none)
  | .payload len c got =>
    let got := got ++ [b]
    (if len ≤ got.length then .check len c got none else .payload len c got, none)
  | .check len c got none => (.check len c got (some b), none)
  | .check len c got (some high) =>
    let sum := crc (BitVec.ofNat 8 len :: c :: got)
    (.hunt, if sum.toNat = figure [high, b] then some (c, got) else none)

/-- The receiver is between frames. -/
def Receive.isHunt : Receive → Bool
  | .hunt => true
  | _ => false

/-- A byte on a link: the receiver moves; the gap timer starts at each byte that leaves a frame in progress (not at SYNC, log entry
18) and stops with the frame. -/
def State.takeByte (s : State) (l : Link) (b : Byte) : State :=
  s.modLink l fun r =>
    let n := (r.receive.next b).1
    { r with receive := n, gap := if n.isHunt || r.receive.isHunt then none else some s.uptime }

/-- BYTE_RECEIVED (R170, R171): the last byte of a valid frame carries its request out. -/
def execByteReceived (l : Link) (b : Byte) (s : State) : Host.Outcome State Fault Refusal :=
  .next (s.live fun s =>
    let t := s.takeByte l b
    match ((s.link l).receive.next b).2 with
    | some (code, got) => nextOr t (takeFrame l code got t)
    | none => t)

end Sys2Proof.Machine
end

