-- ==== Sys2Proof/Machine/Pins.lean ====
section
/-! DEFINITION. The output pins as views of the state (section 11.6); while the controller is held every one is off (R191). -/

namespace Sys2Proof.Machine

/-- RUN_CMD of a pump (section 2.2). -/
def State.runCmdPin (s : State) (p : Pump) : Bool := !s.isHeld && s.runCmd p

/-- The duty of SPEED_REF in steps of 256; a pump without a drive is held low (R50). -/
def State.speedRefPin (s : State) (p : Pump) : Nat :=
  if s.isHeld || !s.img.drive p then 0 else (s.dsq.pumps.get p).dutyInForce

/-- RAKE_FWD is on exactly in FORWARD (section 5.2). -/
def State.rakeFwdPin (s : State) (sc : Screen) : Bool := !s.isHeld && s.rakeOf sc == some .forward

/-- RAKE_REV is on exactly in BACKOFF (section 5.2). -/
def State.rakeRevPin (s : State) (sc : Screen) : Bool := !s.isHeld && s.rakeOf sc == some .backoff

/-- ALARM_OUT (R149). -/
def State.alarmPin (s : State) (m : No4) : Bool := !s.isHeld && s.alm.outputs.get m

/-- ATTN_PNL and ATTN_TEL (R153). -/
def State.attnPin (s : State) (l : Link) : Bool := !s.isHeld && s.attention l

/-- TXD of a link carries frames; idle it is high (section 10.1). -/
def State.txdBusy (s : State) (l : Link) : Bool := !s.isHeld && (s.link l).transmit.sent.isSome

end Sys2Proof.Machine
end

