-- ==== Sys2Proof/Machine/Tick.lean ====
section
/-! DEFINITION. What the part does when no command waits: the first event that its own timers have made due joins the queue, and
with none due a millisecond passes (DESIGN CHOICE, log entry 1). -/

namespace Sys2Proof.Machine

/-- A command, when its test holds. -/
def whenDue (c : Bool) (i : Instr) : List Instr := if c then [i] else []

/-- A timer of `secs` seconds has run its duration. -/
def State.timerDue (s : State) (t : Timer) (secs : Nat) : Bool :=
  match t with
  | some t0 => s.passed t0 secs
  | none => false

/-- An uptime in ms has come. -/
def State.came (s : State) (t : Option Nat) : Bool :=
  match t with
  | some u => u ≤ s.uptime
  | none => false

/-- A SPEED_REF period of 5.12 ms has ended within the latest millisecond (R50, log entry 25). -/
def State.periodEnded (s : State) : Bool := 1 ≤ s.uptime && s.uptime * 100 / 512 != (s.uptime - 1) * 100 / 512

/-- The due events of one pump. -/
def State.pumpDue (s : State) (p : Pump) : List Instr :=
  let d := s.dsq.pumps.get p
  let r := s.ppr.get p
  let m := s.img
  let moved : Bool := d.pendingDuty != d.dutyInForce || d.speedRef != d.refInForce
  whenDue (s.timerDue d.minRun m.duty.minRunS) (.minRunExpiry p) ++
  whenDue (s.timerDue d.minOff m.duty.minOffS) (.minOffExpiry p) ++
  whenDue (s.came (d.history.head?.map fun h => seconds (h + 3600))) (.startHistoryAgeOut p) ++
  whenDue (s.came d.rampNext) (.rampStep p) ++
  whenDue (m.drive p && moved && s.periodEnded) (.speedRefPeriodEnd p) ++
  (FaultCond.all.map fun c => whenDue (s.timerDue (r.faults.get c) (m.faultSeconds c)) (.faultTimerExpiry p c)).flatten ++
  whenDue (!r.armed && s.timerDue r.runningSince 10) (.undercurrentArm p) ++
  whenDue (s.timerDue r.rest m.prot.tripRestS) (.restTimerExpiry p) ++
  whenDue (s.timerDue r.forgive m.prot.tripForgiveS) (.forgiveTimerExpiry p) ++
  whenDue (s.timerDue r.sealTimer 5) (.sealTimerExpiry p) ++
  whenDue (s.timerDue r.watch.stopTimer m.prot.stopConfirmS) (.stopWatchExpiry p) ++
  whenDue (s.timerDue r.watch.uncommandedTimer 5) (.uncommandedWatchExpiry p)

/-- The due events of one screen. -/
def State.screenDue (s : State) (sc : Screen) : List Instr :=
  let m := s.img.screen
  whenDue (s.timerDue (s.screenTimer sc (·.interval)) s.img.intervalSeconds) (.intervalTimerExpiry sc) ++
  whenDue (s.timerDue (s.screenTimer sc (·.homeLeave)) m.homeLeaveS) (.homeLeaveTimerExpiry sc) ++
  whenDue (s.timerDue (s.screenTimer sc (·.cycle)) m.cycleMaxS) (.cycleTimerExpiry sc) ++
  whenDue (s.timerDue (s.screenTimer sc (·.reverse)) m.reverseS) (.reverseTimerExpiry sc)

/-- The due events of one overflow point. -/
def State.pointDue (s : State) (pt : Point) : List Instr :=
  whenDue (s.timerDue (s.pointTimer pt (·.confirm)) s.img.ovf.ovfConfirmS) (.confirmTimerExpiry pt) ++
  whenDue (s.timerDue (s.pointTimer pt fun r => r.endTimer.timer) s.img.ovf.endConfirmS) (.endTimerExpiry pt) ++
  whenDue (s.timerDue (s.pointTimer pt (·.lossTimer)) s.img.ovf.endConfirmS) (.levelLossTimerExpiry pt)

/-- The due events of one link; a table write ends 0.1 s after its arrival at the latest (R186, log entry 20). -/
def State.linkDue (s : State) (l : Link) : List Instr :=
  whenDue (s.came ((s.link l).gap.map (· + 50))) (.gapTimerExpiry l) ++
  whenDue (s.came ((s.link l).transmit.sent.map fun (n, t) => t + sendingMs n)) (.answerSent l) ++
  whenDue (s.came ((s.cfg.writes.find? fun w => w.link == l).map fun w => w.since + 100)) (.writeTableEnd l)

/-- The meter rate's 65,535 ms have passed with no pulse (R126). -/
def State.rateDue (s : State) : Bool :=
  s.fbl.rate.isSome && !s.fbl.saturating && s.came (s.fbl.lastCapture.map (· + 65535))

/-- The valid station clock's next second has come (R161). -/
def State.clockDue (s : State) : Bool := s.src.clock.isSome && 1000 ≤ s.src.clockPhase

/-- The events due at this moment, in the order the model takes them; while the controller is held the station clock alone runs
(R191). A save ends 0.5 s after its arrival at the latest (R188, log entry 20). -/
def State.due (s : State) : List Instr :=
  if s.isHeld then whenDue s.clockDue .clockSecond
  else
    whenDue (seconds (s.fbl.seconds + 1) ≤ s.uptime) .accrualSecond ++
    whenDue (seconds ((s.fbl.closes + 1) * 10) ≤ s.uptime) .intervalClose ++
    whenDue s.clockDue .clockSecond ++
    (Channel.all.map fun ch => whenDue (s.timerDue ((s.chan ch).bind (·.checkTimer)) 10) (.checkTimerExpiry ch)).flatten ++
    whenDue (s.timerDue s.lvu.disagreement.timer s.img.level.disagreeS) .disagreeTimerExpiry ++
    whenDue (s.timerDue s.lvu.floatCheck 10) .floatCheckTimerExpiry ++
    whenDue (s.timerDue s.spm.timer s.spacing) .spacingTimerExpiry ++
    (No4.all.map s.pumpDue).flatten ++
    (No2.all.map s.screenDue).flatten ++
    whenDue (s.came s.blindDue) .blindingTimerExpiry ++
    (No2.all.map s.pointDue).flatten ++
    whenDue s.rateDue .meterRateTimeout ++
    whenDue (s.timerDue s.fbl.silence.timer s.img.flow.meterSilenceS) .silenceTimerExpiry ++
    s.linkDue .panel ++ s.linkDue .telemetry ++
    whenDue (s.timerDue s.lnk.holdTimer s.img.seat.seatHoldS) .holdTimerExpiry ++
    whenDue (s.came (s.cfg.saving.map fun v => v.since + 500)) .saveEnd

/-- The part with no command waiting: the first due event joins the queue, or a millisecond passes. -/
def State.tick (s : State) : State :=
  match s.due with
  | c :: _ => { s with pending := [c] }
  | [] => s.elapse 1

end Sys2Proof.Machine
end

