-- ==== Sys2Proof/Machine/Dispatch.lean ====
section
/-! DEFINITION. The meaning of each command, arm by arm. -/

namespace Sys2Proof.Machine

def exec (i : Instr) (s : State) : Host.Outcome State Fault Refusal :=
  match i with
  | .sample ch counts => Sys2Proof.Machine.execSample ch counts s
  | .checkTimerExpiry ch => Sys2Proof.Machine.execCheckTimerExpiry ch s
  | .disagreeTimerExpiry => Sys2Proof.Machine.execDisagreeTimerExpiry s
  | .floatChange f active => Sys2Proof.Machine.execFloatChange f active s
  | .floatCheckTimerExpiry => Sys2Proof.Machine.execFloatCheckTimerExpiry s
  | .minRunExpiry p => Sys2Proof.Machine.execMinRunExpiry p s
  | .minOffExpiry p => Sys2Proof.Machine.execMinOffExpiry p s
  | .startHistoryAgeOut p => Sys2Proof.Machine.execStartHistoryAgeOut p s
  | .rampStep p => Sys2Proof.Machine.execRampStep p s
  | .speedRefPeriodEnd p => Sys2Proof.Machine.execSpeedRefPeriodEnd p s
  | .pumpCommand l payload => Sys2Proof.Machine.execPumpCommand l payload s
  | .setRotation l payload => Sys2Proof.Machine.execSetRotation l payload s
  | .readPumps l payload => Sys2Proof.Machine.execReadPumps l payload s
  | .spacingTimerExpiry => Sys2Proof.Machine.execSpacingTimerExpiry s
  | .readPermit l payload => Sys2Proof.Machine.execReadPermit l payload s
  | .hoaChange p c active => Sys2Proof.Machine.execHoaChange p c active s
  | .runFbChange p active => Sys2Proof.Machine.execRunFbChange p active s
  | .overtempChange p active => Sys2Proof.Machine.execOvertempChange p active s
  | .faultTimerExpiry p c => Sys2Proof.Machine.execFaultTimerExpiry p c s
  | .undercurrentArm p => Sys2Proof.Machine.execUndercurrentArm p s
  | .restTimerExpiry p => Sys2Proof.Machine.execRestTimerExpiry p s
  | .forgiveTimerExpiry p => Sys2Proof.Machine.execForgiveTimerExpiry p s
  | .sealLeakChange p active => Sys2Proof.Machine.execSealLeakChange p active s
  | .sealTimerExpiry p => Sys2Proof.Machine.execSealTimerExpiry p s
  | .stopWatchExpiry p => Sys2Proof.Machine.execStopWatchExpiry p s
  | .uncommandedWatchExpiry p => Sys2Proof.Machine.execUncommandedWatchExpiry p s
  | .clearLockout l payload => Sys2Proof.Machine.execClearLockout l payload s
  | .readProtection l payload => Sys2Proof.Machine.execReadProtection l payload s
  | .intervalTimerExpiry sc => Sys2Proof.Machine.execIntervalTimerExpiry sc s
  | .rakeRequest l payload => Sys2Proof.Machine.execRakeRequest l payload s
  | .rakeHomeChange sc active => Sys2Proof.Machine.execRakeHomeChange sc active s
  | .homeLeaveTimerExpiry sc => Sys2Proof.Machine.execHomeLeaveTimerExpiry sc s
  | .cycleTimerExpiry sc => Sys2Proof.Machine.execCycleTimerExpiry sc s
  | .rakeTorqueChange sc active => Sys2Proof.Machine.execRakeTorqueChange sc active s
  | .rakeThermalChange sc active => Sys2Proof.Machine.execRakeThermalChange sc active s
  | .reverseTimerExpiry sc => Sys2Proof.Machine.execReverseTimerExpiry sc s
  | .rakeReset l payload => Sys2Proof.Machine.execRakeReset l payload s
  | .blindingTimerExpiry => Sys2Proof.Machine.execBlindingTimerExpiry s
  | .readScreens l payload => Sys2Proof.Machine.execReadScreens l payload s
  | .confirmTimerExpiry pt => Sys2Proof.Machine.execConfirmTimerExpiry pt s
  | .endTimerExpiry pt => Sys2Proof.Machine.execEndTimerExpiry pt s
  | .levelLossTimerExpiry pt => Sys2Proof.Machine.execLevelLossTimerExpiry pt s
  | .readOverflow l payload => Sys2Proof.Machine.execReadOverflow l payload s
  | .accrualSecond => Sys2Proof.Machine.execAccrualSecond s
  | .flowPulse => Sys2Proof.Machine.execFlowPulse s
  | .meterRateTimeout => Sys2Proof.Machine.execMeterRateTimeout s
  | .silenceTimerExpiry => Sys2Proof.Machine.execSilenceTimerExpiry s
  | .intervalClose => Sys2Proof.Machine.execIntervalClose s
  | .readBalance l payload => Sys2Proof.Machine.execReadBalance l payload s
  | .ackAlarm l payload => Sys2Proof.Machine.execAckAlarm l payload s
  | .ackIn active => Sys2Proof.Machine.execAckIn active s
  | .readAlarms l payload => Sys2Proof.Machine.execReadAlarms l payload s
  | .readChanges l payload => Sys2Proof.Machine.execReadChanges l payload s
  | .readEvents l payload => Sys2Proof.Machine.execReadEvents l payload s
  | .releaseEvents l payload => Sys2Proof.Machine.execReleaseEvents l payload s
  | .clockSecond => Sys2Proof.Machine.execClockSecond s
  | .setClock l payload => Sys2Proof.Machine.execSetClock l payload s
  | .readClock l payload => Sys2Proof.Machine.execReadClock l payload s
  | .readSummary l payload => Sys2Proof.Machine.execReadSummary l payload s
  | .readLevels l payload => Sys2Proof.Machine.execReadLevels l payload s
  | .gapTimerExpiry l => Sys2Proof.Machine.execGapTimerExpiry l s
  | .frameDiscarded l => Sys2Proof.Machine.execFrameDiscarded l s
  | .unknownRequest l code payload => Sys2Proof.Machine.execUnknownRequest l code payload s
  | .answerSent l => Sys2Proof.Machine.execAnswerSent l s
  | .claimSeat l payload => Sys2Proof.Machine.execClaimSeat l payload s
  | .releaseSeat l payload => Sys2Proof.Machine.execReleaseSeat l payload s
  | .readSeat l payload => Sys2Proof.Machine.execReadSeat l payload s
  | .holdTimerExpiry => Sys2Proof.Machine.execHoldTimerExpiry s
  | .localKeyChange active => Sys2Proof.Machine.execLocalKeyChange active s
  | .writeSetting l payload => Sys2Proof.Machine.execWriteSetting l payload s
  | .writeTable l payload => Sys2Proof.Machine.execWriteTable l payload s
  | .writeTableEnd l => Sys2Proof.Machine.execWriteTableEnd l s
  | .saveSettings l payload => Sys2Proof.Machine.execSaveSettings l payload s
  | .saveEnd => Sys2Proof.Machine.execSaveEnd s
  | .readSetting l payload => Sys2Proof.Machine.execReadSetting l payload s
  | .readTable l payload => Sys2Proof.Machine.execReadTable l payload s
  | .onGeneratorChange active => Sys2Proof.Machine.execOnGeneratorChange active s
  | .hold => Sys2Proof.Machine.execHold s
  | .start => Sys2Proof.Machine.execStart s
  | .backupSupplyLoss => Sys2Proof.Machine.execBackupSupplyLoss s
  | .byteReceived l b => Sys2Proof.Machine.execByteReceived l b s

end Sys2Proof.Machine
end

