-- ==== Sys2Proof/WellFormed.lean ====
section
/-! DEFINITION. Which commands can come about on the links: a frame's PAYLOAD has at most 240 bytes (section 10.1), and
UNKNOWN_REQUEST carries a CODE that names no request of the catalogue (R175). -/

namespace Sys2Proof

/-- The codes of the request catalogue (section 10.3). -/
def requestCodes : List Nat :=
  [0x01, 0x02, 0x03, 0x04, 0x05, 0x06, 0x07, 0x08, 0x09, 0x0A, 0x0B, 0x0C, 0x0D, 0x0E, 0x0F, 0x10,
   0x20, 0x21, 0x22, 0x23, 0x30, 0x31, 0x32, 0x33, 0x34, 0x35, 0x36, 0x37]

/-- The frame of a request command: its CODE and PAYLOAD. None for the commands that are no frame. -/
def Instr.frame? : Instr → Option (Nat × List Byte)
  | .readLevels _ b => some (0x01, b)
  | .readPumps _ b => some (0x02, b)
  | .readPermit _ b => some (0x03, b)
  | .readProtection _ b => some (0x04, b)
  | .readScreens _ b => some (0x05, b)
  | .readOverflow _ b => some (0x06, b)
  | .readBalance _ b => some (0x07, b)
  | .readAlarms _ b => some (0x08, b)
  | .readChanges _ b => some (0x09, b)
  | .readEvents _ b => some (0x0A, b)
  | .releaseEvents _ b => some (0x0B, b)
  | .readSummary _ b => some (0x0C, b)
  | .readClock _ b => some (0x0D, b)
  | .readSeat _ b => some (0x0E, b)
  | .readSetting _ b => some (0x0F, b)
  | .readTable _ b => some (0x10, b)
  | .ackAlarm _ b => some (0x20, b)
  | .rakeRequest _ b => some (0x21, b)
  | .claimSeat _ b => some (0x22, b)
  | .releaseSeat _ b => some (0x23, b)
  | .writeSetting _ b => some (0x30, b)
  | .writeTable _ b => some (0x31, b)
  | .saveSettings _ b => some (0x32, b)
  | .pumpCommand _ b => some (0x33, b)
  | .setRotation _ b => some (0x34, b)
  | .clearLockout _ b => some (0x35, b)
  | .rakeReset _ b => some (0x36, b)
  | .setClock _ b => some (0x37, b)
  | .unknownRequest _ c b => some (c.toNat, b)
  | .sample _ _ | .checkTimerExpiry _ | .disagreeTimerExpiry | .floatChange _ _ | .floatCheckTimerExpiry
  | .minRunExpiry _ | .minOffExpiry _ | .startHistoryAgeOut _ | .rampStep _ | .speedRefPeriodEnd _
  | .spacingTimerExpiry | .hoaChange _ _ _ | .runFbChange _ _ | .overtempChange _ _ | .faultTimerExpiry _ _
  | .undercurrentArm _ | .restTimerExpiry _ | .forgiveTimerExpiry _ | .sealLeakChange _ _ | .sealTimerExpiry _
  | .stopWatchExpiry _ | .uncommandedWatchExpiry _ | .intervalTimerExpiry _ | .rakeHomeChange _ _
  | .homeLeaveTimerExpiry _ | .cycleTimerExpiry _ | .rakeTorqueChange _ _ | .rakeThermalChange _ _
  | .reverseTimerExpiry _ | .blindingTimerExpiry | .confirmTimerExpiry _ | .endTimerExpiry _
  | .levelLossTimerExpiry _ | .accrualSecond | .flowPulse | .meterRateTimeout | .silenceTimerExpiry
  | .intervalClose | .ackIn _ | .clockSecond | .gapTimerExpiry _ | .frameDiscarded _ | .answerSent _
  | .holdTimerExpiry | .localKeyChange _ | .writeTableEnd _ | .saveEnd | .onGeneratorChange _ | .hold | .start
  | .backupSupplyLoss | .byteReceived _ _ => none

/-- The link a request's frame came on. -/
def Instr.link? : Instr → Option Link
  | .readLevels l _ | .readPumps l _ | .readPermit l _ | .readProtection l _ | .readScreens l _ | .readOverflow l _
  | .readBalance l _ | .readAlarms l _ | .readChanges l _ | .readEvents l _ | .releaseEvents l _ | .readSummary l _
  | .readClock l _ | .readSeat l _ | .readSetting l _ | .readTable l _ | .ackAlarm l _ | .rakeRequest l _ | .claimSeat l _
  | .releaseSeat l _ | .writeSetting l _ | .writeTable l _ | .saveSettings l _ | .pumpCommand l _ | .setRotation l _
  | .clearLockout l _ | .rakeReset l _ | .setClock l _ | .unknownRequest l _ _ => some l
  | .sample _ _ | .checkTimerExpiry _ | .disagreeTimerExpiry | .floatChange _ _ | .floatCheckTimerExpiry
  | .minRunExpiry _ | .minOffExpiry _ | .startHistoryAgeOut _ | .rampStep _ | .speedRefPeriodEnd _
  | .spacingTimerExpiry | .hoaChange _ _ _ | .runFbChange _ _ | .overtempChange _ _ | .faultTimerExpiry _ _
  | .undercurrentArm _ | .restTimerExpiry _ | .forgiveTimerExpiry _ | .sealLeakChange _ _ | .sealTimerExpiry _
  | .stopWatchExpiry _ | .uncommandedWatchExpiry _ | .intervalTimerExpiry _ | .rakeHomeChange _ _
  | .homeLeaveTimerExpiry _ | .cycleTimerExpiry _ | .rakeTorqueChange _ _ | .rakeThermalChange _ _
  | .reverseTimerExpiry _ | .blindingTimerExpiry | .confirmTimerExpiry _ | .endTimerExpiry _
  | .levelLossTimerExpiry _ | .accrualSecond | .flowPulse | .meterRateTimeout | .silenceTimerExpiry
  | .intervalClose | .ackIn _ | .clockSecond | .gapTimerExpiry _ | .frameDiscarded _ | .answerSent _
  | .holdTimerExpiry | .localKeyChange _ | .writeTableEnd _ | .saveEnd | .onGeneratorChange _ | .hold | .start
  | .backupSupplyLoss | .byteReceived _ _ => none

/-- UNKNOWN_REQUEST is the row of a CODE outside the catalogue (R175, check 1). -/
def Instr.codeFits : Instr → Bool
  | .unknownRequest _ c _ => !requestCodes.contains c.toNat
  | _ => true

/-- A command that a frame or an event of the part can be. -/
def Instr.wellFormed (i : Instr) : Bool :=
  i.codeFits && (match i.frame? with
    | some (_, b) => b.length ≤ 240
    | none => true)

end Sys2Proof
end

