-- ==== Sys2Proof/Safety.lean ====
section
/-! DEFINITION. What counts as a safe state, in the terms the statements use: what a command gives, what it leaves alone, the checks
the request catalogue makes of a frame, and the invariants of the part. -/

namespace Sys2Proof.Machine

/-! ## What a command gives and what it leaves alone -/

/-- The command answers a next state with the property. -/
def Gives (c : Instr) (s : State) (P : State → Prop) : Prop := ∃ t, exec c s = .next t ∧ P t

/-- The parts of the state. -/
inductive Block where
  | pending | isHeld | marker | uptime | inputs
  | lvu | dsq | spm | ppr | scr | ovm | fbl | alm | src | lnk | cfg
  deriving DecidableEq, Repr

/-- One part is the same in two states. -/
def Block.same : Block → State → State → Prop
  | .pending, s, t => t.pending = s.pending
  | .isHeld, s, t => t.isHeld = s.isHeld
  | .marker, s, t => t.marker = s.marker
  | .uptime, s, t => t.uptime = s.uptime
  | .inputs, s, t => t.inputs = s.inputs
  | .lvu, s, t => t.lvu = s.lvu
  | .dsq, s, t => t.dsq = s.dsq
  | .spm, s, t => t.spm = s.spm
  | .ppr, s, t => t.ppr = s.ppr
  | .scr, s, t => t.scr = s.scr
  | .ovm, s, t => t.ovm = s.ovm
  | .fbl, s, t => t.fbl = s.fbl
  | .alm, s, t => t.alm = s.alm
  | .src, s, t => t.src = s.src
  | .lnk, s, t => t.lnk = s.lnk
  | .cfg, s, t => t.cfg = s.cfg

/-- Only the listed parts may differ. -/
def OnlyIn (bs : List Block) (s t : State) : Prop := ∀ b : Block, b ∉ bs → b.same s t

/-- Every pump but one is the same in a table. -/
def OthersKept {α : Type} (p : No4) (q r : Quad α) : Prop := ∀ i, i ≠ p → r.get i = q.get i

/-- The controller runs and the link takes a request. -/
def State.taking (s : State) (l : Link) : Prop := s.isHeld = false ∧ (s.link l).request = .free

/-- The record newest in the log. -/
def State.newestRecord (s : State) : Option RecordBody := s.src.log.getLast?.map (·.body)

/-! ## The request catalogue (section 10.3) -/

/-- The LEN column of the catalogue. -/
def lengthFits (code : Nat) (b : List Byte) : Bool :=
  match code with
  | 0x08 | 0x0A | 0x10 | 0x20 | 0x21 | 0x34 | 0x35 | 0x36 => b.length == 1
  | 0x0F => b.length == 2
  | 0x0B => b.length == 4
  | 0x30 | 0x37 => b.length == 6
  | 0x33 => b.length == 2 || b.length == 3
  | 0x31 => 2 ≤ b.length && b.length == 2 + 6 * part b 1 1
  | _ => b.length == 0

/-- The requests marked "yes" in the Seat column of the catalogue. -/
def seatCodes : List Nat := [0x30, 0x31, 0x32, 0x33, 0x34, 0x35, 0x36, 0x37]

/-- The first of the Link Interface's own checks that a request fails (R175, checks 1 to 3). -/
def firstFailure (code : Nat) (b : List Byte) (holds : Bool) : Option Status :=
  if !requestCodes.contains code then some .unknown
  else if !lengthFits code b then some .length
  else if seatCodes.contains code && !holds then some .notSeat
  else none

/-- A request was answered and did nothing else: the Link Interface alone has changed, and of it only this link and the hold timer. -/
structure Answered (s t : State) (l : Link) (frames : List Frame) : Prop where
  only : OnlyIn [.lnk] s t
  seat : t.lnk.seat = s.lnk.seat
  sending : (t.link l).request = .sending
  frames :
    match (s.link l).transmit with
    | .busy _ _ => (t.link l).transmit = (s.link l).transmit ∧ (t.link l).answerWaiting = frames
    | _ => (t.link l).transmit = .answer frames s.uptime
  other : t.link l.other = s.link l.other

/-- Frames are handed to a link's TXD: its request state is SENDING, and they are being sent from now or wait for the end of the BUSY
answer being sent (R173). -/
structure Sends (s t : State) (l : Link) (frames : List Frame) : Prop where
  sending : (t.link l).request = .sending
  frames :
    match (s.link l).transmit with
    | .busy _ _ => (t.link l).transmit = (s.link l).transmit ∧ (t.link l).answerWaiting = frames
    | _ => (t.link l).transmit = .answer frames s.uptime

/-- A request of a link was carried out and is answered DONE with no data; the seat and the other link are as they were. -/
structure DoneOn (s t : State) (l : Link) (code : Byte) : Prop where
  sends : Sends s t l (doneFrames code [])
  seat : t.lnk.seat = s.lnk.seat
  other : t.link l.other = s.link l.other

/-! ## Figures the rules give -/

/-- A pair of samples fails: the second is UNDER, the first was, or they differ by more than the limit (R6). -/
def pairFails (limit : Nat) (first : Option Nat) (second : Option (Nat × Bool)) : Prop :=
  match first, second with
  | some a, some (b, _) => limit < max a b - min a b
  | _, _ => True

/-- A screen after a grant: FORWARD with its timers started, or at once jammed while RAKE_TORQUE is active (R93, R98). -/
def ScreenRec.granted (r : ScreenRec) (home torque : Bool) (now : Nat) : ScreenRec :=
  let begun := { r with rake := .forward, leftHome := !home, homeLeave := if home then some now else none, cycle := some now }
  if torque then
    { begun with rake := .backoff, homeLeave := none, cycle := none, reverse := some now, retries := r.retries + 1 }
  else begun

/-- A screen that its thermal contact has failed (R96, R97). -/
def ScreenRec.failedHot (r : ScreenRec) : ScreenRec :=
  { r with rake := .failed, cause := some .thermal, homeLeave := none, cycle := none, reverse := none }

/-- What the differential trigger makes of the other screen and of the permit when `sc` has gone out of service: nothing while the
differential is not high or the other screen is not IDLE, else the trigger on that screen, which its own thermal contact may fail too
(R90, R96, R97). `u` is the state with the permit as the failure of `sc` leaves it. -/
structure State.JudgedAfter (u t : State) (sc : Screen) : Prop where
  spent : u.diffHigh = false ∨ u.isIdle sc.other = false →
    t.scr.screens.get sc.other = u.scr.screens.get sc.other ∧ t.spm = u.spm
  hot : ∀ q, u.scr.screens.get sc.other = some q → q.rake = .idle → u.diffHigh = true →
    u.inputs.rakeThermal.get sc.other = true →
    t.scr.screens.get sc.other = some q.failedHot ∧ t.condition (.rakeFailed sc.other) = true ∧
    t.spm = (u.withdraw (.screen sc.other)).spm
  waits : ∀ q, u.scr.screens.get sc.other = some q → q.rake = .idle → u.diffHigh = true →
    u.inputs.rakeThermal.get sc.other = false → u.spm.permit = .spacing →
    t.scr.screens.get sc.other = some { q with rake := .waiting } ∧ t.spm = (u.join (.screen sc.other)).spm
  granted : ∀ q, u.scr.screens.get sc.other = some q → q.rake = .idle → u.diffHigh = true →
    u.inputs.rakeThermal.get sc.other = false → u.spm.permit = .opened →
    t.scr.screens.get sc.other =
      some (q.granted (u.inputs.rakeHome.get sc.other) (u.inputs.rakeTorque.get sc.other) u.uptime) ∧
    t.spm = (u.recordGrant (.screen sc.other)).spm

/-- Of two IDLE screens the differential trigger goes to the one whose last cycle ended longer ago, an absent end being the longer ago,
and at equal ends to screen 1: whether `sc` is that one (R90). -/
def firstInTurn (sc : Screen) (own other : Option Nat) : Bool :=
  match own, other with
  | none, some _ => true
  | some _, none => false
  | some a, some b => decide (a < b) || (a == b && sc == .n1)
  | none, none => sc == .n1

/-- The points a WRITE_SETTING passes before it replaces the value, on a value not held already (R185). -/
structure State.Accepts (s : State) (x : Setting) (v : Nat) : Prop where
  range : x.range.1 ≤ v ∧ v ≤ x.range.2
  conflict : (s.img.put x v).constraintsHold = true
  changes : s.img.get x ≠ v

/-- The payload of WRITE_SETTING: the identifier and the value (section 10.3). -/
def settingPayload (x : Setting) (v : Nat) : List Byte := bytesOf 2 x.ident ++ bytesOf 4 v

/-- A timer has run `secs` seconds at an uptime in ms. -/
def ran (t : Timer) (secs now : Nat) : Bool :=
  match t with
  | some t0 => decide (t0 + secs * 1000 ≤ now)
  | none => false

/-- A running timer keeps its start under a changed duration, and is gone where it has run it (R31). -/
def stillRuns (t : Timer) (secs now : Nat) : Timer := if ran t secs now then none else t

/-- The same change on every value of a table. -/
def everyOne {α : Type} (f : α → α) (q : Quad α) : Quad α := ⟨f q.v1, f q.v2, f q.v3, f q.v4⟩

/-- A pump is LOCKED_OUT at a start: at a warm start, when it was (R86). -/
def State.lockedAtStart (s : State) (p : Pump) : Bool := s.marker && (s.ppr.get p).protection == .lockedOut

/-- A pump's trip counter at a start under the limit loaded: 0 at a cold one; at a warm one the limit in LOCKED_OUT, else the count
kept, held below the limit (R79, R86). -/
def State.tripsAtStart (s : State) (limit : Nat) (p : Pump) : Nat :=
  if s.marker = false then 0 else if s.lockedAtStart p then limit else min (s.ppr.get p).trips (limit - 1)

/-- An installed pump, not LOCKED_OUT, that a start finds with OVERTEMP active and `overtemp_s` at 0: its timer expires as it starts
(R66, R86, log entry 23). -/
def State.tripsHot (s : State) (m : Image) (p : Pump) : Bool :=
  decide (p.toNat ≤ m.units.pumpsInstalled) && !s.lockedAtStart p && s.inputs.overtemp.get p && m.prot.overtempS == 0

/-- What a start under an image makes of a pump's protection (R66, R73, R77, R86). -/
def State.pumpAtStart (s : State) (m : Image) (p : Pump) : ProtectedPump :=
  let n := s.tripsAtStart m.prot.lockoutTrips p
  let locked := s.lockedAtStart p
  let in_ := decide (p.toNat ≤ m.units.pumpsInstalled)
  let hot := in_ && !locked && s.inputs.overtemp.get p
  let judged : ProtectedPump :=
    { protection := if locked then .lockedOut else if hot then .alert else .healthy
      trips := n, rest := none, awaitingCool := false, runningSince := none, armed := false, sealLeak := false
      lastTrip := none
      faults := { FaultTimers.allStopped with overtemp := if hot then some 0 else none }
      forgive := if in_ && n != 0 && !locked then some 0 else none
      sealTimer := if in_ && s.inputs.sealLeak.get p then some 0 else none
      watch :=
        if in_ && s.inputs.hoaAuto.get p && !s.inputs.hoaHand.get p && s.runFb p then .stopWatch (some 0) else .idle }
  if s.tripsHot m p then
    let out := m.prot.lockoutTrips ≤ n + 1
    { judged with
      protection := if out then .lockedOut else .tripped
      trips := n + 1, faults := .allStopped, lastTrip := some (.overtemp, 0)
      rest := if out then none else some 0
      forgive := if out then none else some 0 }
  else judged

/-- The OVERFLOW_END records of a warm start, point 1 before point 2, for the points that were open (R125). -/
def State.closings (s : State) (now : Stamp) : List RecordBody :=
  No2.all.filterMap fun pt =>
    match s.ovm.points.get pt with
    | some r =>
      if r.state.opened then
        r.episode.map fun e =>
          .overflowEnd pt e.startTime now e.age e.peak (e.volume / 10) .powerLoss
            (e.crossedDay || e.startTime.datesDiffer now)
      else none
    | none => none

/-- The trip records of the pumps that a start finds hot with `overtemp_s` at 0, in number order, each with its lockout (R73, R77). -/
def State.hotTrips (s : State) (m : Image) : List RecordBody :=
  (No4.all.filter (s.tripsHot m)).flatMap fun p =>
    let n := s.tripsAtStart m.prot.lockoutTrips p + 1
    .pumpTrip p .overtemp n :: if m.prot.lockoutTrips ≤ n then [.pumpLockout p] else []

/-- Records numbered from `n`, all of one event. -/
def numbered (now : Stamp) : Nat → List RecordBody → List LogRecord
  | _, [] => []
  | n, b :: rest => ⟨n, now, b⟩ :: numbered now (n + 1) rest

/-- The raw level of a count as R3 writes it: the part below 4 mA rounds like the part above it. -/
def rawFigure (base span c : Nat) : Int :=
  if 819 ≤ c then (base : Int) + ((((c : Int) - 819) * span + 1638) / 3276)
  else (base : Int) - (((819 - (c : Int)) * span + 1638) / 3276)

/-- A figure clamped to 0 and an upper clamp (R3). -/
def clampTo (top : Nat) (v : Int) : Int := if v < 0 then 0 else if (top : Int) < v then top else v

/-- The class R57 ranks a request in: forced pumps, other pumps, screens. -/
def State.rankClass (s : State) (r : Request) : Nat :=
  match r.who with
  | .pump p => if s.forced p then 0 else 1
  | .screen _ => 2

/-- A date of the calendar (R161). -/
def Date.valid (d : Date) : Prop :=
  1 ≤ d.month ∧ d.month ≤ 12 ∧ 1 ≤ d.day ∧ d.day ≤ daysInMonth d.year d.month

/-- The receiver over a run of bytes that come without a gap: its state after them and the valid frames they completed. -/
def Receive.feed : Receive → List Byte → Receive × List (Byte × List Byte)
  | r, [] => (r, [])
  | r, b :: rest =>
    let n := r.next b
    let f := Receive.feed n.1 rest
    (f.1, n.2.toList ++ f.2)

/-- The bytes of a request frame: SYNC, LEN, CODE, PAYLOAD and the CRC of LEN to PAYLOAD, high byte first (section 10.1). -/
def requestFrame (code : Byte) (payload : List Byte) : List Byte :=
  let inner := BitVec.ofNat 8 payload.length :: code :: payload
  0xA5#8 :: inner ++ bytesOf 2 (crc inner).toNat

/-! ## Invariants -/

/-- Every image the store holds and every table it is writing satisfies the ranges and the constraints (R185, R186, R189). -/
structure SettingsOk (c : SettingsStore) : Prop where
  live : c.live.wf = true
  stored : ∀ m, c.stored = some m → m.wf = true
  saving : ∀ v, c.saving = some v → v.image.wf = true
  writes : ∀ w ∈ c.writes, tableInRange w.table w.points = true ∧ tableConsistent w.table w.points = true

/-- Records numbered without a gap from `n`. -/
def numberedFrom : Nat → List LogRecord → Prop
  | _, [] => True
  | n, r :: rest => r.seq = n ∧ numberedFrom (n + 1) rest

/-- The event log holds 1 to 96 records numbered without a gap, the counter follows the newest, and each cursor stands at a record
held or just after the newest (R156 to R160). -/
structure LogOk (r : StationRecord) : Prop where
  some_record : r.log ≠ []
  at_most_96 : r.log.length ≤ 96
  first : 1 ≤ r.oldest
  last : r.newest ≤ max32
  numbered : numberedFrom r.oldest r.log
  counter : r.nextSeq = followingSeq r.newest
  cursors : ∀ l, r.oldest ≤ r.position (r.cursors.get l) ∧ r.position (r.cursors.get l) ≤ r.newest + 1

/-- While LOCAL_KEY is active the Panel link holds the seat and no hold timer runs; overrides belong to the holder; a running hold
timer means a held seat (R180 to R182). -/
structure SeatOk (s : State) : Prop where
  key : s.inputs.localKey = true → s.lnk.seat = .held .panel ∧ s.lnk.holdTimer = none
  owners : ∀ p o, (s.dsq.pumps.get p).override = some o → s.lnk.seat = .held o.owner
  timer : s.lnk.holdTimer.isSome = true → s.lnk.seat ≠ .free

/-- The delayed requests a link has under way. -/
def SettingsStore.workOf (c : SettingsStore) (l : Link) : Nat :=
  (c.writes.filter fun w => w.link == l).length + (match c.saving with
    | some v => if v.link = l then 1 else 0
    | none => 0)

/-- A FREE link has no answer and no work in progress, a WORKING one has one delayed request and no answer, a SENDING one has one
answer, on TXD or behind a BUSY answer (R173, R174). -/
def LinkOk (r : LinkRec) (work : Nat) : Prop :=
  match r.request, r.transmit with
  | .free, .answer _ _ | .working, .answer _ _ | .sending, .idle => False
  | .free, _ => work = 0 ∧ r.answerWaiting = [] ∧ r.busyWaiting = none
  | .working, _ => work = 1 ∧ r.answerWaiting = [] ∧ r.busyWaiting = none
  | .sending, .answer _ _ => work = 0 ∧ r.answerWaiting = []
  | .sending, .busy _ _ => work = 0 ∧ r.answerWaiting ≠ [] ∧ r.busyWaiting = none

/-- Both links are in order. -/
def LinksOk (s : State) : Prop := ∀ l, LinkOk (s.link l) (s.cfg.workOf l)

/-- Each alarm output is energised exactly as the point states and the routing call for (R149). -/
def OutputsOk (s : State) : Prop := ∀ m, s.alm.outputs.get m = s.outputNow m

/-- The spacing timer has started by now and not before the last grant or the last outside start, and in OPEN it has run the spacing in
force (R58 to R61). -/
structure SpacingOk (s : State) : Prop where
  begun : s.spm.spacingStart ≤ s.uptime
  grants : ∀ who u, s.spm.lastGrant = some (who, u) → u ≤ s.spm.spacingStart
  outside : ∀ p u, s.spm.lastOutside = some (p, u) → u ≤ s.spm.spacingStart
  opened : s.spm.permit = .opened → s.spm.spacingStart + s.spacing * 1000 ≤ s.uptime

/-- A waiting request is that of a unit in WAITING, a reverse timer runs in BACKOFF alone, home-leave and cycle timers in FORWARD alone,
and an uninstalled screen has no record (R55, R56, R93, R94, R98, R99, R105). -/
structure RequestsOk (s : State) : Prop where
  pumps : ∀ r ∈ s.spm.waiting, ∀ p, r.who = .pump p → s.runState p = .waiting
  screens : ∀ r ∈ s.spm.waiting, ∀ sc, r.who = .screen sc → s.rakeOf sc = some .waiting
  reverse : ∀ sc r, s.scr.screens.get sc = some r → r.reverse.isSome = true → r.rake = .backoff
  forward : ∀ sc r, s.scr.screens.get sc = some r → (r.homeLeave.isSome || r.cycle.isSome) = true → r.rake = .forward
  installed : ∀ sc, s.screenIn sc = false → s.scr.screens.get sc = none

/-- While FLOAT_LOW_LOW is active no pump runs by command and none waits to start (R35, R39, R41). -/
def DryRunOk (s : State) : Prop := s.inputs.floatLowLow = true → ∀ p, s.runState p = .stopped

/-- A pump's trip counter never exceeds the limit and equals it exactly in LOCKED_OUT; outside HEALTHY and ALERT, and while the pump
is uninstalled, no fault timer runs; a rest timer runs in TRIPPED alone, and only while the pump is installed (R66, R75, R77,
R85). -/
structure TripOk (limit : Nat) (installed : Bool) (r : ProtectedPump) : Prop where
  at_most : r.trips ≤ limit
  exactly : r.trips = limit ↔ r.protection = .lockedOut
  timers : r.protection.watched = false ∨ installed = false → r.faults = .allStopped
  rest : r.rest.isSome = true → r.protection = .tripped ∧ installed = true

/-- Every pump's trips are in order. -/
def TripsOk (s : State) : Prop := ∀ p, TripOk s.img.prot.lockoutTrips (s.pumpIn p) (s.ppr.get p)

end Sys2Proof.Machine
end

