-- ==== Sys2Proof/Certificates/Slice0/Obligations.lean ====
section
/-! DEFINITION. The statements for the provers, in the order of OBLIGATIONS.json: `exec` of a command answers a next state with the
named property (`Gives`) and touches only the listed parts of the state (`OnlyIn`). Each docstring names the rules. -/

open Sys2Proof Sys2Proof.Machine

/-- A step carries out the command at the front of the queue (00_scope.md, Block Overview, 95_what_each_step_holds.md). -/
def Obligations.QueueStep : Prop :=
  ∀ (c : Instr) (rest : List Instr) (s : State), s.pending = c :: rest → step s = exec c { s with pending := rest }

/-- Conversion of a valid sample on every channel (R3, R4). -/
def Obligations.ConversionIsClamped : Prop :=
  ∀ (m : Image) (p : Pump) (c : Nat), 737 ≤ c → c ≤ 4095 →
    (m.convert .wellPri c : Int) =
      clampTo (min (m.level.zeroMm.v1 + m.level.spanMm.v1) m.level.wellDepth)
        (rawFigure m.level.zeroMm.v1 m.level.spanMm.v1 c) ∧
    (m.convert .wellSec c : Int) =
      clampTo (min (m.level.zeroMm.v2 + m.level.spanMm.v2) m.level.wellDepth)
        (rawFigure m.level.zeroMm.v2 m.level.spanMm.v2 c) ∧
    (m.convert .inlet c : Int) =
      clampTo (m.level.zeroMm.v3 + m.level.spanMm.v3) (rawFigure m.level.zeroMm.v3 m.level.spanMm.v3 c) ∧
    (m.convert .screenOut c : Int) =
      clampTo (m.level.zeroMm.v4 + m.level.spanMm.v4) (rawFigure m.level.zeroMm.v4 m.level.spanMm.v4 c) ∧
    (m.convert (.cur p) c : Int) = clampTo (m.level.curSpan.get p) (rawFigure 0 (m.level.curSpan.get p) c)

/-- SAMPLE goes to its channel and to no other; HIGH_LEVEL follows a moved control level, a discontinuity a changed source or
the first sample since a rescale (R1, R5, R6, R7, R8, R9, R10, R19, R131). The next channel after a sample out of rotation is
the model's choice (log entry 7), and that the sample of a rescaled channel that has left IN_SERVICE marks it too is deduced
from R131 (log entry 39). -/
def Obligations.SampleReachesItsRecord : Prop :=
  ∀ (s : State) (ch : Channel) (counts : BitVec 12), s.isHeld = false →
    Gives (.sample ch counts) s fun t =>
      t.lvu.scanNext = Channel.following ch ∧
      t.chan ch = (s.chan ch).map
        (fun r => r.sample s.img.level.initLimit s.uptime (s.img.classify ch counts.toNat)) ∧
      (∀ other, other ≠ ch → t.chan other = s.chan other) ∧
      (s.chan ch = none → t = { s with lvu := { s.lvu with scanNext := Channel.following ch } }) ∧
      (∀ v, t.controlLevel = some v → s.controlLevel ≠ some v →
        t.lvu.highLevel =
          (if s.img.level.highAlarm ≤ v then true
          else if v + 100 < s.img.level.highAlarm then false else s.lvu.highLevel) ∧
        t.condition .highLevel = t.lvu.highLevel) ∧
      (t.controlLevel = none →
        t.lvu.highLevel = s.lvu.highLevel ∧ t.condition .highLevel = s.condition .highLevel) ∧
      (let well := Channel.well? ch
        let first : Bool :=
          decide (736 < counts.toNat) && (s.chan ch).isSome && ((well.map s.fbl.rescaled.get).getD false)
        (∀ w, t.fbl.rescaled.get w = (s.fbl.rescaled.get w && !(first && well == some w))) ∧
        t.fbl.discontinuity =
          (s.fbl.discontinuity || decide (t.source ≠ s.source) || (first && t.controlLevel.isSome))) ∧
      OnlyIn [.lvu, .dsq, .spm, .ppr, .scr, .ovm, .fbl, .alm, .src] s t

/-- Samples in the pair check, in service and in either fault (R5, R6, R7, R8, R9, R11). -/
def Obligations.ServiceAndFaultSamples : Prop :=
  (∀ (r : ChannelRec) (limit now x a b c d : Nat) (sat : Bool),
    (r.state = .inService →
      (r.history = [a, b, c, d] →
        let t := r.sample limit now (some (x, sat))
        t.state = .inService ∧ t.history = [b, c, d, x] ∧ t.filtered = some ((b + c + d + x + 2) / 4) ∧
        t.invalidCount = 0 ∧ t.saturated = sat) ∧
      (r.history = [] →
        let t := r.sample limit now (some (x, sat))
        t.state = .inService ∧ t.history = [x, x, x, x] ∧ t.filtered = some x ∧ t.invalidCount = 0 ∧
        t.saturated = sat) ∧
      (r.invalidCount + 1 < 5 → r.sample limit now none = { r with invalidCount := r.invalidCount + 1 }) ∧
      (r.invalidCount + 1 = 5 →
        let t := r.sample limit now none
        t.state = .fault .sample ∧ t.history = [] ∧ t.filtered = none ∧ t.validCount = 0)) ∧
    (r.state = .fault .sample →
      r.sample limit now none = { r with validCount := 0 } ∧
      (r.validCount + 1 < 20 → r.sample limit now (some (x, sat)) = { r with validCount := r.validCount + 1 }) ∧
      (r.validCount + 1 = 20 →
        let t := r.sample limit now (some (x, sat))
        t.state = .inService ∧ t.history = [x, x, x, x] ∧ t.filtered = some x ∧ t.saturated = sat ∧ t.invalidCount = 0))) ∧
  (∀ (r : ChannelRec) (limit now x y : Nat) (first : Option Nat) (v : Option (Nat × Bool)) (sat sat' : Bool),
    (r.state = .starting ∨ (r.state = .fault .check ∧ r.checkTimer = none) →
      (r.pairFirst = none →
        r.sample limit now (some (x, sat)) = { r with pairFirst := some (some x) } ∧
        r.sample limit now none = { r with pairFirst := some none }) ∧
      (r.pairFirst = some (some x) → max x y - min x y ≤ limit →
        let t := r.sample limit now (some (y, sat'))
        t.state = .inService ∧ t.history = [y, y, y, y] ∧ t.filtered = some y ∧ t.saturated = sat' ∧
        t.invalidCount = 0)) ∧
    (r.pairFirst = some first → pairFails limit first v →
      (r.state = .starting →
        (r.pairsFailed + 1 < 4 →
          r.sample limit now v = { r with pairsFailed := r.pairsFailed + 1, pairFirst := none }) ∧
        (r.pairsFailed + 1 = 4 →
          let t := r.sample limit now v
          t.state = .fault .check ∧ t.checkTimer = some now ∧ t.filtered = r.filtered)) ∧
      (r.state = .fault .check → r.checkTimer = none →
        r.sample limit now v = { r with pairFirst := none, checkTimer := some now })) ∧
    (r.state = .fault .check → r.checkTimer.isSome = true → r.sample limit now v = r))

/-- The three timers of the Level Unit (R7, R13, R15, R18). The uptime that an expiry taken early reaches, and that nothing
happens where the timer does not run, are the model's choices (log entry 2). -/
def Obligations.LevelTimers : Prop :=
  ∀ (s : State) (ch : Channel) (r : ChannelRec) (t0 a b : Nat), s.isHeld = false →
    (s.chan ch = some r → r.checkTimer = some t0 →
      Gives (.checkTimerExpiry ch) s fun t =>
        t.chan ch = some { r with checkTimer := none, pairFirst := none } ∧
        (∀ other, other ≠ ch → t.chan other = s.chan other) ∧ OnlyIn [.lvu] (s.reach (t0 + 10000)) t) ∧
    (s.lvu.floatCheck = some t0 →
      Gives .floatCheckTimerExpiry s fun t =>
        t.lvu = { s.lvu with floatCheck := none, floatDisagree := true } ∧ t.condition .floatDisagree = true ∧
        OnlyIn [.lvu, .alm] (s.reach (t0 + 10000)) t) ∧
    (s.level .wellPri = some a → s.level .wellSec = some b → s.lvu.disagreement = .disagreePending t0 →
      Gives .disagreeTimerExpiry s fun t =>
        t.lvu.disagreement = .disagree ∧ t.controlLevel = some (max a b) ∧ t.condition .levelDisagree = true ∧
        OnlyIn [.uptime, .lvu, .dsq, .spm, .ppr, .scr, .ovm, .fbl, .alm, .src] s t) ∧
    (s.level .wellPri = some a → s.level .wellSec = some b → s.lvu.disagreement = .agreePending t0 →
      Gives .disagreeTimerExpiry s fun t =>
        t.lvu.disagreement = .agree ∧ t.controlLevel = some a ∧ t.condition .levelDisagree = false ∧
        OnlyIn [.uptime, .lvu, .dsq, .spm, .ppr, .scr, .ovm, .fbl, .alm, .src] s t)

/-- FLOAT_CHANGE moves the float, the latch and the two float conditions (R17, R34). -/
def Obligations.FloatChange : Prop :=
  ∀ (s : State) (f : FloatSwitch) (a : Bool), s.isHeld = false → s.inputs.getFloat f = !a →
    Gives (.floatChange f a) s fun t =>
      t.inputs = s.inputs.setFloat f a ∧
      t.dsq.latch = (match f, a with
        | .high, true => true
        | .lowLow, true => false
        | _, _ => s.dsq.latch) ∧
      t.condition .highHighFloat = (if f = .highHigh then a else s.condition .highHighFloat) ∧
      t.condition .lowLowFloat = (if f = .lowLow then a else s.condition .lowLowFloat) ∧
      (∀ ch, t.chan ch = s.chan ch) ∧
      OnlyIn [.inputs, .lvu, .dsq, .spm, .ppr, .scr, .fbl, .alm, .src] s t

/-- FLOAT_LOW_LOW stops every commanded pump at once (R35, R41). -/
def Obligations.LowLowStopsEveryPump : Prop :=
  ∀ (s : State), s.isHeld = false → RequestsOk s → s.inputs.floatLowLow = false →
    Gives (.floatChange .lowLow true) s fun t =>
      (∀ p, t.runState p = .stopped) ∧ (∀ r ∈ t.spm.waiting, ∀ p, r.who ≠ .pump p)

/-- The run timers and the start history re-form the run set, and what a re-formation makes of it (R27, R31, R32, R36, R38,
R39, R40, R41, R42, R58). The uptime that an expiry taken early reaches, and that nothing happens where the timer does not
run, are the model's choices (log entry 2). That one event re-forms until nothing more changes (log entry 14), when the level
is in hand (log entry 27) and which of two pumps with one start time is stopped (log entry 36) are too. -/
def Obligations.RunTimersReform : Prop :=
  (∀ (s : State) (p : Pump) (t0 h : Nat) (rest : List Nat), s.isHeld = false →
    ((s.dsq.pumps.get p).minRun = some t0 →
      Gives (.minRunExpiry p) s fun t =>
        t = ((s.reach (t0 + s.img.duty.minRunS * 1000)).modDuty p fun d => { d with minRun := none }).reform) ∧
    ((s.dsq.pumps.get p).minOff = some t0 →
      Gives (.minOffExpiry p) s fun t =>
        t = ((s.reach (t0 + s.img.duty.minOffS * 1000)).modDuty p fun d => { d with minOff := none }).reform) ∧
    ((s.dsq.pumps.get p).history = h :: rest →
      Gives (.startHistoryAgeOut p) s fun t =>
        t = ((s.reach ((h + 3600) * 1000)).modDuty p fun d => { d with history := rest }).reform)) ∧
  (∀ s : State,
    OnlyIn [.dsq, .spm, .ppr, .scr, .fbl, .alm, .src] s s.reform ∧
    s.reform.src.log = s.src.log ∧ s.reform.src.clock = s.src.clock ∧
    s.reform.scr.blinded = s.scr.blinded ∧ s.reform.dsq.calls = s.dsq.calls ∧ s.reform.dsq.latch = s.dsq.latch ∧
    s.reform.dsq.stage = s.dsq.stage ∧ s.reform.fbl.pumped = s.fbl.pumped ∧
    (∀ p, (s.reform.dsq.pumps.get p).override = (s.dsq.pumps.get p).override) ∧
    (∀ p, (s.reform.ppr.get p).trips = (s.ppr.get p).trips ∧ (s.reform.ppr.get p).rest = (s.ppr.get p).rest ∧
      (s.reform.ppr.get p).forgive = (s.ppr.get p).forgive)) ∧
  (∀ (s : State) (p : Pump),
    let d := s.dsq.pumps.get p
    s.eligible p = true ↔
      p ∈ s.dsq.queue ∧ s.forceStopped p = false ∧
      (d.run = .starting ∨ d.run = .running ∨
        (d.minOff = none ∧
          (d.history.length < s.img.duty.startsPerHour ∨ s.storm = true ∨ s.forced p = true)))) ∧
  (∀ s : State,
    s.slots =
      (if s.inputs.onGenerator then s.img.duty.genMaxRunning else s.img.duty.maxRunning) -
        (No4.all.filter fun p => s.pumpIn p && s.runFb p && !s.runCmd p).length) ∧
  (∀ s : State,
    let able := s.dsq.queue.filter s.eligible
    let first := able.filter s.forced
    s.wanted =
      if s.inputs.floatLowLow = true ∨ s.levelInHand = false then []
      else first ++ (able.filter fun p => !s.forced p).take (s.demand - first.length)) ∧
  (∀ (s : State) (m : List Pump), m.Nodup →
    let free := m.filter fun p => !s.runCmd p
    let out := No4.all.filter fun p => s.runCmd p && !m.contains p
    let places := s.slots - out.length - (m.length - free.length)
    s.fit m = m.filter fun p => s.runCmd p || (free.take places).contains p) ∧
  (∀ s : State,
    let t := s.reform
    t.dsq.runSet = t.fit t.wanted ∧
    t.dsq.runSet.length + (No4.all.filter fun p => t.runCmd p && !t.dsq.runSet.contains p).length ≤ t.slots ∧
    (∀ p,
      (t.runState p = .stopped → p ∉ t.dsq.runSet ∧ (s.runState p = .waiting → t.requestOf (.pump p) = none)) ∧
      (t.runState p = .waiting →
        p ∈ t.dsq.runSet ∧
        (RequestsOk s → s.runState p = .stopped → t.requestOf (.pump p) = some ⟨.pump p, s.uptime⟩)) ∧
      (t.runCmd p = true → p ∉ t.dsq.runSet →
        (t.dsq.pumps.get p).minRun.isSome = true ∧ t.inputs.floatLowLow = false ∧ t.forceStopped p = false)) ∧
    (t.spm.permit = .opened → t.ranked = [])) ∧
  (∀ s : State, s.mustStop s.wanted = none →
    s.slots < (s.fit s.wanted).length + (s.runningOut s.wanted).length →
    ∃ p, s.runCmd p = true ∧
      (∀ q, s.runCmd q = true →
        (s.dsq.pumps.get q).startTime.getD 0 ≤ (s.dsq.pumps.get p).startTime.getD 0) ∧
      s.reform = (s.stopPump p).reform)

/-- Ramp steps and the duty in force of a drive (R49, R50). The uptime that an expiry taken early reaches, and that nothing
happens where the timer does not run, are the model's choices (log entry 2). -/
def Obligations.DriveSpeed : Prop :=
  (∀ (s : State) (p : Pump) (t0 : Nat), s.isHeld = false → (s.dsq.pumps.get p).rampNext = some t0 →
    Gives (.rampStep p) s fun t =>
      let r := (s.dsq.pumps.get p).speedRef
      let goal := s.target p
      let next := if r < goal then min (r + s.img.duty.rampPct) goal
        else if goal < r then max (r - s.img.duty.rampPct) goal else r
      t.dsq.pumps.get p =
        { s.dsq.pumps.get p with
          speedRef := next, pendingDuty := (next * 255 + 50) / 100, rampNext := some (t0 + 1000) } ∧
      OthersKept p s.dsq.pumps t.dsq.pumps ∧ t.dsq = { s.dsq with pumps := t.dsq.pumps } ∧
      OnlyIn [.dsq] (s.reach t0) t) ∧
  (∀ (s : State) (p : Pump), s.isHeld = false →
    Gives (.speedRefPeriodEnd p) s fun t =>
      (s.img.drive p = true →
        t.dsq.pumps.get p =
          { s.dsq.pumps.get p with
            dutyInForce := (s.dsq.pumps.get p).pendingDuty, refInForce := (s.dsq.pumps.get p).speedRef } ∧
        OthersKept p s.dsq.pumps t.dsq.pumps ∧ OnlyIn [.dsq] s t) ∧
      (s.img.drive p = false → t = s)) ∧
  (∀ r, r ≤ 100 → dutyOf r * 200 ≤ r * 255 * 2 + 100 ∧ r * 255 * 2 + 100 < (dutyOf r + 1) * 200)

/-- PUMP_COMMAND, SET_ROTATION and CLEAR_LOCKOUT in every form (R26, R41, R43, R66, R73, R77, R78). That a speed above 100 is
refused whatever the action, and that the trip of a timer of 0 s belongs to the request, are the model's choices (log entries
15 and 23). -/
def Obligations.PumpRequests : Prop :=
  ∀ (s : State) (l : Link), s.taking l → s.holds l = true →
    (∀ (p : Pump) (a v : Nat), a ≤ 2 → v ≤ 100 →
      let named : List Byte := [BitVec.ofNat 8 p.toNat]
      let payload : List Byte := named ++ [BitVec.ofNat 8 a, BitVec.ofNat 8 v]
      exec (.pumpCommand l (named ++ [BitVec.ofNat 8 a])) s =
        exec (.pumpCommand l (named ++ [BitVec.ofNat 8 a, 0])) s ∧
      (s.dsq.queue.contains p = true →
        Gives (.pumpCommand l payload) s (fun t =>
          (t.dsq.pumps.get p).override =
            (if a = 0 then none
            else if a = 1 then
              some ⟨.forceRun (if v = 0 then none else some (max v s.img.duty.minSpeed)), l⟩
            else some ⟨.forceStop, l⟩) ∧
          (∀ i, i ≠ p → (t.dsq.pumps.get i).override = (s.dsq.pumps.get i).override) ∧
          (a = 2 → RequestsOk s → t.runState p = .stopped) ∧
          DoneOn s t l 0x33 ∧ OnlyIn [.dsq, .spm, .ppr, .scr, .fbl, .alm, .src, .lnk] s t) ∧
        Gives (.setRotation l named) s (fun t =>
          t = ((((s.arrive l).setQueue (p :: s.dsq.queue.filter (· != p))).reform).give l 0x34 (.done [])) ∧
          DoneOn s t l 0x34)) ∧
      (s.dsq.queue.contains p = false →
        Gives (.pumpCommand l payload) s (fun t => Answered s t l (refusal 0x33 .state)) ∧
        Gives (.setRotation l named) s (fun t => Answered s t l (refusal 0x34 .state)))) ∧
    (∀ (p a v : Byte),
      (p.toNat = 0 ∨ 4 < p.toNat ∨ 2 < a.toNat ∨ 100 < v.toNat →
        Gives (.pumpCommand l [p, a, v]) s fun t => Answered s t l (refusal 0x33 .range)) ∧
      (p.toNat = 0 ∨ 4 < p.toNat ∨ 2 < a.toNat →
        Gives (.pumpCommand l [p, a]) s fun t => Answered s t l (refusal 0x33 .range)) ∧
      (p.toNat = 0 ∨ 4 < p.toNat →
        Gives (.setRotation l [p]) s (fun t => Answered s t l (refusal 0x34 .range)) ∧
        Gives (.clearLockout l [p]) s (fun t => Answered s t l (refusal 0x35 .range)))) ∧
    (∀ p : Pump,
      let c : Instr := .clearLockout l [BitVec.ofNat 8 p.toNat]
      (s.pumpIn p = true → (s.ppr.get p).protection = .lockedOut →
        s.img.prot.overtempS ≠ 0 ∨ s.inputs.overtemp.get p = false →
        Gives c s fun t =>
          (t.ppr.get p).trips = 0 ∧ (t.ppr.get p).protection.watched = true ∧ (t.ppr.get p).lastTrip = none ∧
          t.condition (.pump p .lockout) = false ∧ t.newestRecord = some (.lockoutCleared p l) ∧
          (s.inAuto p = true → t.dsq.queue.contains p = true) ∧ DoneOn s t l 0x35 ∧
          OnlyIn [.dsq, .spm, .ppr, .scr, .fbl, .alm, .src, .lnk] s t) ∧
      (s.pumpIn p = true → (s.ppr.get p).protection = .lockedOut → (s.ppr.get p).faults.overtemp = none →
        s.img.prot.overtempS = 0 → s.inputs.overtemp.get p = true →
        Gives c s fun t =>
          (t.ppr.get p).trips = 1 ∧ (t.ppr.get p).faults = .allStopped ∧
          (t.ppr.get p).protection = (if s.img.prot.lockoutTrips ≤ 1 then .lockedOut else .tripped) ∧
          (t.ppr.get p).lastTrip = some (.overtemp, s.uptime) ∧ t.runCmd p = false ∧ t.dsq.queue.contains p = false ∧
          (LogOk s.src → s.src.newest + 3 ≤ max32 →
            ∃ before, t.src.log.map (·.body) =
              before ++ (.lockoutCleared p l :: .pumpTrip p .overtemp 1 ::
                if s.img.prot.lockoutTrips ≤ 1 then [.pumpLockout p] else [])) ∧
          DoneOn s t l 0x35 ∧ OnlyIn [.dsq, .spm, .ppr, .scr, .fbl, .alm, .src, .lnk] s t) ∧
      (s.pumpIn p = false ∨ (s.ppr.get p).protection ≠ .lockedOut →
        Gives c s fun t => Answered s t l (refusal 0x35 .state)))

/-- The spacing timer's expiry and the rank of requests (R57, R58, R61). The uptime that an expiry taken early reaches, and
that nothing happens where the timer does not run, are the model's choices (log entry 2). -/
def Obligations.SpacingExpiryGrantsOrOpens : Prop :=
  (∀ (s : State), s.isHeld = false → s.spm.permit = .spacing →
    let u := s.reach (s.spm.spacingStart + s.spacing * 1000)
    (s.ranked = [] →
      Gives .spacingTimerExpiry s fun t =>
        t.spm = { s.spm with permit := .opened } ∧ OnlyIn [.spm] u t) ∧
    (∀ r rest, s.ranked = r :: rest →
      Gives .spacingTimerExpiry s fun t =>
        t.spm.permit = .spacing ∧ t.spm.spacingStart = u.uptime ∧ t.spm.lastGrant = some (r.who, u.uptime) ∧
        t.spm.lastOutside = s.spm.lastOutside ∧ t.uptime = u.uptime ∧
        OnlyIn [.uptime, .dsq, .spm, .ppr, .scr, .fbl, .alm, .src] s t)) ∧
  (∀ (s : State), s.ranked.Pairwise (fun a b => s.rankClass a ≤ s.rankClass b) ∧
    (∀ c < 2,
      ((s.ranked.filter fun r => s.rankClass r == c).map (·.who)).Sublist (s.dsq.queue.map Requester.pump)) ∧
    s.ranked.Pairwise (fun a b => ∀ x y, a.who = .screen x → b.who = .screen y →
      a.arrival < b.arrival ∨ (a.arrival = b.arrival ∧ x = .n1 ∧ y = .n2)) ∧
    (∀ p r, s.requestOf (.pump p) = some r → p ∈ s.dsq.queue → r ∈ s.ranked) ∧
    ∀ sc r, s.requestOf (.screen sc) = some r → r ∈ s.ranked)

/-- RUN_FB_CHANGE in each run state, and the fault timers that feedback and current start and stop (R24, R60, R65, R66, R67,
R68, R69, R70, R71, R81, R82). -/
def Obligations.RunFeedback : Prop :=
  ∀ (s : State) (p : Pump), s.isHeld = false →
    let r := s.ppr.get p
    let m := s.img.prot
    let pin (a : Bool) : State := { s with inputs := { s.inputs with runFb := s.inputs.runFb.set p a } }
    (s.pumpIn p = true → s.runFb p = false → s.runCmd p = false →
      Gives (.runFbChange p true) s fun t =>
        t.spm.permit = .spacing ∧ t.spm.spacingStart = s.uptime ∧ t.spm.lastOutside = some (p, s.uptime) ∧
        t.spm.lastGrant = s.spm.lastGrant ∧
        (s.inAuto p = true → (t.ppr.get p).watch = .uncommanded (some s.uptime)) ∧
        t.inputs = (pin true).inputs ∧ OnlyIn [.inputs, .dsq, .spm, .ppr, .scr, .fbl, .alm, .src] s t) ∧
    (s.pumpIn p = true → s.runFb p = false → s.runState p = .starting →
      Gives (.runFbChange p true) s fun t => t = ((pin true).startConfirm p).reform ∧
        ((pin true).startConfirm p).runState p = .running ∧
        (((pin true).startConfirm p).ppr.get p).runningSince = some s.uptime) ∧
    (s.pumpIn p = true → s.runFb p = false → s.runState p = .running →
      Gives (.runFbChange p true) s fun t =>
        let u := (pin true).judgeFaults p
        t = u.reform ∧ (u.ppr.get p).runningSince = r.runningSince ∧
        (r.protection.watched = true → (u.ppr.get p).faults.runLost = none)) ∧
    (s.pumpIn p = true → s.runFb p = true →
      Gives (.runFbChange p false) s fun t =>
        (s.runCmd p = true →
          let u := (pin false).judgeFaults p
          t = u.reform ∧
          (s.runState p = .running → r.protection.watched = true →
            (u.ppr.get p).faults.runLost = some (r.faults.runLost.getD s.uptime) ∧
            (u.ppr.get p).protection = .alert)) ∧
        (s.runCmd p = false → (t.ppr.get p).watch = .idle ∧ t.condition (.pump p .runMismatch) = false)) ∧
    (s.pumpIn p = false → ∀ a, s.runFb p = !a →
      Gives (.runFbChange p a) s fun t => t.inputs = (pin a).inputs ∧ OnlyIn [.inputs] s t) ∧
    (let u := s.judgeFaults p
      let q := u.ppr.get p
      let follows (c : FaultCond) (present : Bool) : Prop :=
        q.faults.get c = if present then some ((r.faults.get c).getD s.uptime) else none
      (s.pumpIn p = true → r.protection.watched = true →
        follows .failToStart (s.runState p == .starting && !s.runFb p) ∧
        follows .runLost (s.runState p == .running && !s.runFb p) ∧
        follows .overtemp (s.inputs.overtemp.get p) ∧
        follows .overcurrent
          (s.runState p == .running && (s.current p).any fun v => decide (m.ocLimit.get p < v)) ∧
        follows .undercurrent
          (s.runState p == .running && r.armed && (s.current p).any fun v => decide (v < m.ucLimit.get p)) ∧
        q.protection = (if q.faults = .allStopped then .healthy else .alert) ∧
        q = { r with faults := q.faults, protection := q.protection }) ∧
      ((s.pumpIn p = false ∨ r.protection.watched = false) → u = s) ∧
      OthersKept p s.ppr u.ppr ∧ OnlyIn [.ppr, .alm] s u) ∧
    (s.pumpIn p = true → r.protection.watched = true → s.runState p = .running →
      ∀ counts, Gives (.sample (.cur p) counts) s fun t =>
        t.level (.cur p) ≠ s.level (.cur p) →
          let q := t.ppr.get p
          (∀ v, t.level (.cur p) = some v →
            q.faults.overcurrent =
              (if m.ocLimit.get p < v then some (r.faults.overcurrent.getD s.uptime) else none) ∧
            q.faults.undercurrent =
              (if r.armed = true ∧ v < m.ucLimit.get p then some (r.faults.undercurrent.getD s.uptime) else none)) ∧
          (t.level (.cur p) = none → q.faults.overcurrent = none ∧ q.faults.undercurrent = none) ∧
          q.protection = (if q.faults = .allStopped then .healthy else .alert) ∧
          OthersKept p s.ppr t.ppr ∧ OnlyIn [.lvu, .ppr, .alm] s t)

/-- HOA_CHANGE moves the mode and the queue membership (R23, R24, R64, R81, R82, R85). -/
def Obligations.HoaChange : Prop :=
  ∀ (s : State) (p : Pump) (c : HoaContact) (a : Bool), s.isHeld = false → s.inputs.getHoa p c = !a →
    Gives (.hoaChange p c a) s fun t =>
      t.inputs = s.inputs.setHoa p c a ∧
      (s.pumpIn p = false → OnlyIn [.inputs] s t) ∧
      (s.pumpIn p = true →
        t.condition (.pump p .switchFault) = decide (t.mode p = some .switchFault) ∧
        (t.inAuto p = false →
          t.dsq.queue.contains p = false ∧ (t.ppr.get p).watch = .idle ∧
          (s.dsq.queue.contains p = true → t.runState p = .stopped ∧ (t.dsq.pumps.get p).override = none)) ∧
        (t.inAuto p = true → (s.ppr.get p).protection.watched = true → t.dsq.queue.contains p = true) ∧
        (s.inAuto p = false → t.inAuto p = true → s.runFb p = true → s.runCmd p = false →
          t.spm.permit = s.spm.permit →
          (t.ppr.get p).watch = .uncommanded (some s.uptime) ∧ t.condition (.pump p .runMismatch) = false)) ∧
      OnlyIn [.inputs, .dsq, .spm, .ppr, .scr, .fbl, .alm, .src] s t

/-- A fault timer that expires trips its pump, and the last trip locks it out (R66, R73, R77). The uptime that an expiry
taken early reaches, and that nothing happens where the timer does not run, are the model's choices (log entry 2). -/
def Obligations.TripAndLockout : Prop :=
  ∀ (s : State) (p : Pump) (c : FaultCond) (t0 : Nat), s.isHeld = false →
    (s.ppr.get p).faults.get c = some t0 → (s.ppr.get p).protection.watched = true →
    let u := s.reach (t0 + s.img.faultSeconds c * 1000)
    let n := (s.ppr.get p).trips + 1
    Gives (.faultTimerExpiry p c) s fun t =>
      let r := t.ppr.get p
      r.trips = n ∧ r.faults = .allStopped ∧ r.lastTrip = some (c, u.uptime) ∧ r.awaitingCool = false ∧
      t.runCmd p = false ∧ t.dsq.queue.contains p = false ∧
      (n < s.img.prot.lockoutTrips →
        r.protection = .tripped ∧ r.rest = some u.uptime ∧ r.forgive = some u.uptime ∧
        t.condition (.pump p .trip) = true ∧ t.newestRecord = some (.pumpTrip p c n)) ∧
      (s.img.prot.lockoutTrips ≤ n →
        r.protection = .lockedOut ∧ r.rest = none ∧ r.forgive = none ∧
        t.condition (.pump p .trip) = false ∧ t.condition (.pump p .lockout) = true ∧
        t.newestRecord = some (.pumpLockout p) ∧
        (LogOk s.src → s.src.newest + 2 ≤ max32 →
          ∃ before, t.src.log.map (·.body) = before ++ [.pumpTrip p c n, .pumpLockout p])) ∧
      OnlyIn [.uptime, .dsq, .spm, .ppr, .scr, .fbl, .alm, .src] s t

/-- OVERTEMP_CHANGE starts, stops or trips (R66, R69, R75). That the trip of a timer of 0 s belongs to the event that starts
it is the model's choice (log entry 23). -/
def Obligations.OvertempChange : Prop :=
  ∀ (s : State) (p : Pump), s.isHeld = false →
    let r := s.ppr.get p
    let pins (a : Bool) : Inputs := { s.inputs with overtemp := s.inputs.overtemp.set p a }
    (s.pumpIn p = true → r.protection.watched = true → s.inputs.overtemp.get p = false → r.faults.overtemp = none →
      (s.img.prot.overtempS ≠ 0 →
        Gives (.overtempChange p true) s fun t =>
          (t.ppr.get p).faults.overtemp = some s.uptime ∧ (t.ppr.get p).protection = .alert ∧
          t.inputs = pins true ∧ OthersKept p s.ppr t.ppr ∧ OnlyIn [.inputs, .ppr, .alm] s t) ∧
      (s.img.prot.overtempS = 0 →
        Gives (.overtempChange p true) s fun t =>
          (t.ppr.get p).trips = r.trips + 1 ∧ (t.ppr.get p).protection.watched = false ∧ t.runCmd p = false ∧
          (t.ppr.get p).lastTrip = some (.overtemp, s.uptime) ∧ t.inputs = pins true)) ∧
    (s.pumpIn p = true → r.protection.watched = true → s.inputs.overtemp.get p = true →
      Gives (.overtempChange p false) s fun t =>
        (t.ppr.get p).faults.overtemp = none ∧ (t.ppr.get p).trips = r.trips ∧ t.inputs = pins false ∧
        OthersKept p s.ppr t.ppr ∧ OnlyIn [.inputs, .ppr, .alm] s t) ∧
    (s.pumpIn p = true → r.protection = .tripped → r.awaitingCool = true → s.inputs.overtemp.get p = true →
      Gives (.overtempChange p false) s fun t =>
        (t.ppr.get p).protection.watched = true ∧ (t.ppr.get p).awaitingCool = false ∧
        t.condition (.pump p .trip) = false ∧ (s.inAuto p = true → t.dsq.queue.contains p = true)) ∧
    ((r.protection.watched = false ∧ r.awaitingCool = false) ∨ s.pumpIn p = false →
      ∀ a, s.inputs.overtemp.get p = !a →
        Gives (.overtempChange p a) s fun t => t.inputs = pins a ∧
          (s.pumpIn p = false ∨ r.faults.overtemp = none → OnlyIn [.inputs] s t))

/-- The other timers of Pump Protection (R71, R75, R76, R81, R82). The uptime that an expiry taken early reaches, and that
nothing happens where the timer does not run, are the model's choices (log entry 2). -/
def Obligations.ProtectionTimers : Prop :=
  ∀ (s : State) (p : Pump) (t0 : Nat), s.isHeld = false →
    let r := s.ppr.get p
    let m := s.img.prot
    (r.runningSince = some t0 →
      let u := s.reach (t0 + 10000)
      Gives (.undercurrentArm p) s fun t =>
        (t.ppr.get p).armed = true ∧
        (s.pumpIn p = true → r.protection.watched = true →
          (t.ppr.get p).faults.undercurrent =
            (match s.current p with
              | some v =>
                if s.runState p = .running ∧ v < m.ucLimit.get p then some (r.faults.undercurrent.getD u.uptime) else none
              | none => none)) ∧
        OthersKept p s.ppr t.ppr ∧ OnlyIn [.ppr, .alm] u t) ∧
    (r.rest = some t0 →
      let u := s.reach (t0 + m.tripRestS * 1000)
      (s.inputs.overtemp.get p = true →
        Gives (.restTimerExpiry p) s fun t =>
          t.ppr.get p = { r with rest := none, awaitingCool := true } ∧ OthersKept p s.ppr t.ppr ∧ OnlyIn [.ppr] u t) ∧
      (s.inputs.overtemp.get p = false → s.pumpIn p = true →
        Gives (.restTimerExpiry p) s fun t =>
          (t.ppr.get p).protection.watched = true ∧ (t.ppr.get p).rest = none ∧ (t.ppr.get p).trips = r.trips ∧
          t.condition (.pump p .trip) = false ∧ (s.inAuto p = true → t.dsq.queue.contains p = true) ∧
          OnlyIn [.uptime, .dsq, .spm, .ppr, .scr, .fbl, .alm, .src] s t)) ∧
    (r.forgive = some t0 → r.trips ≠ 0 → r.protection ≠ .lockedOut →
      let u := s.reach (t0 + m.tripForgiveS * 1000)
      Gives (.forgiveTimerExpiry p) s fun t =>
        t.ppr.get p =
          { r with trips := r.trips - 1, forgive := if r.trips = 1 then none else some u.uptime } ∧
        OthersKept p s.ppr t.ppr ∧ OnlyIn [.ppr, .alm] u t) ∧
    (r.watch = .stopWatch (some t0) →
      Gives (.stopWatchExpiry p) s fun t =>
        t.ppr.get p = { r with watch := .stopWatch none } ∧ t.condition (.pump p .runMismatch) = true ∧
        OthersKept p s.ppr t.ppr ∧ OnlyIn [.ppr, .alm] (s.reach (t0 + m.stopConfirmS * 1000)) t) ∧
    (r.watch = .uncommanded (some t0) →
      Gives (.uncommandedWatchExpiry p) s fun t =>
        t.ppr.get p = { r with watch := .uncommanded none } ∧ t.condition (.pump p .runMismatch) = true ∧
        OthersKept p s.ppr t.ppr ∧ OnlyIn [.ppr, .alm] (s.reach (t0 + 5000)) t)

/-- The seal timer and the SEAL_LEAK condition (R80). The uptime that an expiry taken early reaches, and that nothing happens
where the timer does not run, are the model's choices (log entry 2). -/
def Obligations.SealLeak : Prop :=
  ∀ (s : State) (p : Pump) (t0 : Nat), s.isHeld = false →
    let r := s.ppr.get p
    (s.pumpIn p = true → s.inputs.sealLeak.get p = false →
      Gives (.sealLeakChange p true) s fun t =>
        t.ppr.get p = { r with sealTimer := some s.uptime } ∧ OthersKept p s.ppr t.ppr ∧
        t.inputs = { s.inputs with sealLeak := s.inputs.sealLeak.set p true } ∧ OnlyIn [.inputs, .ppr] s t) ∧
    (s.pumpIn p = true → s.inputs.sealLeak.get p = true →
      Gives (.sealLeakChange p false) s fun t =>
        t.ppr.get p = { r with sealTimer := none, sealLeak := false } ∧ t.condition (.pump p .sealLeak) = false ∧
        OthersKept p s.ppr t.ppr ∧ t.inputs = { s.inputs with sealLeak := s.inputs.sealLeak.set p false } ∧
        OnlyIn [.inputs, .ppr, .alm] s t) ∧
    (r.sealTimer = some t0 →
      Gives (.sealTimerExpiry p) s fun t =>
        t.ppr.get p = { r with sealTimer := none, sealLeak := true } ∧ t.condition (.pump p .sealLeak) = true ∧
        OthersKept p s.ppr t.ppr ∧ OnlyIn [.ppr, .alm] (s.reach (t0 + 5000)) t)

/-- A grant starts its requester, at the expiry of the spacing timer or at a request's arrival in OPEN (R28, R32, R49, R55,
R57, R58, R61, R67, R81, R93, R98). The uptime that an expiry taken early reaches, and that nothing happens where the timer
does not run, are the model's choices (log entry 2); that one sample takes the pumps it calls before its rakes follows the
order of R57 (log entry 3). -/
def Obligations.GrantStartsItsRequester : Prop :=
  (∀ (s : State) (p : Pump),
    let t := s.grantPump p
    let old := s.dsq.pumps.get p
    let new := t.dsq.pumps.get p
    let m := s.img.duty
    new.run = (if s.runFb p then .running else .starting) ∧ new.startTime = some s.uptime ∧
    (old.history.length < 16 → new.history = old.history ++ [s.uptime / 1000]) ∧
    (16 ≤ old.history.length → new.history = old.history.tail ++ [s.uptime / 1000]) ∧
    new.minRun = (if m.minRunS = 0 then none else some s.uptime) ∧ new.minOff = none ∧ new.override = old.override ∧
    (s.img.drive p = true →
      new.speedRef = m.minSpeed ∧ new.pendingDuty = (m.minSpeed * 255 + 50) / 100 ∧ new.rampNext = some (s.uptime + 1000)) ∧
    (s.img.drive p = false →
      new.speedRef = old.speedRef ∧ new.pendingDuty = old.pendingDuty ∧ new.rampNext = old.rampNext) ∧
    new.dutyInForce = old.dutyInForce ∧ new.refInForce = old.refInForce ∧
    OthersKept p s.dsq.pumps t.dsq.pumps ∧ t.dsq = { s.dsq with pumps := t.dsq.pumps } ∧
    (t.ppr.get p).watch = .idle ∧ t.condition (.pump p .runMismatch) = false ∧
    (s.runFb p = true → (t.ppr.get p).runningSince = some s.uptime) ∧
    (s.runFb p = false → s.pumpIn p = true → (s.ppr.get p).protection.watched = true →
      (t.ppr.get p).faults.failToStart = some ((s.ppr.get p).faults.failToStart.getD s.uptime)) ∧
    OthersKept p s.ppr t.ppr ∧
    t.src.acc =
      { s.src.acc with pumps := s.src.acc.pumps.modify p fun d => { d with starts := min (d.starts + 1) max32 } } ∧
    t.src = { s.src with acc := t.src.acc } ∧ OnlyIn [.dsq, .ppr, .fbl, .alm, .src] s t) ∧
  (∀ (s : State) (sc : Screen) (r : ScreenRec), s.scr.screens.get sc = some r →
    let t := s.grantScreen sc
    t.scr.screens.get sc = some (r.granted (s.inputs.rakeHome.get sc) (s.inputs.rakeTorque.get sc) s.uptime) ∧
    t.scr.screens.get sc.other = s.scr.screens.get sc.other ∧ t.scr.blinded = s.scr.blinded ∧
    OnlyIn [.scr, .alm] s t) ∧
  (∀ (s : State) (who : Requester),
    (s.recordGrant who).spm =
      { permit := .spacing, spacingStart := s.uptime, waiting := s.spm.waiting.filter (·.who != who),
        lastGrant := some (who, s.uptime), lastOutside := s.spm.lastOutside } ∧
    OnlyIn [.spm] s (s.recordGrant who)) ∧
  (∀ (s : State) (r : Request) (rest : List Request), s.isHeld = false → s.spm.permit = .spacing →
    s.ranked = r :: rest →
    Gives .spacingTimerExpiry s fun t =>
      t = (((s.reach (s.spm.spacingStart + s.spacing * 1000)).recordGrant r.who).grantTo r.who).reform) ∧
  (∀ (s : State) (ch : Channel) (counts : BitVec 12), s.isHeld = false → s.spm.permit = .opened → s.spm.waiting = [] →
    Gives (.sample ch counts) s fun t =>
      (t.spm.permit = .opened → t.spm.lastGrant = s.spm.lastGrant) ∧
      ∀ sc u, t.spm.lastGrant = some (.screen sc, u) → t.spm.lastGrant ≠ s.spm.lastGrant →
        u = s.uptime ∧ t.spm.waiting = [])

/-- RAKE_REQUEST in every state of its screen (R55, R61, R88, R90, R92, R93, R96, R97, R98). -/
def Obligations.RakeRequest : Prop :=
  ∀ (s : State) (l : Link) (sc : Screen), s.taking l →
    let c : Instr := .rakeRequest l [BitVec.ofNat 8 sc.toNat]
    (∀ b : Byte, b.toNat = 0 ∨ 2 < b.toNat →
      Gives (.rakeRequest l [b]) s fun t => Answered s t l (refusal 0x21 .range)) ∧
    (s.rakeOf sc = none ∨ s.rakeOf sc = some .jammed ∨ s.rakeOf sc = some .failed →
      Gives c s fun t => Answered s t l (refusal 0x21 .state)) ∧
    (s.rakeOf sc = some .waiting ∨ s.rakeOf sc = some .forward ∨ s.rakeOf sc = some .backoff →
      Gives c s fun t =>
        t.scr = (s.modScreen sc fun r => { r with again := true }).scr ∧ DoneOn s t l 0x21 ∧ OnlyIn [.scr, .lnk] s t) ∧
    (∀ r, s.scr.screens.get sc = some r → r.rake = .idle →
      (s.inputs.rakeThermal.get sc = false → s.spm.permit = .spacing →
        Gives c s fun t =>
          t.scr = (s.modScreen sc fun r => { r with rake := .waiting }).scr ∧
          t.spm = { s.spm with waiting := s.spm.waiting ++ [⟨.screen sc, s.uptime⟩] } ∧
          DoneOn s t l 0x21 ∧ OnlyIn [.scr, .spm, .alm, .lnk] s t) ∧
      (s.inputs.rakeThermal.get sc = false → s.spm.permit = .opened →
        Gives c s fun t =>
          t.scr.screens.get sc = some (r.granted (s.inputs.rakeHome.get sc) (s.inputs.rakeTorque.get sc) s.uptime) ∧
          t.scr.screens.get sc.other = s.scr.screens.get sc.other ∧ t.scr.blinded = s.scr.blinded ∧
          t.spm = (s.recordGrant (.screen sc)).spm ∧ DoneOn s t l 0x21 ∧ OnlyIn [.scr, .spm, .alm, .lnk] s t) ∧
      (s.inputs.rakeThermal.get sc = true →
        Gives c s fun t =>
          t.scr.screens.get sc = some r.failedHot ∧ t.scr.blinded = s.scr.blinded ∧
          t.condition (.rakeFailed sc) = true ∧ t.requestOf (.screen sc) = none ∧
          (s.withdraw (.screen sc)).JudgedAfter t sc ∧
          DoneOn s t l 0x21 ∧ OnlyIn [.scr, .spm, .alm, .lnk] s t))

/-- RAKE_RESET takes a screen out of JAMMED or FAILED, in every form (R55, R61, R90, R93, R96, R97, R98, R100). -/
def Obligations.RakeReset : Prop :=
  ∀ (s : State) (l : Link) (sc : Screen), s.taking l → s.holds l = true →
    let c : Instr := .rakeReset l [BitVec.ofNat 8 sc.toNat]
    let answered (t : State) : Prop := DoneOn s t l 0x36 ∧ OnlyIn [.scr, .spm, .alm, .lnk] s t
    (∀ b : Byte, b.toNat = 0 ∨ 2 < b.toNat →
      Gives (.rakeReset l [b]) s fun t => Answered s t l (refusal 0x36 .range)) ∧
    (s.rakeOf sc ≠ some .jammed → s.rakeOf sc ≠ some .failed →
      Gives c s fun t => Answered s t l (refusal 0x36 .state)) ∧
    (∀ r, s.scr.screens.get sc = some r → r.rake = .jammed ∨ r.rake = .failed →
      let other := s.scr.screens.get sc.other
      let cleared : ScreenRec :=
        { r with
          rake := .idle, retries := 0, again := false, cause := none
          interval := if s.img.screen.rakeIntervalMin = 0 then none else some s.uptime }
      (s.diffHigh = false →
        Gives c s fun t =>
          t.scr.screens.get sc = some cleared ∧ t.scr.screens.get sc.other = other ∧ t.spm = s.spm ∧
          t.condition (.rakeJam sc) = false ∧ t.condition (.rakeFailed sc) = false ∧ answered t) ∧
      (s.diffHigh = true → s.isIdle sc.other = false → s.inputs.rakeThermal.get sc = false →
        Gives c s fun t =>
          (s.spm.permit = .spacing →
            t.scr.screens.get sc = some { cleared with rake := .waiting } ∧
            t.spm = { s.spm with waiting := s.spm.waiting ++ [⟨.screen sc, s.uptime⟩] }) ∧
          (s.spm.permit = .opened →
            t.scr.screens.get sc =
              some (cleared.granted (s.inputs.rakeHome.get sc) (s.inputs.rakeTorque.get sc) s.uptime) ∧
            t.spm = (s.recordGrant (.screen sc)).spm) ∧
          t.scr.screens.get sc.other = other ∧
          t.condition (.rakeJam sc) = false ∧ t.condition (.rakeFailed sc) = false ∧ answered t) ∧
      (s.diffHigh = true → s.isIdle sc.other = false → s.inputs.rakeThermal.get sc = true →
        Gives c s fun t =>
          t.scr.screens.get sc = some cleared.failedHot ∧ t.scr.screens.get sc.other = other ∧
          t.condition (.rakeJam sc) = false ∧ t.condition (.rakeFailed sc) = true ∧
          t.requestOf (.screen sc) = none ∧ answered t) ∧
      (∀ q, other = some q → q.rake = .idle → s.diffHigh = true →
        Gives c s fun t =>
          let first := if firstInTurn sc r.lastEnd q.lastEnd then sc else sc.other
          let hot (x : Screen) : Bool := s.inputs.rakeThermal.get x
          let asked (x : Screen) : RakeState :=
            if s.spm.permit = .spacing then .waiting else if s.inputs.rakeTorque.get x then .backoff else .forward
          t.rakeOf first = some (if hot first then .failed else asked first) ∧
          t.rakeOf first.other =
            some (if hot first then (if hot first.other then .failed else asked first.other) else .idle) ∧
          (t.rakeOf sc = some .idle → t.scr.screens.get sc = some cleared) ∧
          (t.rakeOf sc = some .waiting → t.scr.screens.get sc = some { cleared with rake := .waiting }) ∧
          t.condition (.rakeJam sc) = false ∧ answered t))

/-- Jams and failures of a rake (R55, R61, R90, R93, R94, R96, R97, R98). The uptime that an expiry taken early reaches, and
that nothing happens where the timer does not run, are the model's choices (log entry 2). -/
def Obligations.RakeFaults : Prop :=
  ∀ (s : State) (sc : Screen) (r : ScreenRec) (t0 : Nat), s.isHeld = false → s.scr.screens.get sc = some r →
    let torque (a : Bool) : Inputs := { s.inputs with rakeTorque := s.inputs.rakeTorque.set sc a }
    let thermal (a : Bool) : Inputs := { s.inputs with rakeThermal := s.inputs.rakeThermal.set sc a }
    let failed (cause : RakeCause) (t : State) : Prop :=
      (∃ q, t.scr.screens.get sc = some q ∧ q.rake = .failed ∧ q.cause = some cause ∧ q.homeLeave = none ∧
        q.cycle = none ∧ q.reverse = none ∧ q.retries = r.retries ∧ q.again = r.again ∧ q.interval = r.interval) ∧
      t.condition (.rakeFailed sc) = true ∧ t.requestOf (.screen sc) = none
    let judged (u t : State) : Prop := (u.withdraw (.screen sc)).JudgedAfter t sc
    (s.inputs.rakeTorque.get sc = false → r.rake = .forward →
      Gives (.rakeTorqueChange sc true) s fun t =>
        t.scr.screens.get sc =
          some { r with
            rake := .backoff, homeLeave := none, cycle := none, reverse := some s.uptime, retries := r.retries + 1 } ∧
        t.scr.screens.get sc.other = s.scr.screens.get sc.other ∧ t.inputs = torque true ∧
        OnlyIn [.inputs, .scr, .alm] s t) ∧
    (∀ a, s.inputs.rakeTorque.get sc = !a → a = false ∨ r.rake ≠ .forward →
      Gives (.rakeTorqueChange sc a) s fun t => t.inputs = torque a ∧ OnlyIn [.inputs] s t) ∧
    (r.homeLeave = some t0 →
      let u := s.reach (t0 + s.img.screen.homeLeaveS * 1000)
      Gives (.homeLeaveTimerExpiry sc) s fun t =>
        failed .homeNotLeft t ∧ judged u t ∧ OnlyIn [.scr, .spm, .alm] u t) ∧
    (r.cycle = some t0 →
      let u := s.reach (t0 + s.img.screen.cycleMaxS * 1000)
      Gives (.cycleTimerExpiry sc) s fun t => failed .cycleTime t ∧ judged u t ∧ OnlyIn [.scr, .spm, .alm] u t) ∧
    (s.inputs.rakeThermal.get sc = false → r.rake = .waiting ∨ r.rake = .forward ∨ r.rake = .backoff →
      Gives (.rakeThermalChange sc true) s fun t =>
        failed .thermal t ∧ judged { s with inputs := thermal true } t ∧ t.inputs = thermal true ∧
        OnlyIn [.inputs, .scr, .spm, .alm] s t) ∧
    (∀ a, s.inputs.rakeThermal.get sc = !a →
      a = false ∨ r.rake = .idle ∨ r.rake = .jammed ∨ r.rake = .failed →
      Gives (.rakeThermalChange sc a) s fun t => t.inputs = thermal a ∧ OnlyIn [.inputs] s t)

/-- RAKE_HOME in a rake cycle, with the follow-on trigger in each of its forms (R55, R61, R88, R90, R93, R94, R95, R96, R97,
R98). -/
def Obligations.RakeHome : Prop :=
  ∀ (s : State) (sc : Screen) (r : ScreenRec), s.isHeld = false → s.scr.screens.get sc = some r →
    let home (a : Bool) : Inputs := { s.inputs with rakeHome := s.inputs.rakeHome.set sc a }
    let interval : Timer := if s.img.screen.rakeIntervalMin = 0 then none else some s.uptime
    (s.inputs.rakeHome.get sc = true → r.rake = .forward →
      Gives (.rakeHomeChange sc false) s fun t =>
        t.scr.screens.get sc = some { r with leftHome := true, homeLeave := none } ∧
        t.scr.screens.get sc.other = s.scr.screens.get sc.other ∧ t.inputs = home false ∧
        OnlyIn [.inputs, .scr] s t) ∧
    (s.inputs.rakeHome.get sc = false → r.rake = .forward → r.leftHome = true →
      r.again = false → s.diffHigh = false → s.isBlinded = false →
      Gives (.rakeHomeChange sc true) s fun t =>
        t.scr.screens.get sc =
          some { r with
            rake := .idle, homeLeave := none, cycle := none, retries := 0
            lastEnd := some s.uptime, interval := interval } ∧
        t.scr.screens.get sc.other = s.scr.screens.get sc.other ∧
        t.src.acc = { s.src.acc with rakeCycles := s.src.acc.rakeCycles.modify sc fun n => min (n + 1) max32 } ∧
        t.src.log = s.src.log ∧ t.inputs = home true ∧ OnlyIn [.inputs, .scr, .alm, .src] s t) ∧
    (s.inputs.rakeHome.get sc = false → r.rake = .forward → r.leftHome = true →
      r.again = true ∨ s.diffHigh = true ∨ s.isBlinded = true →
      let done : ScreenRec :=
        { r with
          rake := .idle, homeLeave := none, cycle := none, retries := 0, again := false
          lastEnd := some s.uptime, interval := interval }
      let x := if s.inOrder sc.other then sc.other else sc
      let hot (y : Screen) : Bool := s.inputs.rakeThermal.get y
      let asked (y : Screen) (q : ScreenRec) : ScreenRec :=
        match s.spm.permit with
        | .spacing => { q with rake := .waiting }
        | .opened => q.granted ((home true).rakeHome.get y) (s.inputs.rakeTorque.get y) s.uptime
      let permitted (y : Screen) : StartPermit :=
        match s.spm.permit with
        | .spacing => { s.spm with waiting := s.spm.waiting ++ [⟨.screen y, s.uptime⟩] }
        | .opened => (s.recordGrant (.screen y)).spm
      ∀ q, (if x = sc then some done else s.scr.screens.get x) = some q →
        Gives (.rakeHomeChange sc true) s fun t =>
          (q.rake = .idle → hot x = false →
            t.scr.screens.get x = some (asked x q) ∧ t.spm = permitted x ∧
            (x ≠ sc → t.scr.screens.get sc = some done)) ∧
          (q.rake ≠ .idle →
            t.scr.screens.get x = some { q with again := true } ∧ t.scr.screens.get sc = some done ∧
            t.spm = s.spm) ∧
          (q.rake = .idle → hot x = true →
            t.scr.screens.get x = some q.failedHot ∧ t.condition (.rakeFailed x) = true ∧
            t.requestOf (.screen x) = none ∧
            (x ≠ sc → s.diffHigh = false → t.scr.screens.get sc = some done) ∧
            (x ≠ sc → s.diffHigh = true →
              t.scr.screens.get sc = some (if hot sc then done.failedHot else asked sc done))) ∧
          (x = sc → t.scr.screens.get sc.other = s.scr.screens.get sc.other) ∧
          t.src.acc = { s.src.acc with rakeCycles := s.src.acc.rakeCycles.modify sc fun n => min (n + 1) max32 } ∧
          t.src.log = s.src.log ∧ t.inputs = home true ∧ OnlyIn [.inputs, .scr, .spm, .alm, .src] s t) ∧
    (s.inputs.rakeHome.get sc = false → r.rake ≠ .forward ∨ r.leftHome = false →
      Gives (.rakeHomeChange sc true) s fun t => t.inputs = home true ∧ OnlyIn [.inputs] s t) ∧
    (s.inputs.rakeHome.get sc = true → r.rake ≠ .forward →
      Gives (.rakeHomeChange sc false) s fun t => t.inputs = home false ∧ OnlyIn [.inputs] s t)

/-- The reverse timer and the interval timer of a screen (R55, R61, R88, R90, R91, R93, R96, R97, R98, R99). The uptime that
an expiry taken early reaches, and that nothing happens where the timer does not run, are the model's choices (log entry 2).
-/
def Obligations.RakeTimers : Prop :=
  ∀ (s : State) (sc : Screen) (r : ScreenRec) (t0 : Nat), s.isHeld = false → s.scr.screens.get sc = some r →
    (r.reverse = some t0 → r.rake = .backoff →
      let u := s.reach (t0 + s.img.screen.reverseS * 1000)
      (r.retries ≤ s.img.screen.jamRetries → s.spm.permit = .spacing →
        Gives (.reverseTimerExpiry sc) s fun t =>
          t.scr.screens.get sc = some { r with rake := .waiting, reverse := none } ∧
          t.spm.waiting = s.spm.waiting ++ [⟨.screen sc, u.uptime⟩] ∧ OnlyIn [.scr, .spm, .alm] u t) ∧
      (r.retries ≤ s.img.screen.jamRetries → s.spm.permit = .opened →
        Gives (.reverseTimerExpiry sc) s fun t =>
          t.rakeOf sc = some (if s.inputs.rakeTorque.get sc then .backoff else .forward) ∧
          t.spm.lastGrant = some (.screen sc, u.uptime) ∧ OnlyIn [.scr, .spm, .alm] u t) ∧
      (s.img.screen.jamRetries < r.retries →
        Gives (.reverseTimerExpiry sc) s fun t =>
          t.scr.screens.get sc = some { r with rake := .jammed, reverse := none } ∧
          t.condition (.rakeJam sc) = true ∧ t.newestRecord = some (.screenJam sc (r.retries - 1)) ∧
          u.JudgedAfter t sc ∧ OnlyIn [.uptime, .scr, .spm, .alm, .src] s t)) ∧
    (r.interval = some t0 →
      let u := s.reach (t0 + s.img.screen.rakeIntervalMin * 60 * 1000)
      let stopped : ScreenRec := { r with interval := none }
      (r.rake = .idle → s.inputs.rakeThermal.get sc = false → s.spm.permit = .spacing →
        Gives (.intervalTimerExpiry sc) s fun t =>
          t.scr.screens.get sc = some { r with rake := .waiting, interval := none } ∧
          t.spm.waiting = s.spm.waiting ++ [⟨.screen sc, u.uptime⟩] ∧ OnlyIn [.scr, .spm, .alm] u t) ∧
      (r.rake = .idle → s.inputs.rakeThermal.get sc = false → s.spm.permit = .opened →
        Gives (.intervalTimerExpiry sc) s fun t =>
          t.scr.screens.get sc =
            some (stopped.granted (s.inputs.rakeHome.get sc) (s.inputs.rakeTorque.get sc) u.uptime) ∧
          t.scr.screens.get sc.other = s.scr.screens.get sc.other ∧ t.spm = (u.recordGrant (.screen sc)).spm ∧
          OnlyIn [.scr, .spm, .alm] u t) ∧
      (r.rake = .idle → s.inputs.rakeThermal.get sc = true →
        Gives (.intervalTimerExpiry sc) s fun t =>
          t.scr.screens.get sc = some stopped.failedHot ∧ t.condition (.rakeFailed sc) = true ∧
          t.requestOf (.screen sc) = none ∧
          (s.diffHigh = false ∨ s.isIdle sc.other = false →
            t.scr.screens.get sc.other = s.scr.screens.get sc.other) ∧
          (∀ q, s.scr.screens.get sc.other = some q → q.rake = .idle → s.diffHigh = true →
            t.scr.screens.get sc.other =
              some (if s.inputs.rakeThermal.get sc.other then q.failedHot
                else match s.spm.permit with
                  | .spacing => { q with rake := .waiting }
                  | .opened =>
                    q.granted (s.inputs.rakeHome.get sc.other) (s.inputs.rakeTorque.get sc.other) u.uptime)) ∧
          OnlyIn [.scr, .spm, .alm] u t) ∧
      (r.rake = .waiting ∨ r.rake = .forward ∨ r.rake = .backoff →
        Gives (.intervalTimerExpiry sc) s fun t =>
          t.scr.screens.get sc = some { r with again := true, interval := none } ∧ OnlyIn [.scr] u t) ∧
      (r.rake = .jammed ∨ r.rake = .failed →
        Gives (.intervalTimerExpiry sc) s fun t =>
          t.scr.screens.get sc = some { r with interval := none } ∧ OnlyIn [.scr] u t))

/-- BLINDING_TIMER_EXPIRY and ON_GENERATOR_CHANGE move what limits the run set (R35, R38, R58, R59, R60, R61, R101, R102,
R192). The uptime that an expiry taken early reaches, and that nothing happens where the timer does not run, are the model's
choices (log entry 2), and so are the order of the effects of ON_GENERATOR and the return from OPEN to SPACING (log entries
26 and 35). -/
def Obligations.BlindingAndGenerator : Prop :=
  (∀ (s : State) (elapsed since : Nat), s.isHeld = false → s.scr.blinded = .pending elapsed (some since) →
    Gives .blindingTimerExpiry s fun t =>
      t = ((s.reach (since + (s.img.screen.blindS * 1000 - elapsed))).setBlinded .blinded).reform ∧
      t.scr.blinded = .blinded ∧ t.condition .screenBlinded = true ∧
      t.uptime = max s.uptime (since + (s.img.screen.blindS * 1000 - elapsed)) ∧
      (s.point1Open = false → t.demand ≤ s.img.duty.blindedMaxPumps) ∧
      OnlyIn [.uptime, .dsq, .spm, .ppr, .scr, .fbl, .alm, .src] s t) ∧
  (∀ (s : State) (a : Bool), s.isHeld = false → s.inputs.onGenerator = !a →
    Gives (.onGeneratorChange a) s fun t =>
      let next := if a then s.img.permit.genSpacing else s.img.permit.startSpacing
      t.inputs = { s.inputs with onGenerator := a } ∧ t.condition .onGenerator = a ∧
      t.newestRecord = some (.generator a) ∧
      t.cap = (if a then s.img.duty.genMaxRunning else s.img.duty.maxRunning) ∧ t.spacing = next ∧
      (s.uptime < s.spm.spacingStart + next * 1000 →
        t.spm.permit = .spacing ∧ t.spm.spacingStart = s.spm.spacingStart ∧ t.spm.lastGrant = s.spm.lastGrant) ∧
      (0 < next → s.spm.spacingStart + next * 1000 ≤ s.uptime →
        (t.spm.permit = .opened ∧ t.spm.spacingStart = s.spm.spacingStart ∧ t.spm.lastGrant = s.spm.lastGrant) ∨
        (t.spm.permit = .spacing ∧ t.spm.spacingStart = s.uptime ∧
          ∃ who, t.spm.lastGrant = some (who, s.uptime))) ∧
      (s.spm.permit = .spacing → s.spm.spacingStart + next * 1000 ≤ s.uptime → ∀ r rest, s.ranked = r :: rest →
        t.spm.lastGrant = some (r.who, s.uptime) ∧
        (s.img.duty.minOffS ≠ 0 ∨ (∃ sc, r.who = .screen sc) → t.requestOf r.who = none) ∧
        ∀ p : Pump, r.who = .pump p → (t.dsq.pumps.get p).history.getLast? = some (s.uptime / 1000)) ∧
      t.spm.lastOutside = s.spm.lastOutside ∧
      OnlyIn [.inputs, .dsq, .spm, .ppr, .scr, .fbl, .alm, .src] s t)

/-- CONFIRM_TIMER_EXPIRY opens the episode (R112, R116, R120). The uptime that an expiry taken early reaches, and that
nothing happens where the timer does not run, are the model's choices (log entry 2). -/
def Obligations.EpisodeOpens : Prop :=
  ∀ (s : State) (pt : Point) (r : PointRec) (e : Episode) (t0 : Nat), s.isHeld = false →
    s.ovm.points.get pt = some r → r.state = .confirming → r.confirm = some t0 → r.episode = some e →
    let n := r.pending.getD 0
    r.spillCount + n ≤ max64 → (s.src.acc.points.get pt).spill + n ≤ max64 →
    Gives (.confirmTimerExpiry pt) s fun t =>
      t.ovm.points = s.ovm.points.set pt (some
        { r with
          state := .spilling, confirm := none, pending := none
          episode := some { e with volume := e.volume + n }, spillCount := r.spillCount + n }) ∧
      t.src.acc.points.get pt =
        ⟨(s.src.acc.points.get pt).spill + n, min ((s.src.acc.points.get pt).episodes + 1) max32⟩ ∧
      t.newestRecord = some (.overflowStart pt e.startTime) ∧ t.condition (.overflow pt) = true ∧
      t.storm = true ∧ t.uptime = max s.uptime (t0 + s.img.ovf.ovfConfirmS * 1000) ∧
      OnlyIn [.uptime, .dsq, .spm, .ppr, .scr, .ovm, .fbl, .alm, .src] s t

/-- END_TIMER_EXPIRY and LEVEL_LOSS_TIMER_EXPIRY close the episode (R114, R119). The uptime that an expiry taken early
reaches, and that nothing happens where the timer does not run, are the model's choices (log entry 2). -/
def Obligations.EpisodeCloses : Prop :=
  ∀ (s : State) (pt : Point) (r : PointRec) (e : Episode) (t0 age : Nat) (w : Stamp), s.isHeld = false →
    s.ovm.points.get pt = some r → r.state.opened = true → r.episode = some e →
    let closed (why : EndReason) (t : State) : Prop :=
      t.ovm.points = s.ovm.points.set pt (some
        { r with
          state := .dry, confirm := none, endTimer := .stopped, lossTimer := none, pending := none, episode := none }) ∧
      t.newestRecord =
        some (.overflowEnd pt e.startTime w age e.peak (e.volume / 10) why e.crossedDay) ∧
      t.condition (.overflow pt) = false ∧
      OnlyIn [.uptime, .dsq, .spm, .ppr, .scr, .ovm, .fbl, .alm, .src] s t
    (r.endTimer = .running t0 → e.candidateEnd = some (w, age) →
      Gives (.endTimerExpiry pt) s fun t =>
        closed .normal t ∧ t.uptime = max s.uptime (t0 + s.img.ovf.endConfirmS * 1000)) ∧
    (r.lossTimer = some t0 → e.levelLoss = some (w, age) →
      Gives (.levelLossTimerExpiry pt) s fun t =>
        closed .sensorFault t ∧ t.uptime = max s.uptime (t0 + s.img.ovf.endConfirmS * 1000))

/-- ACCRUAL_SECOND accrues run seconds, silent and backup seconds, the estimate, spill and ages (R14, R53, R109, R115, R116,
R127, R128, R130). The uptime that an expiry taken early reaches, and that nothing happens where the timer does not run, are
the model's choices (log entry 2), and so are the order of an accrual second and a close at one uptime and the marker ahead
(log entries 21 and 34); past the largest counts the sum is left open (log entry 12). -/
def Obligations.AccrualSecond : Prop :=
  ∀ (s : State), s.isHeld = false →
    let second (n : Nat) : Nat := min (n + 1) max32
    let flow (pt : Point) : Nat :=
      match s.head pt with
      | some h => if 0 < h then spillFlow (s.img.rating.get pt) h else 0
      | none => 0
    let silent : Bool := s.fbl.meterSilent && !s.fbl.ahead
    Gives .accrualSecond s fun t =>
      (∀ p, t.src.acc.pumps.get p =
        { s.src.acc.pumps.get p with
          runSeconds :=
            if s.runCmd p then second (s.src.acc.pumps.get p).runSeconds else (s.src.acc.pumps.get p).runSeconds }) ∧
      t.src.acc.floatBackupSeconds =
        (if s.lvu.floatBackup then second s.src.acc.floatBackupSeconds else s.src.acc.floatBackupSeconds) ∧
      t.src.acc.meterSilentSeconds =
        (if silent then second s.src.acc.meterSilentSeconds else s.src.acc.meterSilentSeconds) ∧
      (silent = true → s.fbl.pumped + s.estimate ≤ max64 →
        t.fbl = { s.fbl with seconds := s.fbl.seconds + 1, pumped := s.fbl.pumped + s.estimate } ∧
        t.src.acc.pumpedLitres =
          min (s.src.acc.pumpedLitres + ((s.fbl.pumped + s.estimate) / 10 - s.fbl.pumped / 10)) max32) ∧
      (silent = false →
        t.fbl = { s.fbl with seconds := s.fbl.seconds + 1, ahead := false } ∧
        t.src.acc.pumpedLitres = s.src.acc.pumpedLitres) ∧
      (∀ (pt : Point) (r : PointRec) (e : Episode), s.ovm.points.get pt = some r → r.episode = some e →
        e.age < max32 → r.spillCount + flow pt ≤ max64 → (s.src.acc.points.get pt).spill + flow pt ≤ max64 →
        (r.state = .confirming →
          (∃ q, t.ovm.points.get pt = some q ∧
            q = { r with episode := some { e with age := e.age + 1 }, pending := q.pending } ∧
            q.pending.getD 0 = r.pending.getD 0 + flow pt) ∧
          t.src.acc.points.get pt = s.src.acc.points.get pt) ∧
        (r.state = .spilling ∨ r.state = .ending →
          t.ovm.points.get pt = some
            { r with
              episode := some { e with age := e.age + 1, volume := e.volume + flow pt }
              spillCount := r.spillCount + flow pt } ∧
          t.src.acc.points.get pt =
            { s.src.acc.points.get pt with spill := (s.src.acc.points.get pt).spill + flow pt })) ∧
      (∀ pt : Point,
        (s.ovm.points.get pt = none →
          t.ovm.points.get pt = none ∧ t.src.acc.points.get pt = s.src.acc.points.get pt) ∧
        (∀ r, s.ovm.points.get pt = some r → r.state = .dry → r.episode = none →
          t.ovm.points.get pt = some r ∧ t.src.acc.points.get pt = s.src.acc.points.get pt)) ∧
      t.src.acc.wellInflow = s.src.acc.wellInflow ∧ t.src.acc.stationInflow = s.src.acc.stationInflow ∧
      t.src.acc.unknownIntervals = s.src.acc.unknownIntervals ∧ t.src.acc.rakeCycles = s.src.acc.rakeCycles ∧
      t.src.acc.peak = s.src.acc.peak ∧ t.src.log = s.src.log ∧ t.src.clock = s.src.clock ∧
      t.uptime = max s.uptime ((s.fbl.seconds + 1) * 1000) ∧ OnlyIn [.uptime, .ovm, .fbl, .src] s t

/-- The tables, the rates, the trend, the time to overflow and PREDICTED_OVERFLOW (R108, R129, R134, R135, R136, R137). -/
def Obligations.TablesOfTheStation : Prop :=
  (∀ (table : List TablePoint) (q : TablePoint), tableConsistent 1 table = true → q ∈ table → q.key ≤ 5000 →
    spillFlow table q.key = q.value) ∧
  (∀ (table : List TablePoint) (h : Int), h ≤ 0 → spillFlow table h = 0) ∧
  (∀ (table before after : List TablePoint) (a b : TablePoint) (h : Nat), tableConsistent 1 table = true →
    table = before ++ a :: b :: after → a.key < h → h ≤ 5000 → h ≤ b.key ∨ after = [] →
    spillFlow table h =
      if h ≤ b.key then a.value + (b.value - a.value) * (h - a.key) / (b.key - a.key)
      else b.value + (b.value - a.value) * (h - b.key) / (b.key - a.key)) ∧
  (∀ (table : List TablePoint) (h : Int), 5000 ≤ h → spillFlow table h = spillFlow table 5000) ∧
  (∀ (table : List TablePoint) (g h : Nat), tableConsistent 0 table = true → g ≤ h →
    volumeAt table g ≤ volumeAt table h) ∧
  (∀ (table : List TablePoint) (q : TablePoint), tableConsistent 0 table = true → q ∈ table →
    volumeAt table q.key = q.value) ∧
  (∀ (table before after : List TablePoint) (a b : TablePoint) (h : Nat), tableConsistent 0 table = true →
    table = before ++ a :: b :: after →
    (a.key < h → h ≤ b.key →
      volumeAt table h = a.value + (b.value - a.value) * (h - a.key) / (b.key - a.key)) ∧
    (before = [] → h ≤ a.key → volumeAt table h = a.value) ∧
    (after = [] → b.key < h → volumeAt table h = b.value)) ∧
  (∀ (old older newest : List Interval) (a b : List (Nat × Nat)),
    let mean (ns : List Nat) : Option Nat := some ((ns.sum + 30) / 60)
    let unknown : Rates := ⟨none, none, none, none⟩
    (old.length < 6 → ratesOf old = unknown) ∧
    (newest.length = 6 →
      ((∃ e ∈ newest, e.inflow = none) → ratesOf (old ++ newest) = unknown) ∧
      (newest.map (·.inflow) = a.map some →
        (ratesOf (old ++ newest)).wellA = mean (a.map (·.1)) ∧
        (ratesOf (old ++ newest)).stationA = mean (a.map (·.2)) ∧
        (ratesOf (old ++ newest)).outA = mean (newest.map (·.out)) ∧
        (old.length < 6 → (ratesOf (old ++ newest)).wellB = none)) ∧
      (older.length = 6 →
        ((∃ e ∈ older, e.inflow = none) → (ratesOf (old ++ older ++ newest)).wellB = none) ∧
        (newest.map (·.inflow) = a.map some → older.map (·.inflow) = b.map some →
          (ratesOf (old ++ older ++ newest)).wellB = mean (b.map (·.1)))))) ∧
  (∀ (r : Rates) (band : Nat),
    (r.wellA = none ∨ r.wellB = none → trendOf r band = .unknown) ∧
    (∀ x y, r.wellA = some x → r.wellB = some y →
      trendOf r band = if y + band < x then .rising else if x + band < y then .falling else .steady)) ∧
  (∀ s : State,
    let crest := s.img.ovf.crest.get .n1
    let warn := s.img.flow.predictWarnS
    (s.point1Open = true → s.timeToOverflow = .seconds 0 ∧ s.predictedNow = false) ∧
    (warn = 0 → s.predictedNow = false) ∧
    (s.point1Open = false → s.controlLevel = none → s.timeToOverflow = .unknown) ∧
    (∀ v, s.point1Open = false → s.controlLevel = some v →
      (crest ≤ v → s.timeToOverflow = .seconds 0) ∧
      (v < crest → s.fbl.rates.wellA = none ∨ s.fbl.rates.outA = none → s.timeToOverflow = .unknown) ∧
      (∀ w o, v < crest → s.fbl.rates.wellA = some w → s.fbl.rates.outA = some o →
        s.timeToOverflow =
          if w ≤ o then .notFilling
          else .seconds (min ((volumeAt s.img.storage crest - volumeAt s.img.storage v) / (w - o)) 65535))) ∧
    (s.point1Open = false → warn ≠ 0 →
      s.predictedNow =
        match s.fbl.overflowIn with
        | .seconds n => if n ≤ warn then true else if warn + 60 < n then false else s.fbl.predicted
        | .notFilling | .unknown => false)) ∧
  (∀ s : State, s.isHeld = false →
    Gives .intervalClose s fun t =>
      t.fbl.rates = ratesOf t.fbl.history ∧ t.fbl.trend = trendOf t.fbl.rates s.img.flow.trendBand ∧
      t.fbl.overflowIn = t.timeToOverflow ∧
      t.fbl.predicted = { t with fbl := { t.fbl with predicted := s.fbl.predicted } }.predictedNow ∧
      t.condition .predictedOverflow = t.fbl.predicted)

/-- FLOW_PULSE, METER_RATE_TIMEOUT and SILENCE_TIMER_EXPIRY (R126, R127, R128). The uptime that an expiry taken early
reaches, and that nothing happens where the timer does not run, are the model's choices (log entry 2). Where the saturated
mark of the period in progress stands is the model's choice (log entry 38); past the largest counts the sum is left open (log
entry 12). -/
def Obligations.FlowMeter : Prop :=
  ∀ (s : State) (t0 : Nat), s.isHeld = false →
    let litres := s.img.flow.pulseLitres
    (s.fbl.pulses < max32 → s.fbl.pumped + litres * 10 ≤ max64 →
      Gives .flowPulse s fun t =>
        t.fbl.pulses = s.fbl.pulses + 1 ∧ t.fbl.lastCapture = some s.uptime ∧
        t.fbl.pumped = s.fbl.pumped + litres * 10 ∧ t.fbl.meterSilent = false ∧ t.condition .meterSilent = false ∧
        (s.fbl.lastCapture = none → t.fbl.period = s.fbl.period ∧ t.fbl.rate = s.fbl.rate) ∧
        (s.fbl.lastCapture = some t0 →
          let d := max (s.uptime - t0) 1
          (s.fbl.saturating = false → d ≤ 65535 →
            t.fbl.period = some (d, false) ∧ t.fbl.rate = some ((litres * 20000 + d) / (2 * d))) ∧
          (s.fbl.saturating = true ∨ 65535 < d → t.fbl.period = some (65535, true) ∧ t.fbl.rate = some 0)) ∧
        t.fbl.silence = (if s.runningCount = 0 then s.fbl.silence else .running s.uptime) ∧
        t.src.log = s.src.log ∧ OnlyIn [.fbl, .alm, .src] s t) ∧
    (s.fbl.rate.isSome = true → s.fbl.lastCapture = some t0 →
      Gives .meterRateTimeout s fun t =>
        t.fbl = { s.fbl with rate := some 0, saturating := true } ∧ OnlyIn [.fbl] (s.reach (t0 + 65535)) t) ∧
    (s.fbl.silence = .running t0 →
      Gives .silenceTimerExpiry s fun t =>
        t.fbl = { s.fbl with silence := .expired, meterSilent := true } ∧ t.condition .meterSilent = true ∧
        OnlyIn [.fbl, .alm] (s.reach (t0 + s.img.flow.meterSilenceS * 1000)) t)

/-- INTERVAL_CLOSE forms the entry of its interval and credits the day (R130, R131, R132, R133, R164). The uptime that an
expiry taken early reaches, and that nothing happens where the timer does not run, are the model's choices (log entry 2), and
so are the order of a close and an accrual second at one uptime (log entry 21) and what an interval with point 2 uninstalled
in it keeps (log entry 22). -/
def Obligations.IntervalClose : Prop :=
  ∀ (s : State), s.isHeld = false →
    Gives .intervalClose s fun t =>
      (∃ e, t.fbl.history = addEntry s.fbl.history e ∧ e.closedAt = t.uptime ∧
        e.out = t.fbl.pumped / 10 - s.fbl.previous.litres ∧
        e.spill1 = s.spillCount .n1 / 10 - s.fbl.previous.spill.v1 / 10 ∧
        e.spill2 = s.fbl.spill2Kept + (s.spillCount .n2 / 10 - s.fbl.previous.spill.v2 / 10) ∧
        (e.inflow.isSome = true ↔
          s.controlLevel.isSome = true ∧ s.fbl.previous.level.isSome = true ∧ s.fbl.discontinuity = false) ∧
        (∀ now before well station, s.controlLevel = some now → s.fbl.previous.level = some before →
          e.inflow = some (well, station) →
          (well : Int) =
            max 0 ((volumeAt s.img.storage now : Int) - volumeAt s.img.storage before + e.out + e.spill1) ∧
          station = well + e.spill2) ∧
        (∀ well station, e.inflow = some (well, station) →
          t.src.acc.wellInflow = min (s.src.acc.wellInflow + well) max32 ∧
          t.src.acc.stationInflow = min (s.src.acc.stationInflow + station) max32 ∧
          t.src.acc.unknownIntervals = s.src.acc.unknownIntervals) ∧
        (e.inflow = none →
          t.src.acc.unknownIntervals = min (s.src.acc.unknownIntervals + 1) max32 ∧
          t.src.acc.wellInflow = s.src.acc.wellInflow ∧ t.src.acc.stationInflow = s.src.acc.stationInflow)) ∧
      t.fbl.previous =
        ⟨s.controlLevel, t.fbl.pumped / 10, ⟨s.spillCount .n1, s.spillCount .n2⟩, s.source⟩ ∧
      t.fbl.discontinuity = false ∧ t.fbl.spill2Kept = 0 ∧ t.fbl.closes = s.fbl.closes + 1 ∧
      (s.fbl.history.length ≤ 12 → t.fbl.history.length ≤ 12) ∧
      t.uptime = max s.uptime ((s.fbl.closes + 1) * 10000) ∧ t.src.log = s.src.log ∧
      OnlyIn [.uptime, .fbl, .alm, .src] s t

/-- ACK_IN and ACK_ALARM move exactly the outstanding points they name (R145, R146). -/
def Obligations.Acknowledgement : Prop :=
  let outstanding (s : State) (a : AlarmPoint) : Prop :=
    (s.point a).state = .activeUnack ∨ (s.point a).state = .returnedUnack
  let reported (s t : State) (named : AlarmPoint → Prop) : Prop :=
    (∀ a, named a → outstanding s a →
      ∀ k, t.alm.changes.get k = { s.alm.changes.get k with alarms := true }) ∧
    ((∀ a, named a → ¬ outstanding s a) → t.alm.changes = s.alm.changes)
  let moved (s : State) (by_ : AckSource) (e : PointEntry) : PointEntry :=
    match e.state with
    | .activeUnack => ⟨.activeAck, some s.now, some by_⟩
    | .returnedUnack => ⟨.clear, some s.now, some by_⟩
    | .clear | .activeAck => e
  (∀ s : State, s.isHeld = false →
    (s.inputs.ackIn = false →
      Gives (.ackIn true) s fun t =>
        (∀ a, t.point a = if s.img.alarmIn a then moved s .button (s.point a) else s.point a) ∧
        (∀ m, t.alm.outputs.get m = t.outputNow m) ∧ reported s t (fun a => s.img.alarmIn a = true) ∧
        t.inputs = { s.inputs with ackIn := true } ∧
        OnlyIn [.inputs, .alm] s t) ∧
    (s.inputs.ackIn = true →
      Gives (.ackIn false) s fun t => t.inputs = { s.inputs with ackIn := false } ∧ OnlyIn [.inputs] s t)) ∧
  (∀ (s : State) (l : Link) (a : AlarmPoint), s.taking l →
    let from_ : AckSource := if l = .panel then .panel else .telemetry
    Gives (.ackAlarm l [0]) s (fun t =>
      (∀ x, t.point x = if s.img.alarmIn x then moved s from_ (s.point x) else s.point x) ∧
      (∀ m, t.alm.outputs.get m = t.outputNow m) ∧ reported s t (fun x => s.img.alarmIn x = true) ∧
      DoneOn s t l 0x20 ∧ OnlyIn [.alm, .lnk] s t) ∧
    (s.img.alarmIn a = true →
      Gives (.ackAlarm l [BitVec.ofNat 8 a.number]) s fun t =>
        t.point a = moved s from_ (s.point a) ∧ (∀ x, x ≠ a → t.point x = s.point x) ∧
        (∀ m, t.alm.outputs.get m = t.outputNow m) ∧ reported s t (· = a) ∧
        DoneOn s t l 0x20 ∧ OnlyIn [.alm, .lnk] s t) ∧
    (s.img.alarmIn a = false →
      Gives (.ackAlarm l [BitVec.ofNat 8 a.number]) s fun t => Answered s t l (refusal 0x20 .state)) ∧
    (∀ b : Byte, 42 < b.toNat → Gives (.ackAlarm l [b]) s fun t => Answered s t l (refusal 0x20 .range)))

/-- A report of a condition moves its own point and no other (R142, R149). -/
def Obligations.ConditionMovesItsPoint : Prop :=
  ∀ (s : State) (a : AlarmPoint) (b : Bool),
    let t := s.setCondition a b
    t.condition a = b ∧ (s.condition a = b → t = s) ∧ (∀ x, x ≠ a → t.point x = s.point x) ∧
    (s.condition a ≠ b →
      (t.point a).state =
        (match (s.point a).state with
          | .clear | .returnedUnack => .activeUnack
          | .activeUnack => .returnedUnack
          | .activeAck => .clear) ∧
      (t.point a).time = some s.now ∧ (t.point a).source = (s.point a).source ∧
      (∀ m, t.alm.outputs.get m = t.outputNow m) ∧
      (∀ l, t.alm.changes.get l = { s.alm.changes.get l with alarms := true })) ∧
    OnlyIn [.alm] s t

/-- READ_CHANGES lists and empties the link's own change set (R152). -/
def Obligations.ReadChangesEmptiesItsSet : Prop :=
  ∀ (s : State) (l : Link), s.taking l →
    Gives (.readChanges l []) s fun t =>
      t.alm = { s.alm with changes := s.alm.changes.set l .none } ∧
      t.alm.changes.get l.other = s.alm.changes.get l.other ∧
      Sends s t l
        (doneFrames 0x09 (listed (fun c => u8 (Category.code c)) (Category.all.filter (s.alm.changes.get l).has))) ∧
      t.link l.other = s.link l.other ∧ t.lnk.seat = s.lnk.seat ∧ OnlyIn [.alm, .lnk] s t

/-- An append numbers, stamps and places one record, and RELEASE_EVENTS raises the link's own cursor (R156, R157, R158,
R160). -/
def Obligations.AppendAndRelease : Prop :=
  (∀ (s : State) (b : RecordBody), LogOk s.src →
    let t := s.append b
    OnlyIn [.src, .alm] s t ∧
    (∀ l, t.alm.changes.get l = { s.alm.changes.get l with events := true }) ∧
    t.alm.points = s.alm.points ∧ t.alm.outputs = s.alm.outputs ∧
    t.src.clock = s.src.clock ∧ t.src.clockPhase = s.src.clockPhase ∧ t.src.acc = s.src.acc ∧ t.src.day = s.src.day ∧
    t.src.clockChanged = s.src.clockChanged ∧
    (s.src.newest < max32 →
      t.src.nextSeq = (if s.src.newest + 1 = max32 then 1 else s.src.newest + 2) ∧
      (s.src.log.length < 96 →
        t.src.log = s.src.log ++ [⟨s.src.newest + 1, s.now, b⟩] ∧ t.src.cursors = s.src.cursors) ∧
      (s.src.log.length = 96 →
        t.src.log = s.src.log.tail ++ [⟨s.src.newest + 1, s.now, b⟩] ∧
        ∀ l, t.src.cursors.get l =
          if s.src.cursors.get l = s.src.oldest then s.src.oldest + 1 else s.src.cursors.get l)) ∧
    (s.src.newest = max32 → t.src.log = [⟨1, s.now, b⟩] ∧ (∀ l, t.src.cursors.get l = 1) ∧ t.src.nextSeq = 2)) ∧
  (∀ (s : State) (l : Link) (n : Nat), s.taking l → LogOk s.src → n ≤ max32 →
    (s.src.newest < n →
      Gives (.releaseEvents l (bytesOf 4 n)) s fun t => Answered s t l (refusal 0x0B .range)) ∧
    (n ≤ s.src.newest →
      Gives (.releaseEvents l (bytesOf 4 n)) s fun t =>
        (∀ k, t.src.cursors.get k =
          if k = l ∧ s.src.position (s.src.cursors.get l) ≤ n then (if n = max32 then 1 else n + 1)
          else s.src.cursors.get k) ∧
        t.src.position (t.src.cursors.get l) = max (s.src.position (s.src.cursors.get l)) (n + 1) ∧
        t.src = { s.src with cursors := t.src.cursors } ∧ DoneOn s t l 0x0B ∧ OnlyIn [.src, .lnk] s t))

/-- What an accepted WRITE_SETTING does in the block that owns the setting, for every setting (R11, R16, R31, R48, R58, R66,
R79, R85, R91, R105, R137, R185). It states also what R33, R51, R101, R122, R123, R127, R131, R150 and R180 say of a write.
The return from OPEN to SPACING (log entry 35), the order of the units that one write reaches (log entry 3) and the trip of a
pump found hot with overtemp_s 0 at its installation (log entry 23) are the model's choices. A clause that could fail only in
states no run reaches has as its premise the invariant that shuts them out (TripsKept, DryRunKept) or what it says of the
unit in hand: no fault timer of an uninstalled pump runs, and home-leave and cycle timers run in FORWARD alone. -/
def Obligations.SettingEffects : Prop :=
  ∀ (s : State) (l : Link) (v : Nat), s.taking l → s.holds l = true →
    let write (x : Setting) (P : State → Prop) : Prop :=
      s.Accepts x v → Gives (.writeSetting l (settingPayload x v)) s P
    let put (x : Setting) : State := { s.arrive l with cfg := { s.cfg with live := s.img.put x v } }
    let answered (u : State) : State := (u.report .settings).give l 0x30 (.done [])
    write .minRunS (fun t =>
      let u := put .minRunS
      t = answered { u with
        dsq := { u.dsq with
          pumps := everyOne (fun d => { d with minRun := stillRuns d.minRun v s.uptime }) u.dsq.pumps } }.reform) ∧
    write .minOffS (fun t =>
      let u := put .minOffS
      t = answered { u with
        dsq := { u.dsq with
          pumps := everyOne (fun d => { d with minOff := stillRuns d.minOff v s.uptime }) u.dsq.pumps } }.reform) ∧
    (∀ (x : Setting) (k : No4), x = .startLevel k ∨ x = .stopLevel k → write x fun t =>
      t = answered (put x).judgeCalls.judgeStage.reform ∧
      ∀ j, t.dsq.calls.get j =
        match s.controlLevel with
        | some level =>
          if t.img.duty.startLevel.get j ≤ level then true
          else if level ≤ t.img.duty.stopLevel.get j then false else s.dsq.calls.get j
        | none => s.dsq.calls.get j) ∧
    (∀ p : Pump, write (.hasDrive p) fun t =>
      let d := s.dsq.pumps.get p
      t.dsq.pumps.get p =
        (if v = 0 then
          { d with speedRef := 0, pendingDuty := 0, dutyInForce := 0, refInForce := 0, rampNext := none }
        else if s.runCmd p then
          { d with
            speedRef := s.img.duty.minSpeed, pendingDuty := (s.img.duty.minSpeed * 255 + 50) / 100
            rampNext := some (s.uptime + 1000) }
        else d) ∧
      (v = 0 → t.speedInForce p = if s.runCmd p then 100 else 0) ∧
      OthersKept p s.dsq.pumps t.dsq.pumps ∧ t.dsq = { s.dsq with pumps := t.dsq.pumps } ∧
      OnlyIn [.dsq, .alm, .lnk, .cfg] s t) ∧
    (∀ x : Setting, x = .startSpacing ∨ x = .genSpacing → write x fun t =>
      (s.inputs.onGenerator ≠ decide (x = .genSpacing) → OnlyIn [.alm, .lnk, .cfg] s t) ∧
      (s.inputs.onGenerator = decide (x = .genSpacing) →
        t.spacing = v ∧
        (s.uptime < s.spm.spacingStart + v * 1000 →
          t.spm = { s.spm with permit := .spacing } ∧ OnlyIn [.spm, .alm, .lnk, .cfg] s t) ∧
        (s.spm.spacingStart + v * 1000 ≤ s.uptime →
          (s.spm.permit = .opened → t.spm = s.spm) ∧
          (s.spm.permit = .spacing → s.ranked = [] → t.spm = { s.spm with permit := .opened }) ∧
          (∀ r rest, s.spm.permit = .spacing → s.ranked = r :: rest →
            t = answered ((((put x).recordGrant r.who).grantTo r.who).reform) ∧
            t.spm.lastGrant = some (r.who, s.uptime) ∧ t.spm.spacingStart = s.uptime ∧ t.spm.permit = .spacing)))) ∧
    (∀ c : FaultCond,
      let x : Setting :=
        match c with
        | .failToStart => .startConfirmS
        | .runLost => .runLostS
        | .overtemp => .overtempS
        | .overcurrent => .ocS
        | .undercurrent => .ucS
      write x fun t => ∀ p,
        let r := s.ppr.get p
        (ran (r.faults.get c) v s.uptime = true →
          (t.ppr.get p).trips = r.trips + 1 ∧ (t.ppr.get p).lastTrip = some (c, s.uptime) ∧
          (t.ppr.get p).faults = .allStopped ∧ (t.ppr.get p).protection.watched = false ∧
          t.runCmd p = false ∧ t.dsq.queue.contains p = false) ∧
        (ran (r.faults.get c) v s.uptime = false →
          (t.ppr.get p).trips = r.trips ∧ (t.ppr.get p).lastTrip = r.lastTrip)) ∧
    write .lockoutTrips (fun t =>
      (∀ p, t.ppr.get p =
        let r := s.ppr.get p
        if r.protection = .lockedOut then { r with trips := v }
        else if v ≤ r.trips then { r with trips := v - 1, forgive := if v = 1 then none else r.forgive }
        else r) ∧
      OnlyIn [.ppr, .alm, .lnk, .cfg] s t) ∧
    (TripsOk s → write .pumpsInstalled fun t => ∀ p,
      let r := s.ppr.get p
      let q := t.ppr.get p
      (s.pumpIn p = true → v < p.toNat →
        q.protection = (if r.protection = .lockedOut then .lockedOut else .healthy) ∧ q.trips = r.trips ∧
        q.faults = .allStopped ∧ q.rest = none ∧ q.awaitingCool = false ∧ q.forgive = none ∧ q.sealTimer = none ∧
        q.sealLeak = false ∧ q.watch = .idle ∧ (∀ k, t.condition (.pump p k) = false) ∧ t.mode p = none ∧
        t.dsq.queue.contains p = false ∧ (s.dsq.queue.contains p = true → t.runState p = .stopped)) ∧
      (s.pumpIn p = false → p.toNat ≤ v → s.img.prot.overtempS ≠ 0 ∨ s.inputs.overtemp.get p = false →
        q.protection.watched = r.protection.watched ∧ q.trips = r.trips ∧
        q.forgive = (if r.trips = 0 ∨ r.protection = .lockedOut then none else some s.uptime) ∧
        q.sealTimer = (if s.inputs.sealLeak.get p then some s.uptime else none) ∧
        t.condition (.pump p .lockout) = decide (r.protection = .lockedOut) ∧
        t.condition (.pump p .switchFault) = decide (t.mode p = some .switchFault) ∧
        (r.protection.watched = true → r.faults = .allStopped →
          q.faults.overtemp = if s.inputs.overtemp.get p then some s.uptime else none) ∧
        (s.spm.permit = .spacing → s.runCmd p = false →
          q.watch = if t.inAuto p && s.runFb p then .uncommanded (some s.uptime) else .idle) ∧
        t.dsq.queue.contains p = t.member p) ∧
      (s.pumpIn p = false → p.toNat ≤ v → s.img.prot.overtempS = 0 → s.inputs.overtemp.get p = true →
        r.protection.watched = true → r.faults = .allStopped →
        q.trips = r.trips + 1 ∧ q.lastTrip = some (.overtemp, s.uptime) ∧ q.faults = .allStopped ∧
        q.protection = (if s.img.prot.lockoutTrips ≤ r.trips + 1 then .lockedOut else .tripped) ∧
        t.dsq.queue.contains p = false ∧ t.runCmd p = false)) ∧
    (RequestsOk s → write .screensInstalled fun t =>
      (v = 0 → t.scr.blinded = .clear ∧ t.condition .screenBlinded = false) ∧
      ∀ sc,
        (s.screenIn sc = true → v < sc.toNat →
          t.scr.screens.get sc = none ∧ t.requestOf (.screen sc) = none ∧ t.condition (.rakeJam sc) = false ∧
          t.condition (.rakeFailed sc) = false) ∧
        (s.screenIn sc = false → sc.toNat ≤ v → t.diffHigh = false →
          t.scr.screens.get sc =
            some (.atStart (if s.img.screen.rakeIntervalMin = 0 then none else some s.uptime)))) ∧
    write .ovfConfirmS (fun t => ∀ pt r, s.ovm.points.get pt = some r → r.episode.isSome = true →
      (ran r.confirm v s.uptime = true →
        ∃ q, t.ovm.points.get pt = some q ∧ q.state = .spilling ∧ q.confirm = none) ∧
      (ran r.confirm v s.uptime = false → t.ovm.points.get pt = some r)) ∧
    write .endConfirmS (fun t => ∀ pt r, s.ovm.points.get pt = some r → r.episode.isSome = true →
      let ended : Bool := ran r.endTimer.timer v s.uptime || ran r.lossTimer v s.uptime
      (ended = true → ∃ q, t.ovm.points.get pt = some q ∧ q.state = .dry ∧ q.episode = none) ∧
      (ended = false → t.ovm.points.get pt = some r)) ∧
    (∀ pt : Point, write (.crest pt) fun t =>
      t.ovm.points.get pt.other = s.ovm.points.get pt.other ∧
      ∀ r level, s.ovm.points.get pt = some r → s.pointLevel pt = some level →
        let head : Int := (level : Int) - v
        ∃ q, t.ovm.points.get pt = some q ∧
          (r.state = .dry →
            q.state =
              if (s.img.ovf.startHead : Int) ≤ head then
                (if s.img.ovf.ovfConfirmS = 0 then .spilling else .confirming)
              else .dry) ∧
          (r.state = .confirming → q.state = if head < s.img.ovf.startHead then .dry else .confirming) ∧
          (r.state = .spilling → s.img.ovf.endConfirmS ≠ 0 →
            q.state = if head < s.img.ovf.endHead then .ending else .spilling)) ∧
    write .pointsInstalled (fun t =>
      t.ovm.points.get .n1 = s.ovm.points.get .n1 ∧
      (s.pointIn .n2 = true → v < 2 →
        t.ovm.points.get .n2 = none ∧ t.condition (.overflow .n2) = false ∧
        ∀ r e, s.ovm.points.get .n2 = some r → r.episode = some e → r.state.opened = true →
          t.newestRecord =
            some (.overflowEnd .n2 e.startTime s.now e.age e.peak (e.volume / 10) .sensorFault e.crossedDay)) ∧
      (s.pointIn .n2 = false → 2 ≤ v →
        (s.level .inlet = none → t.ovm.points.get .n2 = some .atStart) ∧
        (s.chan .inlet = none → t.chan .inlet = some .atStart))) ∧
    (∀ x : Setting, (∃ k, x = .route k) ∨ (∃ m, x = .outMode m) → write x fun t =>
      (∀ m, t.alm.outputs.get m = t.outputNow m) ∧ t.alm.points = s.alm.points ∧ OnlyIn [.alm, .lnk, .cfg] s t) ∧
    write .seatHoldS (fun t =>
      s.inputs.localKey = false → t.lnk.seat = s.lnk.seat ∧ t.lnk.holdTimer = some s.uptime ∧
        OnlyIn [.alm, .lnk, .cfg] s t) ∧
    (∀ x : Setting, x.rescales ≠ [] → write x fun t =>
      (∀ ch, t.chan ch =
        if ch ∈ x.rescales then
          (s.chan ch).map fun r => if r.state = .inService then { r with history := [] } else r
        else s.chan ch) ∧
      (∀ ch w, Channel.well? ch = some w →
        t.fbl.rescaled.get w = (s.fbl.rescaled.get w || (decide (ch ∈ x.rescales) && s.serving ch))) ∧
      t.fbl = { s.fbl with rescaled := t.fbl.rescaled } ∧ OnlyIn [.lvu, .fbl, .alm, .lnk, .cfg] s t) ∧
    (write .disagreeS fun t =>
      (ran s.lvu.disagreement.timer v s.uptime = true →
        t.lvu.disagreement =
          (match s.lvu.disagreement with
            | .disagreePending _ => .disagree
            | .agreePending _ => .agree
            | d => d) ∧
        t.condition .levelDisagree = t.lvu.disagreement.present) ∧
      (ran s.lvu.disagreement.timer v s.uptime = false → OnlyIn [.alm, .lnk, .cfg] s t)) ∧
    (write .minSpeed fun t =>
      (∀ p, t.dsq.pumps.get p =
        let d := s.dsq.pumps.get p
        match d.override with
        | some ⟨.forceRun (some w), l⟩ => { d with override := some ⟨.forceRun (some (max w v)), l⟩ }
        | _ => d) ∧
      OnlyIn [.dsq, .alm, .lnk, .cfg] s t) ∧
    (write .stopConfirmS fun t =>
      (∀ p,
        (ran (s.ppr.get p).watch.stopTimer v s.uptime = true →
          t.ppr.get p = { s.ppr.get p with watch := .stopWatch none } ∧ t.condition (.pump p .runMismatch) = true) ∧
        (ran (s.ppr.get p).watch.stopTimer v s.uptime = false → t.ppr.get p = s.ppr.get p)) ∧
      OnlyIn [.ppr, .alm, .lnk, .cfg] s t) ∧
    (TripsOk s → write .tripRestS fun t => ∀ p,
      let r := s.ppr.get p
      (ran r.rest v s.uptime = true →
        (s.inputs.overtemp.get p = true →
          (t.ppr.get p).rest = none ∧ (t.ppr.get p).awaitingCool = true ∧ (t.ppr.get p).trips = r.trips ∧
          (t.ppr.get p).protection.watched = r.protection.watched) ∧
        (s.inputs.overtemp.get p = false →
          (t.ppr.get p).protection.watched = true ∧ (t.ppr.get p).rest = none ∧ (t.ppr.get p).trips = r.trips ∧
          t.condition (.pump p .trip) = false ∧ (s.inAuto p = true → t.dsq.queue.contains p = true))) ∧
      (ran r.rest v s.uptime = false → (t.ppr.get p).rest = r.rest ∧ (t.ppr.get p).trips = r.trips)) ∧
    (write .tripForgiveS fun t =>
      (∀ p,
        let r := s.ppr.get p
        (ran r.forgive v s.uptime = true → r.trips ≠ 0 → r.protection ≠ .lockedOut →
          t.ppr.get p =
            { r with trips := r.trips - 1, forgive := if r.trips = 1 then none else some s.uptime }) ∧
        (ran r.forgive v s.uptime = false → t.ppr.get p = r)) ∧
      OnlyIn [.ppr, .alm, .lnk, .cfg] s t) ∧
    (∀ (x : Setting) (p : Pump), x = .ocLimit p ∨ x = .ucLimit p → write x fun t =>
      t = answered ((put x).judgeFaults p)) ∧
    (write .rakeIntervalMin fun t => ∀ sc r, s.scr.screens.get sc = some r →
      let old := s.img.screen.rakeIntervalMin
      let passed : Bool := ran r.interval (v * 60) s.uptime
      (v = 0 → t.scr.screens.get sc = some { r with interval := none }) ∧
      (v ≠ 0 → old = 0 → t.scr.screens.get sc = some { r with interval := some s.uptime }) ∧
      (v ≠ 0 → old ≠ 0 → passed = false →
        ∃ q, t.scr.screens.get sc = some q ∧ q.interval = r.interval ∧ (r.rake ≠ .idle → q = r)) ∧
      (v ≠ 0 → old ≠ 0 → passed = true →
        ∃ q, t.scr.screens.get sc = some q ∧ q.interval = none ∧
          (r.rake = .idle → s.inputs.rakeThermal.get sc = true → q.rake = .failed ∧ q.cause = some .thermal) ∧
          (r.rake = .idle → s.inputs.rakeThermal.get sc = false → s.spm.permit = .spacing → q.rake = .waiting) ∧
          (r.rake = .waiting ∨ r.rake = .forward ∨ r.rake = .backoff →
            q = { r with interval := none, again := true }) ∧
          (r.rake = .jammed ∨ r.rake = .failed → q = { r with interval := none }))) ∧
    (∀ x : Setting, x = .homeLeaveS ∨ x = .cycleMaxS → write x fun t => ∀ sc r, s.scr.screens.get sc = some r →
      let due : Bool := ran (if x = .homeLeaveS then r.homeLeave else r.cycle) v s.uptime
      (due = true → r.rake = .forward →
        t.scr.screens.get sc =
          some { r with
            rake := .failed, homeLeave := none, cycle := none, reverse := none
            cause := some (if x = .homeLeaveS then .homeNotLeft else .cycleTime) } ∧
        t.condition (.rakeFailed sc) = true ∧ t.requestOf (.screen sc) = none) ∧
      (due = false → r.rake ≠ .idle → t.scr.screens.get sc = some r)) ∧
    (RequestsOk s → write .reverseS fun t => ∀ sc r, s.scr.screens.get sc = some r →
      (ran r.reverse v s.uptime = true →
        (s.img.screen.jamRetries < r.retries →
          t.scr.screens.get sc = some { r with rake := .jammed, reverse := none } ∧
          t.condition (.rakeJam sc) = true) ∧
        (r.retries ≤ s.img.screen.jamRetries → s.spm.permit = .spacing →
          t.scr.screens.get sc = some { r with rake := .waiting, reverse := none } ∧
          t.requestOf (.screen sc) = some ⟨.screen sc, s.uptime⟩)) ∧
      (ran r.reverse v s.uptime = false → r.rake ≠ .idle → t.scr.screens.get sc = some r)) ∧
    (∀ x : Setting, x = .blindMm ∨ x = .blindS → write x fun t =>
      let m := t.img.screen
      t = answered (put x).judgeBlinded.reform ∧
      (s.differential = none → t.isBlinded = s.isBlinded) ∧
      (∀ d, s.differential = some d →
        (s.scr.blinded = .clear →
          t.scr.blinded = if (m.blindMm : Int) ≤ d then .pending 0 (some s.uptime) else .clear) ∧
        (∀ e t0, s.scr.blinded = .pending e (some t0) →
          t.scr.blinded =
            if d < m.blindMm then .clear
            else if m.blindS * 1000 ≤ e + (s.uptime - t0) then .blinded else .pending e (some t0)) ∧
        (s.scr.blinded = .blinded → (m.rakeStart : Int) ≤ d → t.scr.blinded = .blinded))) ∧
    (write .rakeStart fun t => t = answered ((put .rakeStart).diffMoved s.diffHigh)) ∧
    (write .meterSilenceS fun t =>
      (ran s.fbl.silence.timer v s.uptime = true →
        t.fbl = { s.fbl with silence := .expired, meterSilent := true } ∧ t.condition .meterSilent = true) ∧
      (ran s.fbl.silence.timer v s.uptime = false → t.fbl = s.fbl) ∧
      OnlyIn [.fbl, .alm, .lnk, .cfg] s t) ∧
    (write .predictWarnS fun t =>
      t.fbl =
        { s.fbl with
          predicted :=
            if s.point1Open = true ∨ v = 0 then false
            else match s.fbl.overflowIn with
              | .seconds n => if n ≤ v then true else if v + 60 < n then false else s.fbl.predicted
              | .notFilling | .unknown => false } ∧
      t.condition .predictedOverflow = t.fbl.predicted ∧ OnlyIn [.fbl, .alm, .lnk, .cfg] s t) ∧
    (write .trendBand fun t =>
      t = answered { put .trendBand with fbl := { s.fbl with trend := trendOf s.fbl.rates v } }) ∧
    (∀ x : Setting, x = .startsPerHour ∨ x = .maxRunning ∨ x = .genMaxRunning ∨ x = .blindedMaxPumps →
      write x fun t => t = answered (put x).reform) ∧
    (∀ x : Setting, x = .speedDelta ∨ x = .speedHys → write x fun t => t = answered (put x).judgeStage) ∧
    (write .highAlarm fun t =>
      t.lvu =
        { s.lvu with
          highLevel :=
            match s.controlLevel with
            | some level => if v ≤ level then true else if level + 100 < v then false else s.lvu.highLevel
            | none => s.lvu.highLevel } ∧
      OnlyIn [.lvu, .alm, .lnk, .cfg] s t) ∧
    (∀ x : Setting, x = .hhFloat ∨ x = .llFloat ∨ x = .floatTol → write x fun t => t = answered (put x).judgeFloats) ∧
    (∀ x : Setting, x = .startHead ∨ x = .endHead → write x fun t =>
      t = answered (((put x).judgePoint .n1).judgePoint .n2).reform) ∧
    (∀ x : Setting, x = .initLimit ∨ x = .disagreeMm ∨ x = .midSpeed ∨ x = .rampPct ∨ x = .jamRetries ∨
      x = .pulseLitres ∨ (∃ p, x = .ratedFlow p) → write x fun t => t = answered (put x))


/-- CLOCK_SECOND counts a second and closes the day at midnight (R117, R161, R165, R166, R191). That a second taken early
lets the time to it pass and that an invalid clock has none (log entry 2), what the clock does while held (log entry 4) and
the date of a day that has none (log entry 36) are the model's choices. -/
def Obligations.ClockSecond : Prop :=
  (∀ (s : State) (r : ClockReading), s.src.clock = some r →
    (r.second < 86399 →
      Gives .clockSecond s fun t =>
        t.src = { s.src with clock := some ⟨r.date, r.second + 1⟩, clockPhase := s.src.clockPhase - 1000 } ∧
        OnlyIn [.uptime, .src] s t) ∧
    (r.second = 86399 → s.isHeld = false →
      Gives .clockSecond s fun t =>
        t.src.clock = some ⟨r.date.next, 0⟩ ∧ t.src.day = some r.date.next ∧ t.src.clockChanged = false ∧
        (∃ d, t.newestRecord = some (.dailySummary d) ∧ d.date = s.src.day.getD r.date.next ∧
          d.clockChanged = s.src.clockChanged ∧ d.pumpedLitres = s.src.acc.pumpedLitres ∧ d.peak = s.src.acc.peak ∧
          d.wellInflow = s.src.acc.wellInflow ∧ d.stationInflow = s.src.acc.stationInflow ∧
          d.unknownIntervals = s.src.acc.unknownIntervals ∧ d.meterSilentSeconds = s.src.acc.meterSilentSeconds ∧
          d.floatBackupSeconds = s.src.acc.floatBackupSeconds ∧
          d.pumps = s.pumpList.map (fun p => (p, s.src.acc.pumps.get p)) ∧
          d.screens = s.screenList.map (fun sc => (sc, s.src.acc.rakeCycles.get sc)) ∧
          d.points = s.pointList.map (fun pt => (pt, (s.src.acc.points.get pt).spill / 10, (s.src.acc.points.get pt).episodes))) ∧
        t.src.acc = { Accumulators.zero with peak := s.controlLevel.map fun v => (v, .clock ⟨r.date.next, 0⟩) } ∧
        (∀ pt q e, t.ovm.points.get pt = some q → q.episode = some e → e.crossedDay = true) ∧
        OnlyIn [.uptime, .src, .alm, .ovm] s t) ∧
    (r.second = 86399 → s.isHeld = true →
      Gives .clockSecond s fun t =>
        t.src = { s.src with clock := some ⟨r.date.next, 0⟩, clockPhase := s.src.clockPhase - 1000 } ∧
        OnlyIn [.uptime, .src] s t)) ∧
  (∀ s : State, s.src.clock = none → Gives .clockSecond s fun t => t = s) ∧
  (∀ d : Date, d.valid → d.next.valid ∧ d.next ≠ d)

/-- SET_CLOCK sets the reading, marks the day and records the change (R162). That the new day's peak carries the time of the
close, which is the old reading, is read from R165 and R166 (log entry 17). -/
def Obligations.SetClock : Prop :=
  ∀ (s : State) (l : Link) (y mo d sec : Nat), s.taking l → s.holds l = true → y < 256 → mo < 256 → d < 256 →
    sec < 16777216 →
    let c : Instr := .setClock l (bytesOf 1 y ++ bytesOf 1 mo ++ bytesOf 1 d ++ bytesOf 3 sec)
    let date : Date := ⟨2000 + y, mo, d⟩
    (y ≤ 99 ∧ date.valid ∧ sec ≤ 86399 →
      Gives c s fun t =>
        t.src.clock = some ⟨date, sec⟩ ∧ t.src.clockPhase = 0 ∧ t.src.clockChanged = true ∧
        t.newestRecord = some (.clockSet l s.src.clock ⟨date, sec⟩) ∧
        (s.src.clock = none → t.src.day = some date ∧ t.condition .clockInvalid = false ∧ t.src.acc = s.src.acc) ∧
        (∀ old, s.src.clock = some old → old.date = date → t.src.day = s.src.day ∧ t.src.acc = s.src.acc) ∧
        (∀ old, s.src.clock = some old → old.date ≠ date → t.src.day = some date ∧
          t.src.acc = { Accumulators.zero with peak := s.controlLevel.map fun v => (v, .clock old) } ∧
          (LogOk s.src → s.src.newest + 2 ≤ max32 →
            ∃ before sum, t.src.log.map (·.body) =
              before ++ [.dailySummary sum, .clockSet l (some old) ⟨date, sec⟩] ∧ sum.clockChanged = true)) ∧
        DoneOn s t l 0x37 ∧ OnlyIn [.src, .alm, .ovm, .lnk] s t) ∧
    (¬ (y ≤ 99 ∧ date.valid ∧ sec ≤ 86399) →
      Gives c s fun t => Answered s t l (refusal 0x37 .range))

/-- Every read without parameters is answered DONE and changes nothing else (R21, R52, R62, R84, R104, R124, R139, R163,
R167, R173, R180, R183). Which bytes the data are, where the spec does not number or size them, is the model's choice (log
entries 10, 11, 37, 38, 40 and 41). -/
def Obligations.ReadsAnswer : Prop :=
  ∀ (s : State) (l : Link), s.taking l →
    Gives (.readLevels l []) s (fun t => Answered s t l (doneFrames 0x01 s.levelsData)) ∧
    Gives (.readPumps l []) s (fun t => Answered s t l (doneFrames 0x02 s.pumpsData)) ∧
    Gives (.readPermit l []) s (fun t => Answered s t l (doneFrames 0x03 s.permitData)) ∧
    Gives (.readProtection l []) s (fun t => Answered s t l (doneFrames 0x04 s.protectionData)) ∧
    Gives (.readScreens l []) s (fun t => Answered s t l (doneFrames 0x05 s.screensData)) ∧
    Gives (.readOverflow l []) s (fun t => Answered s t l (doneFrames 0x06 s.overflowData)) ∧
    Gives (.readBalance l []) s (fun t => Answered s t l (doneFrames 0x07 s.balanceData)) ∧
    Gives (.readSummary l []) s (fun t => Answered s t l (doneFrames 0x0C s.summaryData)) ∧
    Gives (.readClock l []) s (fun t => Answered s t l (doneFrames 0x0D s.clockData)) ∧
    Gives (.readSeat l []) s (fun t =>
      t.lnk.holdTimer =
        (if s.holds l = true ∧ s.inputs.localKey = false then some s.uptime else s.lnk.holdTimer) ∧
      Answered s t l (doneFrames 0x0E (t.seatData l)))

/-- The reads with a parameter (R154, R159, R172, R177, R187). How the data are laid out where the spec does not number or
size an item is the model's choice: the 4-byte figures of READ_SETTING and the output flags of READ_ALARMS (log entry 37),
the other widths and numbers (log entries 10 and 11) and the time fields (log entry 41). -/
def Obligations.ReadsWithParameters : Prop :=
  ∀ (s : State) (l : Link) (b c : Byte), s.taking l →
    (1 ≤ b.toNat ∧ b.toNat ≤ 8 →
      Gives (.readEvents l [b]) s (fun t =>
        Answered s t l (doneFrames 0x0A (s.eventsData l b.toNat)) ∧
        (doneFrames 0x0A (s.eventsData l b.toNat)).length = 1 ∧
        ∃ k, fitting b.toNat 225 (s.src.fromCursor l) = (s.src.fromCursor l).take k ∧ k ≤ b.toNat)) ∧
    (b.toNat = 0 ∨ 8 < b.toNat →
      Gives (.readEvents l [b]) s fun t => Answered s t l (refusal 0x0A .range)) ∧
    (b.toNat ≤ 1 →
      Gives (.readAlarms l [b]) s fun t =>
        Answered s t l (doneFrames 0x08 (s.alarmsData (decide (b.toNat = 1))))) ∧
    (1 < b.toNat → Gives (.readAlarms l [b]) s fun t => Answered s t l (refusal 0x08 .range)) ∧
    (∀ x : Setting, Gives (.readSetting l (bytesOf 2 x.ident)) s fun t =>
      Answered s t l
        (doneFrames 0x0F (u16 x.ident ++ u32 (s.img.get x) ++ u32 x.range.1 ++ u32 x.range.2 ++ u32 (Image.defaults.get x)))) ∧
    ((∀ x : Setting, x.ident ≠ figure [b, c]) →
      Gives (.readSetting l [b, c]) s fun t => Answered s t l (refusal 0x0F .range)) ∧
    (∀ pts, s.img.table? b.toNat = some pts →
      Gives (.readTable l [b]) s fun t =>
        Answered s t l (doneFrames 0x10 (u8 b.toNat ++ listed (fun q => u16 q.key ++ u32 q.value) pts))) ∧
    (2 < b.toNat → Gives (.readTable l [b]) s fun t => Answered s t l (refusal 0x10 .range))

/-- The code, length and seat checks of every request (R171, R175). The CODE byte of the answer to an unknown CODE of 0x80 or
above is the model's reading (log entry 19). -/
def Obligations.ChecksInOrder : Prop :=
  (∀ (c : Instr) (l : Link) (code : Nat) (b : List Byte) (s : State) (st : Status),
    c.frame? = some (code, b) → c.link? = some l → c.wellFormed = true → s.taking l →
    firstFailure code b (s.holds l) = some st →
    Gives c s fun t => Answered s t l (refusal (BitVec.ofNat 8 code) st)) ∧
  (∀ (l : Link) (code : Byte) (b : List Byte) (s : State), requestCodes.contains code.toNat = false → s.taking l →
    Gives (.unknownRequest l code b) s fun t => Answered s t l (refusal code .unknown))

/-- A request on a link in WORKING or SENDING is not carried out (R171, R173). -/
def Obligations.BusyLink : Prop :=
  ∀ (c : Instr) (l : Link) (code : Nat) (b : List Byte) (s : State),
    c.frame? = some (code, b) → c.link? = some l → s.isHeld = false → (s.link l).request ≠ .free →
    Gives c s fun t =>
      let busy := answerFrame (BitVec.ofNat 8 code) [6]
      OnlyIn [.lnk] s t ∧ t.lnk.seat = s.lnk.seat ∧ (t.link l).request = (s.link l).request ∧
      t.link l.other = s.link l.other ∧ (t.link l).answerWaiting = (s.link l).answerWaiting ∧
      (match (s.link l).transmit, (s.link l).busyWaiting with
        | .idle, none => (t.link l).transmit = .busy busy s.uptime ∧ (t.link l).busyWaiting = none
        | .answer fs t0, none => (t.link l).transmit = .answer fs t0 ∧ (t.link l).busyWaiting = some busy
        | x, y => (t.link l).transmit = x ∧ (t.link l).busyWaiting = y) ∧
      t.lnk.holdTimer =
        (if s.holds l = true ∧ s.inputs.localKey = false then some s.uptime else s.lnk.holdTimer)

/-- A frame sent byte by byte is taken whole, and only with a good CRC (R170, R171, section 10.1). -/
def Obligations.FrameRoundTrip : Prop :=
  (∀ (code : Byte) (payload : List Byte), payload.length ≤ 240 →
    Receive.feed .hunt (requestFrame code payload) = (.hunt, [(code, payload)])) ∧
  (∀ (code hi lo : Byte) (payload : List Byte), payload.length ≤ 240 →
    [hi, lo] ≠ bytesOf 2 (crc (BitVec.ofNat 8 payload.length :: code :: payload)).toNat →
    Receive.feed .hunt ([0xA5#8, BitVec.ofNat 8 payload.length, code] ++ payload ++ [hi, lo]) = (.hunt, []))

/-- BYTE_RECEIVED, GAP_TIMER_EXPIRY, FRAME_DISCARDED and ANSWER_SENT act on their link alone (R170, R171, R173). The uptime
that an expiry taken early reaches, and that nothing happens where the timer does not run, are the model's choices (log entry
2), and so are the time an answer takes to send (log entry 24) and that a completed frame is carried out in the step of its
last byte (log entry 8). -/
def Obligations.BytesAndGaps : Prop :=
  ∀ (s : State) (l : Link) (b : Byte), s.isHeld = false →
    ((((s.link l).receive.next b).2 = none →
      Gives (.byteReceived l b) s fun t =>
        (t.link l).receive = ((s.link l).receive.next b).1 ∧ (t.link l).request = (s.link l).request ∧
        (t.link l).transmit = (s.link l).transmit ∧ t.lnk.seat = s.lnk.seat ∧ t.lnk.holdTimer = s.lnk.holdTimer ∧
        t.link l.other = s.link l.other ∧ OnlyIn [.lnk] s t) ∧
    (∀ c payload, ((s.link l).receive.next b).2 = some (c, payload) →
      exec (.byteReceived l b) s = takeFrame l c payload (s.takeByte l b) ∧ (s.takeByte l b).taking l = s.taking l)) ∧
    (∀ t0, (s.link l).gap = some t0 →
      Gives (.gapTimerExpiry l) s fun t =>
        t.link l = { s.link l with receive := .hunt, gap := none } ∧ t.link l.other = s.link l.other ∧
        t.lnk.seat = s.lnk.seat ∧ t.lnk.holdTimer = s.lnk.holdTimer ∧ OnlyIn [.lnk] (s.reach (t0 + 50)) t) ∧
    (Gives (.frameDiscarded l) s fun t =>
        t.link l = { s.link l with receive := .hunt, gap := none } ∧ t.link l.other = s.link l.other ∧
        t.lnk.seat = s.lnk.seat ∧ t.lnk.holdTimer = s.lnk.holdTimer ∧ OnlyIn [.lnk] s t) ∧
    (∀ n t0, (s.link l).transmit.sent = some (n, t0) →
      Gives (.answerSent l) s fun t =>
        (match (s.link l).transmit with
          | .answer _ _ => (t.link l).request = .free ∧
              (t.link l).transmit = (match (s.link l).busyWaiting with
                | some f => .busy f t.uptime
                | none => .idle)
          | _ => (t.link l).request = (s.link l).request ∧
              (t.link l).transmit = (if (s.link l).answerWaiting = [] then .idle
                else .answer (s.link l).answerWaiting t.uptime)) ∧
        t.link l.other = s.link l.other ∧ t.lnk.seat = s.lnk.seat ∧ t.lnk.holdTimer = s.lnk.holdTimer ∧
        OnlyIn [.lnk] (s.reach (t0 + (n * 10000 + 57599) / 57600)) t)

/-- CLAIM_SEAT and RELEASE_SEAT (R178, R179, R182). -/
def Obligations.SeatRequests : Prop :=
  ∀ (s : State) (l : Link), s.taking l →
    (s.lnk.seat = .free →
      Gives (.claimSeat l []) s fun t =>
        t.lnk.seat = .held l ∧ t.newestRecord = some (.seat (.held l) .claim) ∧
        (∀ p, (t.dsq.pumps.get p).override = none) ∧
        t.lnk.holdTimer = (if s.inputs.localKey then none else some s.uptime) ∧
        Sends s t l (doneFrames 0x22 []) ∧ t.link l.other = s.link l.other ∧
        (∀ k, (t.alm.changes.get k).seat = true) ∧
        OnlyIn [.dsq, .spm, .ppr, .scr, .fbl, .alm, .src, .lnk] s t) ∧
    (s.lnk.seat = .held l →
      Gives (.claimSeat l []) s fun t =>
        t.lnk.seat = .held l ∧ t.lnk.holdTimer = (if s.inputs.localKey then none else some s.uptime) ∧
        DoneOn s t l 0x22 ∧ OnlyIn [.lnk] s t) ∧
    (s.lnk.seat = .held l.other →
      Gives (.claimSeat l []) s fun t =>
        Answered s t l (refusal 0x22 (if s.inputs.localKey = true ∧ l = .telemetry then .localKey else .seatHeld))) ∧
    (s.lnk.seat = .held l → s.inputs.localKey = false →
      Gives (.releaseSeat l []) s fun t =>
        t.lnk.seat = .free ∧ t.newestRecord = some (.seat .free .release) ∧
        (∀ p, (t.dsq.pumps.get p).override = none) ∧ t.lnk.holdTimer = none ∧
        Sends s t l (doneFrames 0x23 []) ∧ t.link l.other = s.link l.other ∧ (∀ k, (t.alm.changes.get k).seat = true) ∧
        OnlyIn [.dsq, .spm, .ppr, .scr, .fbl, .alm, .src, .lnk] s t) ∧
    (s.lnk.seat = .held l → s.inputs.localKey = true →
      Gives (.releaseSeat l []) s fun t => Answered s t l (refusal 0x23 .localKey)) ∧
    (s.lnk.seat ≠ .held l →
      Gives (.releaseSeat l []) s fun t => Answered s t l (refusal 0x23 .state))

/-- HOLD_TIMER_EXPIRY and LOCAL_KEY_CHANGE (R180, R181, R182). The uptime that an expiry taken early reaches, and that
nothing happens where the timer does not run, are the model's choices (log entry 2). -/
def Obligations.SeatEvents : Prop :=
  ∀ (s : State) (t0 : Nat), s.isHeld = false →
    (s.lnk.holdTimer = some t0 →
      Gives .holdTimerExpiry s fun t =>
        t.lnk = { s.lnk with seat := .free, holdTimer := none } ∧
        t.newestRecord = some (.seat .free .expiry) ∧ (∀ p, (t.dsq.pumps.get p).override = none) ∧
        OnlyIn [.uptime, .dsq, .spm, .ppr, .scr, .fbl, .alm, .src, .lnk] s t) ∧
    (s.inputs.localKey = false →
      Gives (.localKeyChange true) s fun t =>
        t.lnk = { s.lnk with seat := .held .panel, holdTimer := none } ∧ t.inputs = { s.inputs with localKey := true } ∧
        (∀ k, (t.alm.changes.get k).seat = true) ∧
        (s.lnk.seat = .held .panel → OnlyIn [.inputs, .lnk, .alm] s t) ∧
        (s.lnk.seat ≠ .held .panel →
          t.newestRecord = some (.seat (.held .panel) .localKey) ∧ (∀ p, (t.dsq.pumps.get p).override = none)) ∧
        OnlyIn [.inputs, .dsq, .spm, .ppr, .scr, .fbl, .alm, .src, .lnk] s t) ∧
    (s.inputs.localKey = true →
      Gives (.localKeyChange false) s fun t =>
        t.lnk = { s.lnk with holdTimer := some s.uptime } ∧ t.inputs = { s.inputs with localKey := false } ∧
        (∀ k, (t.alm.changes.get k).seat = true) ∧ OnlyIn [.inputs, .lnk, .alm] s t)

/-- WRITE_SETTING checks, then replaces one value (R185). -/
def Obligations.WriteSetting : Prop :=
  ∀ (s : State) (l : Link) (x : Setting) (v : Nat), SeatOk s → s.taking l → s.holds l = true → v < 4294967296 →
    let c : Instr := .writeSetting l (bytesOf 2 x.ident ++ bytesOf 4 v)
    (v < x.range.1 ∨ x.range.2 < v → Gives c s fun t => Answered s t l (refusal 0x30 .range)) ∧
    (x.range.1 ≤ v → v ≤ x.range.2 → (s.img.put x v).constraintsHold = false →
      Gives c s fun t => Answered s t l (refusal 0x30 .conflict)) ∧
    (x.range.1 ≤ v → v ≤ x.range.2 → (s.img.put x v).constraintsHold = true →
      Gives c s fun t =>
        t.img.get x = v ∧ (∀ y, y ≠ x → t.img.get y = s.img.get y) ∧
        t.img.storage = s.img.storage ∧ t.img.rating = s.img.rating ∧
        t.cfg.stored = s.cfg.stored ∧ t.cfg.saving = s.cfg.saving ∧ t.cfg.writes = s.cfg.writes ∧
        DoneOn s t l 0x30 ∧ (∀ k, (t.alm.changes.get k).settings = true) ∧
        OnlyIn [.lvu, .dsq, .spm, .ppr, .scr, .ovm, .fbl, .alm, .src, .lnk, .cfg] s t) ∧
    (∀ hi lo : Byte, (∀ y : Setting, y.ident ≠ figure [hi, lo]) →
      Gives (.writeSetting l ([hi, lo] ++ bytesOf 4 v)) s fun t => Answered s t l (refusal 0x30 .range))

/-- WRITE_TABLE and SAVE_SETTINGS, from their arrival to their ends (R174, R186, R188). Which writes end together, and that
an end with nothing under way changes nothing, are the model's choices (log entry 20). -/
def Obligations.DelayedRequests : Prop :=
  ∀ (s : State) (l : Link) (b : List Byte), s.taking l → s.holds l = true →
    let n := part b 0 1
    let pts := pointsOf (b.drop 2)
    (lengthFits 0x31 b = true → tableInRange n pts = true → tableConsistent n pts = true →
      Gives (.writeTable l b) s fun t =>
        t.cfg = { s.cfg with writes := s.cfg.writes ++ [⟨l, n, pts, s.uptime⟩] } ∧ (t.link l).request = .working ∧
        OnlyIn [.lnk, .cfg] s t) ∧
    (lengthFits 0x31 b = true → tableInRange n pts = false →
      Gives (.writeTable l b) s fun t => Answered s t l (refusal 0x31 .range)) ∧
    (lengthFits 0x31 b = true → tableInRange n pts = true → tableConsistent n pts = false →
      Gives (.writeTable l b) s fun t => Answered s t l (refusal 0x31 .conflict)) ∧
    (s.cfg.saving = none →
      Gives (.saveSettings l []) s fun t =>
        t.cfg = { s.cfg with saving := some ⟨l, s.img, s.uptime⟩ } ∧ (t.link l).request = .working ∧
        OnlyIn [.lnk, .cfg] s t) ∧
    (s.cfg.saving.isSome = true →
      Gives (.saveSettings l []) s fun t => Answered s t l (refusal 0x32 .busy)) ∧
    (∀ (u : State) (w : TableWrite), u.isHeld = false → u.cfg.writes = [w] →
      (∀ k, k ≠ w.link → Gives (.writeTableEnd k) u fun t => t = u) ∧
      Gives (.writeTableEnd w.link) u fun t =>
        t.img = u.img.putTable w.table w.points ∧ t.cfg.writes = [] ∧ t.cfg.stored = u.cfg.stored ∧
        DoneOn u t w.link 0x31 ∧ (∀ k, (t.alm.changes.get k).settings = true) ∧
        OnlyIn [.fbl, .alm, .lnk, .cfg] u t) ∧
    (∀ (u : State) (w v x : TableWrite), u.isHeld = false → u.cfg.writes = [w, v] → w.link ≠ v.link →
      x = w ∨ (x = v ∧ w.table ≠ v.table) →
      Gives (.writeTableEnd x.link) u fun t =>
        t.img = u.img.putTable x.table x.points ∧ t.cfg.writes = (if x = w then [v] else [w]) ∧
        t.cfg.stored = u.cfg.stored ∧ DoneOn u t x.link 0x31 ∧ (∀ k, (t.alm.changes.get k).settings = true) ∧
        OnlyIn [.fbl, .alm, .lnk, .cfg] u t) ∧
    (∀ (u : State) (w v : TableWrite), u.isHeld = false → u.cfg.writes = [w, v] → w.link ≠ v.link → w.table = v.table →
      Gives (.writeTableEnd v.link) u fun t =>
        t.img = u.img.putTable v.table v.points ∧ t.cfg.writes = [] ∧
        (∀ k, Sends u t k (doneFrames 0x31 [])) ∧ t.lnk.seat = u.lnk.seat ∧ OnlyIn [.fbl, .alm, .lnk, .cfg] u t) ∧
    (∀ (u : State) (v : Save), u.isHeld = false → u.cfg.saving = some v →
      Gives .saveEnd u fun t =>
        t.cfg = { u.cfg with stored := some v.image, saving := none, settingsLost := false } ∧
        t.condition .settingsLost = false ∧ t.newestRecord = some (.settingsSaved v.link) ∧
        DoneOn u t v.link 0x32 ∧ (∀ k, (t.alm.changes.get k).settings = true) ∧
        OnlyIn [.alm, .src, .lnk, .cfg] u t)

/-- HOLD turns every output off, and while held only the pins and the station clock move (R188, R190, R191). What a held
controller takes (log entry 4) and what the loss of the backup supply leaves (log entry 33) are read from the spec by
inference. -/
def Obligations.HeldController : Prop :=
  (∀ s : State,
    (s.isHeld = false →
      Gives .hold s fun t =>
        t.isHeld = true ∧ (∀ p, t.runCmdPin p = false ∧ t.speedRefPin p = 0) ∧
        (∀ sc, t.rakeFwdPin sc = false ∧ t.rakeRevPin sc = false) ∧ (∀ m, t.alarmPin m = false) ∧
        (∀ l, t.attnPin l = false ∧ t.alm.changes.get l = .none) ∧
        t.cfg.stored = (if s.cfg.saving.isSome then none else s.cfg.stored) ∧ t.cfg.live = s.cfg.live ∧
        OnlyIn [.isHeld, .alm, .cfg] s t) ∧
    (s.isHeld = true → Gives .hold s fun t => t = s) ∧
    Gives .backupSupplyLoss s (fun t => t.marker = false ∧ OnlyIn [.marker] s t)) ∧
  (∀ (c : Instr) (s : State), s.isHeld = true → c ≠ .start → c ≠ .clockSecond → c ≠ .backupSupplyLoss →
    Gives c s fun t => OnlyIn [.inputs] s t)

/-- Every step keeps the permit's spacing: no grant sooner than the spacing in force (R58, R59, R60, R61, R63). That a
spacing that becomes longer takes the permit from OPEN back to SPACING is the model's choice (log entry 35). -/
def Obligations.SpacingKept : Prop :=
  ∀ s t : State, SettingsOk s.cfg → (s.isHeld = false → SpacingOk s) → step s = .next t → t.isHeld = false →
    SpacingOk t ∧
    (t.spm.lastGrant ≠ s.spm.lastGrant → ∀ who u, t.spm.lastGrant = some (who, u) →
      u = t.uptime ∧ s.spm.spacingStart + t.spacing * 1000 ≤ u)

/-- START rebuilds every block but Pump Protection, the rotation queue and the Station Record (R22, R54, R63, R106, R125,
R140, R149, R155, R184, R189, R190, R191). -/
def Obligations.StartRebuilds : Prop :=
  ∀ s : State, s.isHeld = true →
    Gives .start s fun t =>
      let m := s.cfg.stored.getD .defaults
      t.isHeld = false ∧ t.marker = true ∧ t.uptime = 0 ∧ t.inputs = s.inputs ∧ t.pending = s.pending ∧
      t.cfg = { live := m, stored := s.cfg.stored, saving := none, writes := [], settingsLost := s.cfg.stored.isNone } ∧
      t.condition .settingsLost = s.cfg.stored.isNone ∧ t.condition .clockInvalid = t.src.clock.isNone ∧
      t.condition .onGenerator = s.inputs.onGenerator ∧ t.condition .highHighFloat = s.inputs.floatHighHigh ∧
      t.condition .lowLowFloat = s.inputs.floatLowLow ∧
      (∀ a ∈ [AlarmPoint.wellPriFault, .wellSecFault, .inletFault, .screenOutFault, .levelDisagree, .floatBackup,
          .highLevel, .floatDisagree, .rakeJam .n1, .rakeFailed .n1, .rakeJam .n2, .rakeFailed .n2, .screenBlinded,
          .overflow .n1, .overflow .n2, .predictedOverflow, .meterSilent], t.condition a = false) ∧
      (∀ k, t.alm.outputs.get k = t.outputNow k) ∧
      t.levelMode = .floatBackup ∧ t.controlLevel = none ∧
      (∀ ch, t.chan ch = if m.channelIn ch then some ⟨.starting, [], none, false, 0, 0, 0, none, none⟩ else none) ∧
      t.lvu.disagreement = .agree ∧ t.lvu.scanNext = .wellPri ∧ t.lvu.floatBackup = false ∧ t.lvu.floatCheck = none ∧
      t.lvu.floatDisagree = false ∧ t.lvu.highLevel = false ∧
      (∀ p, t.dsq.pumps.get p =
        ⟨.stopped, none, if m.duty.minOffS = 0 then none else some 0, [], none, none, 0, 0, 0, 0, none⟩) ∧
      (∀ k, t.dsq.calls.get k = false) ∧ t.dsq.latch = (s.inputs.floatHigh && !s.inputs.floatLowLow) ∧
      t.dsq.stage = .min ∧ t.dsq.runSet = [] ∧ t.spm = ⟨.spacing, 0, [], none, none⟩ ∧
      (∀ sc, t.scr.screens.get sc =
        if sc.toNat ≤ m.units.screensInstalled then
          some ⟨.idle, none, 0, false, false, none, none, none,
            if m.screen.rakeIntervalMin = 0 then none else some 0, none⟩
        else none) ∧
      t.scr.blinded = .clear ∧
      (∀ pt, t.ovm.points.get pt =
        if pt.toNat ≤ m.units.pointsInstalled then some ⟨.dry, none, .stopped, none, none, none, 0⟩ else none) ∧
      t.storm = false ∧ t.fbl = .atStart ∧
      (∀ l, t.link l = ⟨.hunt, none, .free, .idle, [], none⟩ ∧ t.alm.changes.get l = .full) ∧
      t.lnk.seat = (if s.inputs.localKey then .held .panel else .free) ∧ t.lnk.holdTimer = none

/-- What a start makes of Pump Protection, the rotation queue and the Station Record, cold and warm (R54, R66, R77, R79, R86,
R125, R157, R158, R168, R169, R190). That a pump found hot with overtemp_s 0 trips at the start, after the other records and
before the queue is formed (log entry 23), that several such pumps trip, and number their records, in pump-number order (log
entry 3), and the date under which a day with no date closes (log entry 36) are the model's choices. -/
def Obligations.ColdAndWarmStart : Prop :=
  ∀ s : State, s.isHeld = true →
    (s.marker = true → LogOk s.src ∧ s.src.newest + 12 ≤ max32) →
    Gives .start s fun t =>
      let m := s.cfg.stored.getD .defaults
      let kept : StationRecord := if s.marker then s.src else .cold
      let now : Stamp :=
        match kept.clock with
        | some r => .clock r
        | none => .uptime 0
      let owed : Option Date :=
        match kept.clock with
        | some r => if s.marker = true ∧ kept.day ≠ some r.date then some r.date else none
        | none => none
      let summary : List RecordBody :=
        match owed with
        | some d => [.dailySummary ({ t with src := kept }.summary (kept.day.getD d))]
        | none => []
      let bodies : List RecordBody :=
        .power s.marker s.inputs.onGenerator :: (if s.marker then s.closings now else []) ++ summary ++ s.hotTrips m
      let log := kept.log ++ numbered now kept.nextSeq bodies
      let figures : Accumulators := if owed.isSome then .zero else kept.acc
      let queue : List Pump := if s.marker then s.dsq.queue else []
      (∀ p, t.ppr.get p = s.pumpAtStart m p ∧
        t.condition (.pump p .trip) = decide ((t.ppr.get p).protection = .tripped) ∧
        t.condition (.pump p .lockout) = decide (t.pumpIn p = true ∧ (t.ppr.get p).protection = .lockedOut) ∧
        t.condition (.pump p .switchFault) = decide (t.mode p = some .switchFault) ∧
        t.condition (.pump p .sealLeak) = false ∧ t.condition (.pump p .runMismatch) = false) ∧
      t.dsq.queue = queue.filter t.member ++ No4.all.filter (fun p => t.member p && !queue.contains p) ∧
      t.src.log = log.drop (log.length - 96) ∧ t.src.nextSeq = followingSeq (kept.nextSeq + bodies.length - 1) ∧
      (∀ l, t.src.cursors.get l = max (kept.cursors.get l) t.src.oldest) ∧
      t.src.clock = kept.clock ∧ t.src.clockPhase = kept.clockPhase ∧
      t.src.day = (match owed with
        | some d => some d
        | none => kept.day) ∧
      t.src.clockChanged = (kept.clockChanged && owed.isNone) ∧
      t.src.acc = { figures with pumps := t.src.acc.pumps } ∧
      (∀ p, t.src.acc.pumps.get p =
        { figures.pumps.get p with
          trips := if s.tripsHot m p then min ((figures.pumps.get p).trips + 1) max32 else (figures.pumps.get p).trips })

/-- No command touches the waiting commands, and few the pins or the stored image (00_scope.md, How the blocks are connected,
R188, R193). -/
def Obligations.CommandsLeaveQueueAndPins : Prop :=
  ∀ (c : Instr) (s t : State), exec c s = .next t →
    t.pending = s.pending ∧
    (t.inputs ≠ s.inputs →
      (∃ f a, c = .floatChange f a) ∨ (∃ p k a, c = .hoaChange p k a) ∨ (∃ p a, c = .runFbChange p a) ∨
      (∃ p a, c = .overtempChange p a) ∨ (∃ p a, c = .sealLeakChange p a) ∨ (∃ sc a, c = .rakeHomeChange sc a) ∨
      (∃ sc a, c = .rakeTorqueChange sc a) ∨ (∃ sc a, c = .rakeThermalChange sc a) ∨ (∃ a, c = .ackIn a) ∨
      (∃ a, c = .localKeyChange a) ∨ (∃ a, c = .onGeneratorChange a)) ∧
    (t.cfg.stored ≠ s.cfg.stored → c = .saveEnd ∨ c = .hold ∨ c = .start)

/-- Every step keeps every image and table within its ranges and constraints (R185, R186, R189). -/
def Obligations.SettingsKept : Prop :=
  ∀ s t : State, SettingsOk s.cfg → step s = .next t → SettingsOk t.cfg

/-- Every step keeps the event log in order (R156, R157, R158, R160). -/
def Obligations.LogKept : Prop :=
  ∀ s t : State, LogOk s.src → step s = .next t → LogOk t.src

/-- Every step keeps the seat, the key and the overrides in agreement (R46, R180, R181, R182). -/
def Obligations.SeatKept : Prop :=
  ∀ s t : State, (s.isHeld = false → SeatOk s) → step s = .next t → t.isHeld = false → SeatOk t

/-- Every step keeps each link to one request at a time (R173, R174, R184). -/
def Obligations.LinksKept : Prop :=
  ∀ s t : State, (s.isHeld = false → LinksOk s) → step s = .next t → t.isHeld = false → LinksOk t

/-- Every step keeps the alarm outputs as the points and the routing call for (R142, R144, R149, R150). -/
def Obligations.OutputsKept : Prop :=
  ∀ s t : State, (s.isHeld = false → OutputsOk s) → step s = .next t → t.isHeld = false → OutputsOk t

/-- Every step keeps the pumps off while FLOAT_LOW_LOW is active (R35, R39, R41, R55, R56, R93, R94, R96, R98, R99, R105). -/
def Obligations.DryRunKept : Prop :=
  ∀ s t : State, RequestsOk s → (s.isHeld = false → DryRunOk s) → step s = .next t →
    RequestsOk t ∧ (t.isHeld = false → DryRunOk t)

/-- Every step keeps each trip counter at or below lockout_trips, equal exactly in LOCKED_OUT, and the fault and rest timers
where they belong (R66, R75, R76, R77, R79, R85, R185). -/
def Obligations.TripsKept : Prop :=
  ∀ s t : State, SettingsOk s.cfg → TripsOk s → step s = .next t → TripsOk t

/-- The state after reset meets every invariant (R63, R86, R149, R168, R184, R189). The empty store and the inactive inputs
of State.reset are the model's choice (log entry 6). -/
def Obligations.ResetIsInOrder : Prop :=
  SettingsOk State.reset.cfg ∧ LogOk State.reset.src ∧ SeatOk State.reset ∧ LinksOk State.reset ∧
  OutputsOk State.reset ∧ RequestsOk State.reset ∧ DryRunOk State.reset ∧ TripsOk State.reset ∧ SpacingOk State.reset
end

