-- ==== Sys2Proof/Laws/State.lean ====
section
/-! SUPPORT. What each update of the state leaves in each of its parts: one equation per part and update, true by unfolding, so that
no proof unfolds a record update. -/

namespace Sys2Proof.Machine

-- One theorem after another, as in Laws/Only.lean.
set_option Elab.async false

variable (s : State)

/-! ### elapse -/

@[simp] theorem State.elapse_pending (n : Nat) : (s.elapse n).pending = s.pending := rfl
@[simp] theorem State.elapse_isHeld (n : Nat) : (s.elapse n).isHeld = s.isHeld := rfl
@[simp] theorem State.elapse_marker (n : Nat) : (s.elapse n).marker = s.marker := rfl
@[simp] theorem State.elapse_uptime (n : Nat) : (s.elapse n).uptime = s.uptime + n := rfl
@[simp] theorem State.elapse_inputs (n : Nat) : (s.elapse n).inputs = s.inputs := rfl
@[simp] theorem State.elapse_lvu (n : Nat) : (s.elapse n).lvu = s.lvu := rfl
@[simp] theorem State.elapse_dsq (n : Nat) : (s.elapse n).dsq = s.dsq := rfl
@[simp] theorem State.elapse_spm (n : Nat) : (s.elapse n).spm = s.spm := rfl
@[simp] theorem State.elapse_ppr (n : Nat) : (s.elapse n).ppr = s.ppr := rfl
@[simp] theorem State.elapse_scr (n : Nat) : (s.elapse n).scr = s.scr := rfl
@[simp] theorem State.elapse_ovm (n : Nat) : (s.elapse n).ovm = s.ovm := rfl
@[simp] theorem State.elapse_fbl (n : Nat) : (s.elapse n).fbl = s.fbl := rfl
@[simp] theorem State.elapse_alm (n : Nat) : (s.elapse n).alm = s.alm := rfl
@[simp] theorem State.elapse_src (n : Nat) : (s.elapse n).src = { s.src with clockPhase := if s.src.clock.isSome then s.src.clockPhase + n else s.src.clockPhase } := rfl
@[simp] theorem State.elapse_lnk (n : Nat) : (s.elapse n).lnk = s.lnk := rfl
@[simp] theorem State.elapse_cfg (n : Nat) : (s.elapse n).cfg = s.cfg := rfl

/-! ### reach -/

@[simp] theorem State.reach_pending (n : Nat) : (s.reach n).pending = s.pending := rfl
@[simp] theorem State.reach_isHeld (n : Nat) : (s.reach n).isHeld = s.isHeld := rfl
@[simp] theorem State.reach_marker (n : Nat) : (s.reach n).marker = s.marker := rfl
@[simp] theorem State.reach_inputs (n : Nat) : (s.reach n).inputs = s.inputs := rfl
@[simp] theorem State.reach_lvu (n : Nat) : (s.reach n).lvu = s.lvu := rfl
@[simp] theorem State.reach_dsq (n : Nat) : (s.reach n).dsq = s.dsq := rfl
@[simp] theorem State.reach_spm (n : Nat) : (s.reach n).spm = s.spm := rfl
@[simp] theorem State.reach_ppr (n : Nat) : (s.reach n).ppr = s.ppr := rfl
@[simp] theorem State.reach_scr (n : Nat) : (s.reach n).scr = s.scr := rfl
@[simp] theorem State.reach_ovm (n : Nat) : (s.reach n).ovm = s.ovm := rfl
@[simp] theorem State.reach_fbl (n : Nat) : (s.reach n).fbl = s.fbl := rfl
@[simp] theorem State.reach_alm (n : Nat) : (s.reach n).alm = s.alm := rfl
@[simp] theorem State.reach_src (n : Nat) : (s.reach n).src = { s.src with clockPhase := if s.src.clock.isSome then s.src.clockPhase + (n - s.uptime) else s.src.clockPhase } := rfl
@[simp] theorem State.reach_lnk (n : Nat) : (s.reach n).lnk = s.lnk := rfl
@[simp] theorem State.reach_cfg (n : Nat) : (s.reach n).cfg = s.cfg := rfl
@[simp] theorem State.reach_uptime (n : Nat) : (s.reach n).uptime = max s.uptime n := by
  simp only [State.reach, State.elapse]; omega

/-! ### setChan -/

@[simp] theorem State.setChan_pending (ch : Channel) (r : ChannelRec) : (s.setChan ch r).pending = s.pending := rfl
@[simp] theorem State.setChan_isHeld (ch : Channel) (r : ChannelRec) : (s.setChan ch r).isHeld = s.isHeld := rfl
@[simp] theorem State.setChan_marker (ch : Channel) (r : ChannelRec) : (s.setChan ch r).marker = s.marker := rfl
@[simp] theorem State.setChan_uptime (ch : Channel) (r : ChannelRec) : (s.setChan ch r).uptime = s.uptime := rfl
@[simp] theorem State.setChan_inputs (ch : Channel) (r : ChannelRec) : (s.setChan ch r).inputs = s.inputs := rfl
@[simp] theorem State.setChan_lvu (ch : Channel) (r : ChannelRec) : (s.setChan ch r).lvu = s.lvu.setChan ch (some r) := rfl
@[simp] theorem State.setChan_dsq (ch : Channel) (r : ChannelRec) : (s.setChan ch r).dsq = s.dsq := rfl
@[simp] theorem State.setChan_spm (ch : Channel) (r : ChannelRec) : (s.setChan ch r).spm = s.spm := rfl
@[simp] theorem State.setChan_ppr (ch : Channel) (r : ChannelRec) : (s.setChan ch r).ppr = s.ppr := rfl
@[simp] theorem State.setChan_scr (ch : Channel) (r : ChannelRec) : (s.setChan ch r).scr = s.scr := rfl
@[simp] theorem State.setChan_ovm (ch : Channel) (r : ChannelRec) : (s.setChan ch r).ovm = s.ovm := rfl
@[simp] theorem State.setChan_fbl (ch : Channel) (r : ChannelRec) : (s.setChan ch r).fbl = s.fbl := rfl
@[simp] theorem State.setChan_alm (ch : Channel) (r : ChannelRec) : (s.setChan ch r).alm = s.alm := rfl
@[simp] theorem State.setChan_src (ch : Channel) (r : ChannelRec) : (s.setChan ch r).src = s.src := rfl
@[simp] theorem State.setChan_lnk (ch : Channel) (r : ChannelRec) : (s.setChan ch r).lnk = s.lnk := rfl
@[simp] theorem State.setChan_cfg (ch : Channel) (r : ChannelRec) : (s.setChan ch r).cfg = s.cfg := rfl

/-! ### modDuty -/

@[simp] theorem State.modDuty_pending (p : Pump) (f : DutyPump → DutyPump) : (s.modDuty p f).pending = s.pending := rfl
@[simp] theorem State.modDuty_isHeld (p : Pump) (f : DutyPump → DutyPump) : (s.modDuty p f).isHeld = s.isHeld := rfl
@[simp] theorem State.modDuty_marker (p : Pump) (f : DutyPump → DutyPump) : (s.modDuty p f).marker = s.marker := rfl
@[simp] theorem State.modDuty_uptime (p : Pump) (f : DutyPump → DutyPump) : (s.modDuty p f).uptime = s.uptime := rfl
@[simp] theorem State.modDuty_inputs (p : Pump) (f : DutyPump → DutyPump) : (s.modDuty p f).inputs = s.inputs := rfl
@[simp] theorem State.modDuty_lvu (p : Pump) (f : DutyPump → DutyPump) : (s.modDuty p f).lvu = s.lvu := rfl
@[simp] theorem State.modDuty_dsq (p : Pump) (f : DutyPump → DutyPump) : (s.modDuty p f).dsq = { s.dsq with pumps := s.dsq.pumps.modify p f } := rfl
@[simp] theorem State.modDuty_spm (p : Pump) (f : DutyPump → DutyPump) : (s.modDuty p f).spm = s.spm := rfl
@[simp] theorem State.modDuty_ppr (p : Pump) (f : DutyPump → DutyPump) : (s.modDuty p f).ppr = s.ppr := rfl
@[simp] theorem State.modDuty_scr (p : Pump) (f : DutyPump → DutyPump) : (s.modDuty p f).scr = s.scr := rfl
@[simp] theorem State.modDuty_ovm (p : Pump) (f : DutyPump → DutyPump) : (s.modDuty p f).ovm = s.ovm := rfl
@[simp] theorem State.modDuty_fbl (p : Pump) (f : DutyPump → DutyPump) : (s.modDuty p f).fbl = s.fbl := rfl
@[simp] theorem State.modDuty_alm (p : Pump) (f : DutyPump → DutyPump) : (s.modDuty p f).alm = s.alm := rfl
@[simp] theorem State.modDuty_src (p : Pump) (f : DutyPump → DutyPump) : (s.modDuty p f).src = s.src := rfl
@[simp] theorem State.modDuty_lnk (p : Pump) (f : DutyPump → DutyPump) : (s.modDuty p f).lnk = s.lnk := rfl
@[simp] theorem State.modDuty_cfg (p : Pump) (f : DutyPump → DutyPump) : (s.modDuty p f).cfg = s.cfg := rfl

/-! ### modProt -/

@[simp] theorem State.modProt_pending (p : Pump) (f : ProtectedPump → ProtectedPump) : (s.modProt p f).pending = s.pending := rfl
@[simp] theorem State.modProt_isHeld (p : Pump) (f : ProtectedPump → ProtectedPump) : (s.modProt p f).isHeld = s.isHeld := rfl
@[simp] theorem State.modProt_marker (p : Pump) (f : ProtectedPump → ProtectedPump) : (s.modProt p f).marker = s.marker := rfl
@[simp] theorem State.modProt_uptime (p : Pump) (f : ProtectedPump → ProtectedPump) : (s.modProt p f).uptime = s.uptime := rfl
@[simp] theorem State.modProt_inputs (p : Pump) (f : ProtectedPump → ProtectedPump) : (s.modProt p f).inputs = s.inputs := rfl
@[simp] theorem State.modProt_lvu (p : Pump) (f : ProtectedPump → ProtectedPump) : (s.modProt p f).lvu = s.lvu := rfl
@[simp] theorem State.modProt_dsq (p : Pump) (f : ProtectedPump → ProtectedPump) : (s.modProt p f).dsq = s.dsq := rfl
@[simp] theorem State.modProt_spm (p : Pump) (f : ProtectedPump → ProtectedPump) : (s.modProt p f).spm = s.spm := rfl
@[simp] theorem State.modProt_ppr (p : Pump) (f : ProtectedPump → ProtectedPump) : (s.modProt p f).ppr = s.ppr.modify p f := rfl
@[simp] theorem State.modProt_scr (p : Pump) (f : ProtectedPump → ProtectedPump) : (s.modProt p f).scr = s.scr := rfl
@[simp] theorem State.modProt_ovm (p : Pump) (f : ProtectedPump → ProtectedPump) : (s.modProt p f).ovm = s.ovm := rfl
@[simp] theorem State.modProt_fbl (p : Pump) (f : ProtectedPump → ProtectedPump) : (s.modProt p f).fbl = s.fbl := rfl
@[simp] theorem State.modProt_alm (p : Pump) (f : ProtectedPump → ProtectedPump) : (s.modProt p f).alm = s.alm := rfl
@[simp] theorem State.modProt_src (p : Pump) (f : ProtectedPump → ProtectedPump) : (s.modProt p f).src = s.src := rfl
@[simp] theorem State.modProt_lnk (p : Pump) (f : ProtectedPump → ProtectedPump) : (s.modProt p f).lnk = s.lnk := rfl
@[simp] theorem State.modProt_cfg (p : Pump) (f : ProtectedPump → ProtectedPump) : (s.modProt p f).cfg = s.cfg := rfl

/-! ### modScreen -/

@[simp] theorem State.modScreen_pending (sc : Screen) (f : ScreenRec → ScreenRec) : (s.modScreen sc f).pending = s.pending := rfl
@[simp] theorem State.modScreen_isHeld (sc : Screen) (f : ScreenRec → ScreenRec) : (s.modScreen sc f).isHeld = s.isHeld := rfl
@[simp] theorem State.modScreen_marker (sc : Screen) (f : ScreenRec → ScreenRec) : (s.modScreen sc f).marker = s.marker := rfl
@[simp] theorem State.modScreen_uptime (sc : Screen) (f : ScreenRec → ScreenRec) : (s.modScreen sc f).uptime = s.uptime := rfl
@[simp] theorem State.modScreen_inputs (sc : Screen) (f : ScreenRec → ScreenRec) : (s.modScreen sc f).inputs = s.inputs := rfl
@[simp] theorem State.modScreen_lvu (sc : Screen) (f : ScreenRec → ScreenRec) : (s.modScreen sc f).lvu = s.lvu := rfl
@[simp] theorem State.modScreen_dsq (sc : Screen) (f : ScreenRec → ScreenRec) : (s.modScreen sc f).dsq = s.dsq := rfl
@[simp] theorem State.modScreen_spm (sc : Screen) (f : ScreenRec → ScreenRec) : (s.modScreen sc f).spm = s.spm := rfl
@[simp] theorem State.modScreen_ppr (sc : Screen) (f : ScreenRec → ScreenRec) : (s.modScreen sc f).ppr = s.ppr := rfl
@[simp] theorem State.modScreen_scr (sc : Screen) (f : ScreenRec → ScreenRec) : (s.modScreen sc f).scr = { s.scr with screens := s.scr.screens.modify sc (Option.map f) } := rfl
@[simp] theorem State.modScreen_ovm (sc : Screen) (f : ScreenRec → ScreenRec) : (s.modScreen sc f).ovm = s.ovm := rfl
@[simp] theorem State.modScreen_fbl (sc : Screen) (f : ScreenRec → ScreenRec) : (s.modScreen sc f).fbl = s.fbl := rfl
@[simp] theorem State.modScreen_alm (sc : Screen) (f : ScreenRec → ScreenRec) : (s.modScreen sc f).alm = s.alm := rfl
@[simp] theorem State.modScreen_src (sc : Screen) (f : ScreenRec → ScreenRec) : (s.modScreen sc f).src = s.src := rfl
@[simp] theorem State.modScreen_lnk (sc : Screen) (f : ScreenRec → ScreenRec) : (s.modScreen sc f).lnk = s.lnk := rfl
@[simp] theorem State.modScreen_cfg (sc : Screen) (f : ScreenRec → ScreenRec) : (s.modScreen sc f).cfg = s.cfg := rfl

/-! ### modPoint -/

@[simp] theorem State.modPoint_pending (pt : Point) (f : PointRec → PointRec) : (s.modPoint pt f).pending = s.pending := rfl
@[simp] theorem State.modPoint_isHeld (pt : Point) (f : PointRec → PointRec) : (s.modPoint pt f).isHeld = s.isHeld := rfl
@[simp] theorem State.modPoint_marker (pt : Point) (f : PointRec → PointRec) : (s.modPoint pt f).marker = s.marker := rfl
@[simp] theorem State.modPoint_uptime (pt : Point) (f : PointRec → PointRec) : (s.modPoint pt f).uptime = s.uptime := rfl
@[simp] theorem State.modPoint_inputs (pt : Point) (f : PointRec → PointRec) : (s.modPoint pt f).inputs = s.inputs := rfl
@[simp] theorem State.modPoint_lvu (pt : Point) (f : PointRec → PointRec) : (s.modPoint pt f).lvu = s.lvu := rfl
@[simp] theorem State.modPoint_dsq (pt : Point) (f : PointRec → PointRec) : (s.modPoint pt f).dsq = s.dsq := rfl
@[simp] theorem State.modPoint_spm (pt : Point) (f : PointRec → PointRec) : (s.modPoint pt f).spm = s.spm := rfl
@[simp] theorem State.modPoint_ppr (pt : Point) (f : PointRec → PointRec) : (s.modPoint pt f).ppr = s.ppr := rfl
@[simp] theorem State.modPoint_scr (pt : Point) (f : PointRec → PointRec) : (s.modPoint pt f).scr = s.scr := rfl
@[simp] theorem State.modPoint_ovm (pt : Point) (f : PointRec → PointRec) : (s.modPoint pt f).ovm = { s.ovm with points := s.ovm.points.modify pt (Option.map f) } := rfl
@[simp] theorem State.modPoint_fbl (pt : Point) (f : PointRec → PointRec) : (s.modPoint pt f).fbl = s.fbl := rfl
@[simp] theorem State.modPoint_alm (pt : Point) (f : PointRec → PointRec) : (s.modPoint pt f).alm = s.alm := rfl
@[simp] theorem State.modPoint_src (pt : Point) (f : PointRec → PointRec) : (s.modPoint pt f).src = s.src := rfl
@[simp] theorem State.modPoint_lnk (pt : Point) (f : PointRec → PointRec) : (s.modPoint pt f).lnk = s.lnk := rfl
@[simp] theorem State.modPoint_cfg (pt : Point) (f : PointRec → PointRec) : (s.modPoint pt f).cfg = s.cfg := rfl

/-! ### modLink -/

@[simp] theorem State.modLink_pending (l : Link) (f : LinkRec → LinkRec) : (s.modLink l f).pending = s.pending := rfl
@[simp] theorem State.modLink_isHeld (l : Link) (f : LinkRec → LinkRec) : (s.modLink l f).isHeld = s.isHeld := rfl
@[simp] theorem State.modLink_marker (l : Link) (f : LinkRec → LinkRec) : (s.modLink l f).marker = s.marker := rfl
@[simp] theorem State.modLink_uptime (l : Link) (f : LinkRec → LinkRec) : (s.modLink l f).uptime = s.uptime := rfl
@[simp] theorem State.modLink_inputs (l : Link) (f : LinkRec → LinkRec) : (s.modLink l f).inputs = s.inputs := rfl
@[simp] theorem State.modLink_lvu (l : Link) (f : LinkRec → LinkRec) : (s.modLink l f).lvu = s.lvu := rfl
@[simp] theorem State.modLink_dsq (l : Link) (f : LinkRec → LinkRec) : (s.modLink l f).dsq = s.dsq := rfl
@[simp] theorem State.modLink_spm (l : Link) (f : LinkRec → LinkRec) : (s.modLink l f).spm = s.spm := rfl
@[simp] theorem State.modLink_ppr (l : Link) (f : LinkRec → LinkRec) : (s.modLink l f).ppr = s.ppr := rfl
@[simp] theorem State.modLink_scr (l : Link) (f : LinkRec → LinkRec) : (s.modLink l f).scr = s.scr := rfl
@[simp] theorem State.modLink_ovm (l : Link) (f : LinkRec → LinkRec) : (s.modLink l f).ovm = s.ovm := rfl
@[simp] theorem State.modLink_fbl (l : Link) (f : LinkRec → LinkRec) : (s.modLink l f).fbl = s.fbl := rfl
@[simp] theorem State.modLink_alm (l : Link) (f : LinkRec → LinkRec) : (s.modLink l f).alm = s.alm := rfl
@[simp] theorem State.modLink_src (l : Link) (f : LinkRec → LinkRec) : (s.modLink l f).src = s.src := rfl
@[simp] theorem State.modLink_lnk (l : Link) (f : LinkRec → LinkRec) : (s.modLink l f).lnk = { s.lnk with links := s.lnk.links.modify l f } := rfl
@[simp] theorem State.modLink_cfg (l : Link) (f : LinkRec → LinkRec) : (s.modLink l f).cfg = s.cfg := rfl

/-! ### modFbl -/

@[simp] theorem State.modFbl_pending (f : FlowBalance → FlowBalance) : (s.modFbl f).pending = s.pending := rfl
@[simp] theorem State.modFbl_isHeld (f : FlowBalance → FlowBalance) : (s.modFbl f).isHeld = s.isHeld := rfl
@[simp] theorem State.modFbl_marker (f : FlowBalance → FlowBalance) : (s.modFbl f).marker = s.marker := rfl
@[simp] theorem State.modFbl_uptime (f : FlowBalance → FlowBalance) : (s.modFbl f).uptime = s.uptime := rfl
@[simp] theorem State.modFbl_inputs (f : FlowBalance → FlowBalance) : (s.modFbl f).inputs = s.inputs := rfl
@[simp] theorem State.modFbl_lvu (f : FlowBalance → FlowBalance) : (s.modFbl f).lvu = s.lvu := rfl
@[simp] theorem State.modFbl_dsq (f : FlowBalance → FlowBalance) : (s.modFbl f).dsq = s.dsq := rfl
@[simp] theorem State.modFbl_spm (f : FlowBalance → FlowBalance) : (s.modFbl f).spm = s.spm := rfl
@[simp] theorem State.modFbl_ppr (f : FlowBalance → FlowBalance) : (s.modFbl f).ppr = s.ppr := rfl
@[simp] theorem State.modFbl_scr (f : FlowBalance → FlowBalance) : (s.modFbl f).scr = s.scr := rfl
@[simp] theorem State.modFbl_ovm (f : FlowBalance → FlowBalance) : (s.modFbl f).ovm = s.ovm := rfl
@[simp] theorem State.modFbl_fbl (f : FlowBalance → FlowBalance) : (s.modFbl f).fbl = f s.fbl := rfl
@[simp] theorem State.modFbl_alm (f : FlowBalance → FlowBalance) : (s.modFbl f).alm = s.alm := rfl
@[simp] theorem State.modFbl_src (f : FlowBalance → FlowBalance) : (s.modFbl f).src = s.src := rfl
@[simp] theorem State.modFbl_lnk (f : FlowBalance → FlowBalance) : (s.modFbl f).lnk = s.lnk := rfl
@[simp] theorem State.modFbl_cfg (f : FlowBalance → FlowBalance) : (s.modFbl f).cfg = s.cfg := rfl

/-! ### modSrc -/

@[simp] theorem State.modSrc_pending (f : StationRecord → StationRecord) : (s.modSrc f).pending = s.pending := rfl
@[simp] theorem State.modSrc_isHeld (f : StationRecord → StationRecord) : (s.modSrc f).isHeld = s.isHeld := rfl
@[simp] theorem State.modSrc_marker (f : StationRecord → StationRecord) : (s.modSrc f).marker = s.marker := rfl
@[simp] theorem State.modSrc_uptime (f : StationRecord → StationRecord) : (s.modSrc f).uptime = s.uptime := rfl
@[simp] theorem State.modSrc_inputs (f : StationRecord → StationRecord) : (s.modSrc f).inputs = s.inputs := rfl
@[simp] theorem State.modSrc_lvu (f : StationRecord → StationRecord) : (s.modSrc f).lvu = s.lvu := rfl
@[simp] theorem State.modSrc_dsq (f : StationRecord → StationRecord) : (s.modSrc f).dsq = s.dsq := rfl
@[simp] theorem State.modSrc_spm (f : StationRecord → StationRecord) : (s.modSrc f).spm = s.spm := rfl
@[simp] theorem State.modSrc_ppr (f : StationRecord → StationRecord) : (s.modSrc f).ppr = s.ppr := rfl
@[simp] theorem State.modSrc_scr (f : StationRecord → StationRecord) : (s.modSrc f).scr = s.scr := rfl
@[simp] theorem State.modSrc_ovm (f : StationRecord → StationRecord) : (s.modSrc f).ovm = s.ovm := rfl
@[simp] theorem State.modSrc_fbl (f : StationRecord → StationRecord) : (s.modSrc f).fbl = s.fbl := rfl
@[simp] theorem State.modSrc_alm (f : StationRecord → StationRecord) : (s.modSrc f).alm = s.alm := rfl
@[simp] theorem State.modSrc_src (f : StationRecord → StationRecord) : (s.modSrc f).src = f s.src := rfl
@[simp] theorem State.modSrc_lnk (f : StationRecord → StationRecord) : (s.modSrc f).lnk = s.lnk := rfl
@[simp] theorem State.modSrc_cfg (f : StationRecord → StationRecord) : (s.modSrc f).cfg = s.cfg := rfl

/-! ### report -/

@[simp] theorem State.report_pending (k : Category) : (s.report k).pending = s.pending := rfl
@[simp] theorem State.report_isHeld (k : Category) : (s.report k).isHeld = s.isHeld := rfl
@[simp] theorem State.report_marker (k : Category) : (s.report k).marker = s.marker := rfl
@[simp] theorem State.report_uptime (k : Category) : (s.report k).uptime = s.uptime := rfl
@[simp] theorem State.report_inputs (k : Category) : (s.report k).inputs = s.inputs := rfl
@[simp] theorem State.report_lvu (k : Category) : (s.report k).lvu = s.lvu := rfl
@[simp] theorem State.report_dsq (k : Category) : (s.report k).dsq = s.dsq := rfl
@[simp] theorem State.report_spm (k : Category) : (s.report k).spm = s.spm := rfl
@[simp] theorem State.report_ppr (k : Category) : (s.report k).ppr = s.ppr := rfl
@[simp] theorem State.report_scr (k : Category) : (s.report k).scr = s.scr := rfl
@[simp] theorem State.report_ovm (k : Category) : (s.report k).ovm = s.ovm := rfl
@[simp] theorem State.report_fbl (k : Category) : (s.report k).fbl = s.fbl := rfl
@[simp] theorem State.report_alm (k : Category) : (s.report k).alm = { s.alm with changes := s.alm.changes.mapBoth (·.insert k) } := rfl
@[simp] theorem State.report_src (k : Category) : (s.report k).src = s.src := rfl
@[simp] theorem State.report_lnk (k : Category) : (s.report k).lnk = s.lnk := rfl
@[simp] theorem State.report_cfg (k : Category) : (s.report k).cfg = s.cfg := rfl

/-! ### setPoint -/

@[simp] theorem State.setPoint_pending (a : AlarmPoint) (e : PointEntry) : (s.setPoint a e).pending = s.pending := rfl
@[simp] theorem State.setPoint_isHeld (a : AlarmPoint) (e : PointEntry) : (s.setPoint a e).isHeld = s.isHeld := rfl
@[simp] theorem State.setPoint_marker (a : AlarmPoint) (e : PointEntry) : (s.setPoint a e).marker = s.marker := rfl
@[simp] theorem State.setPoint_uptime (a : AlarmPoint) (e : PointEntry) : (s.setPoint a e).uptime = s.uptime := rfl
@[simp] theorem State.setPoint_inputs (a : AlarmPoint) (e : PointEntry) : (s.setPoint a e).inputs = s.inputs := rfl
@[simp] theorem State.setPoint_lvu (a : AlarmPoint) (e : PointEntry) : (s.setPoint a e).lvu = s.lvu := rfl
@[simp] theorem State.setPoint_dsq (a : AlarmPoint) (e : PointEntry) : (s.setPoint a e).dsq = s.dsq := rfl
@[simp] theorem State.setPoint_spm (a : AlarmPoint) (e : PointEntry) : (s.setPoint a e).spm = s.spm := rfl
@[simp] theorem State.setPoint_ppr (a : AlarmPoint) (e : PointEntry) : (s.setPoint a e).ppr = s.ppr := rfl
@[simp] theorem State.setPoint_scr (a : AlarmPoint) (e : PointEntry) : (s.setPoint a e).scr = s.scr := rfl
@[simp] theorem State.setPoint_ovm (a : AlarmPoint) (e : PointEntry) : (s.setPoint a e).ovm = s.ovm := rfl
@[simp] theorem State.setPoint_fbl (a : AlarmPoint) (e : PointEntry) : (s.setPoint a e).fbl = s.fbl := rfl
@[simp] theorem State.setPoint_alm (a : AlarmPoint) (e : PointEntry) : (s.setPoint a e).alm = { s.alm with points := s.alm.points.set a.index e } := rfl
@[simp] theorem State.setPoint_src (a : AlarmPoint) (e : PointEntry) : (s.setPoint a e).src = s.src := rfl
@[simp] theorem State.setPoint_lnk (a : AlarmPoint) (e : PointEntry) : (s.setPoint a e).lnk = s.lnk := rfl
@[simp] theorem State.setPoint_cfg (a : AlarmPoint) (e : PointEntry) : (s.setPoint a e).cfg = s.cfg := rfl

/-! ### judgeOutputs -/

@[simp] theorem State.judgeOutputs_pending : (s.judgeOutputs).pending = s.pending := rfl
@[simp] theorem State.judgeOutputs_isHeld : (s.judgeOutputs).isHeld = s.isHeld := rfl
@[simp] theorem State.judgeOutputs_marker : (s.judgeOutputs).marker = s.marker := rfl
@[simp] theorem State.judgeOutputs_uptime : (s.judgeOutputs).uptime = s.uptime := rfl
@[simp] theorem State.judgeOutputs_inputs : (s.judgeOutputs).inputs = s.inputs := rfl
@[simp] theorem State.judgeOutputs_lvu : (s.judgeOutputs).lvu = s.lvu := rfl
@[simp] theorem State.judgeOutputs_dsq : (s.judgeOutputs).dsq = s.dsq := rfl
@[simp] theorem State.judgeOutputs_spm : (s.judgeOutputs).spm = s.spm := rfl
@[simp] theorem State.judgeOutputs_ppr : (s.judgeOutputs).ppr = s.ppr := rfl
@[simp] theorem State.judgeOutputs_scr : (s.judgeOutputs).scr = s.scr := rfl
@[simp] theorem State.judgeOutputs_ovm : (s.judgeOutputs).ovm = s.ovm := rfl
@[simp] theorem State.judgeOutputs_fbl : (s.judgeOutputs).fbl = s.fbl := rfl
@[simp] theorem State.judgeOutputs_alm : (s.judgeOutputs).alm = { s.alm with outputs := ⟨s.outputNow .n1, s.outputNow .n2, s.outputNow .n3, s.outputNow .n4⟩ } := rfl
@[simp] theorem State.judgeOutputs_src : (s.judgeOutputs).src = s.src := rfl
@[simp] theorem State.judgeOutputs_lnk : (s.judgeOutputs).lnk = s.lnk := rfl
@[simp] theorem State.judgeOutputs_cfg : (s.judgeOutputs).cfg = s.cfg := rfl

/-! ### credit -/

@[simp] theorem State.credit_pending (f : Accumulators → Accumulators) : (s.credit f).pending = s.pending := rfl
@[simp] theorem State.credit_isHeld (f : Accumulators → Accumulators) : (s.credit f).isHeld = s.isHeld := rfl
@[simp] theorem State.credit_marker (f : Accumulators → Accumulators) : (s.credit f).marker = s.marker := rfl
@[simp] theorem State.credit_uptime (f : Accumulators → Accumulators) : (s.credit f).uptime = s.uptime := rfl
@[simp] theorem State.credit_inputs (f : Accumulators → Accumulators) : (s.credit f).inputs = s.inputs := rfl
@[simp] theorem State.credit_lvu (f : Accumulators → Accumulators) : (s.credit f).lvu = s.lvu := rfl
@[simp] theorem State.credit_dsq (f : Accumulators → Accumulators) : (s.credit f).dsq = s.dsq := rfl
@[simp] theorem State.credit_spm (f : Accumulators → Accumulators) : (s.credit f).spm = s.spm := rfl
@[simp] theorem State.credit_ppr (f : Accumulators → Accumulators) : (s.credit f).ppr = s.ppr := rfl
@[simp] theorem State.credit_scr (f : Accumulators → Accumulators) : (s.credit f).scr = s.scr := rfl
@[simp] theorem State.credit_ovm (f : Accumulators → Accumulators) : (s.credit f).ovm = s.ovm := rfl
@[simp] theorem State.credit_fbl (f : Accumulators → Accumulators) : (s.credit f).fbl = s.fbl := rfl
@[simp] theorem State.credit_alm (f : Accumulators → Accumulators) : (s.credit f).alm = s.alm := rfl
@[simp] theorem State.credit_src (f : Accumulators → Accumulators) : (s.credit f).src = { s.src with acc := f s.src.acc } := rfl
@[simp] theorem State.credit_lnk (f : Accumulators → Accumulators) : (s.credit f).lnk = s.lnk := rfl
@[simp] theorem State.credit_cfg (f : Accumulators → Accumulators) : (s.credit f).cfg = s.cfg := rfl

/-! ### join -/

@[simp] theorem State.join_pending (who : Requester) : (s.join who).pending = s.pending := rfl
@[simp] theorem State.join_isHeld (who : Requester) : (s.join who).isHeld = s.isHeld := rfl
@[simp] theorem State.join_marker (who : Requester) : (s.join who).marker = s.marker := rfl
@[simp] theorem State.join_uptime (who : Requester) : (s.join who).uptime = s.uptime := rfl
@[simp] theorem State.join_inputs (who : Requester) : (s.join who).inputs = s.inputs := rfl
@[simp] theorem State.join_lvu (who : Requester) : (s.join who).lvu = s.lvu := rfl
@[simp] theorem State.join_dsq (who : Requester) : (s.join who).dsq = s.dsq := rfl
@[simp] theorem State.join_spm (who : Requester) : (s.join who).spm = { s.spm with waiting := s.spm.waiting ++ [⟨who, s.uptime⟩] } := rfl
@[simp] theorem State.join_ppr (who : Requester) : (s.join who).ppr = s.ppr := rfl
@[simp] theorem State.join_scr (who : Requester) : (s.join who).scr = s.scr := rfl
@[simp] theorem State.join_ovm (who : Requester) : (s.join who).ovm = s.ovm := rfl
@[simp] theorem State.join_fbl (who : Requester) : (s.join who).fbl = s.fbl := rfl
@[simp] theorem State.join_alm (who : Requester) : (s.join who).alm = s.alm := rfl
@[simp] theorem State.join_src (who : Requester) : (s.join who).src = s.src := rfl
@[simp] theorem State.join_lnk (who : Requester) : (s.join who).lnk = s.lnk := rfl
@[simp] theorem State.join_cfg (who : Requester) : (s.join who).cfg = s.cfg := rfl

/-! ### withdraw -/

@[simp] theorem State.withdraw_pending (who : Requester) : (s.withdraw who).pending = s.pending := rfl
@[simp] theorem State.withdraw_isHeld (who : Requester) : (s.withdraw who).isHeld = s.isHeld := rfl
@[simp] theorem State.withdraw_marker (who : Requester) : (s.withdraw who).marker = s.marker := rfl
@[simp] theorem State.withdraw_uptime (who : Requester) : (s.withdraw who).uptime = s.uptime := rfl
@[simp] theorem State.withdraw_inputs (who : Requester) : (s.withdraw who).inputs = s.inputs := rfl
@[simp] theorem State.withdraw_lvu (who : Requester) : (s.withdraw who).lvu = s.lvu := rfl
@[simp] theorem State.withdraw_dsq (who : Requester) : (s.withdraw who).dsq = s.dsq := rfl
@[simp] theorem State.withdraw_spm (who : Requester) : (s.withdraw who).spm = { s.spm with waiting := s.spm.waiting.filter fun r => r.who != who } := rfl
@[simp] theorem State.withdraw_ppr (who : Requester) : (s.withdraw who).ppr = s.ppr := rfl
@[simp] theorem State.withdraw_scr (who : Requester) : (s.withdraw who).scr = s.scr := rfl
@[simp] theorem State.withdraw_ovm (who : Requester) : (s.withdraw who).ovm = s.ovm := rfl
@[simp] theorem State.withdraw_fbl (who : Requester) : (s.withdraw who).fbl = s.fbl := rfl
@[simp] theorem State.withdraw_alm (who : Requester) : (s.withdraw who).alm = s.alm := rfl
@[simp] theorem State.withdraw_src (who : Requester) : (s.withdraw who).src = s.src := rfl
@[simp] theorem State.withdraw_lnk (who : Requester) : (s.withdraw who).lnk = s.lnk := rfl
@[simp] theorem State.withdraw_cfg (who : Requester) : (s.withdraw who).cfg = s.cfg := rfl

/-! ### outsideStart -/

@[simp] theorem State.outsideStart_pending (p : Pump) : (s.outsideStart p).pending = s.pending := rfl
@[simp] theorem State.outsideStart_isHeld (p : Pump) : (s.outsideStart p).isHeld = s.isHeld := rfl
@[simp] theorem State.outsideStart_marker (p : Pump) : (s.outsideStart p).marker = s.marker := rfl
@[simp] theorem State.outsideStart_uptime (p : Pump) : (s.outsideStart p).uptime = s.uptime := rfl
@[simp] theorem State.outsideStart_inputs (p : Pump) : (s.outsideStart p).inputs = s.inputs := rfl
@[simp] theorem State.outsideStart_lvu (p : Pump) : (s.outsideStart p).lvu = s.lvu := rfl
@[simp] theorem State.outsideStart_dsq (p : Pump) : (s.outsideStart p).dsq = s.dsq := rfl
@[simp] theorem State.outsideStart_spm (p : Pump) : (s.outsideStart p).spm = { s.spm with permit := .spacing, spacingStart := s.uptime, lastOutside := some (p, s.uptime) } := rfl
@[simp] theorem State.outsideStart_ppr (p : Pump) : (s.outsideStart p).ppr = s.ppr := rfl
@[simp] theorem State.outsideStart_scr (p : Pump) : (s.outsideStart p).scr = s.scr := rfl
@[simp] theorem State.outsideStart_ovm (p : Pump) : (s.outsideStart p).ovm = s.ovm := rfl
@[simp] theorem State.outsideStart_fbl (p : Pump) : (s.outsideStart p).fbl = s.fbl := rfl
@[simp] theorem State.outsideStart_alm (p : Pump) : (s.outsideStart p).alm = s.alm := rfl
@[simp] theorem State.outsideStart_src (p : Pump) : (s.outsideStart p).src = s.src := rfl
@[simp] theorem State.outsideStart_lnk (p : Pump) : (s.outsideStart p).lnk = s.lnk := rfl
@[simp] theorem State.outsideStart_cfg (p : Pump) : (s.outsideStart p).cfg = s.cfg := rfl

/-! ### recordGrant -/

@[simp] theorem State.recordGrant_pending (who : Requester) : (s.recordGrant who).pending = s.pending := rfl
@[simp] theorem State.recordGrant_isHeld (who : Requester) : (s.recordGrant who).isHeld = s.isHeld := rfl
@[simp] theorem State.recordGrant_marker (who : Requester) : (s.recordGrant who).marker = s.marker := rfl
@[simp] theorem State.recordGrant_uptime (who : Requester) : (s.recordGrant who).uptime = s.uptime := rfl
@[simp] theorem State.recordGrant_inputs (who : Requester) : (s.recordGrant who).inputs = s.inputs := rfl
@[simp] theorem State.recordGrant_lvu (who : Requester) : (s.recordGrant who).lvu = s.lvu := rfl
@[simp] theorem State.recordGrant_dsq (who : Requester) : (s.recordGrant who).dsq = s.dsq := rfl
@[simp] theorem State.recordGrant_spm (who : Requester) : (s.recordGrant who).spm = { s.spm with waiting := s.spm.waiting.filter fun r => r.who != who, permit := .spacing, spacingStart := s.uptime, lastGrant := some (who, s.uptime) } := rfl
@[simp] theorem State.recordGrant_ppr (who : Requester) : (s.recordGrant who).ppr = s.ppr := rfl
@[simp] theorem State.recordGrant_scr (who : Requester) : (s.recordGrant who).scr = s.scr := rfl
@[simp] theorem State.recordGrant_ovm (who : Requester) : (s.recordGrant who).ovm = s.ovm := rfl
@[simp] theorem State.recordGrant_fbl (who : Requester) : (s.recordGrant who).fbl = s.fbl := rfl
@[simp] theorem State.recordGrant_alm (who : Requester) : (s.recordGrant who).alm = s.alm := rfl
@[simp] theorem State.recordGrant_src (who : Requester) : (s.recordGrant who).src = s.src := rfl
@[simp] theorem State.recordGrant_lnk (who : Requester) : (s.recordGrant who).lnk = s.lnk := rfl
@[simp] theorem State.recordGrant_cfg (who : Requester) : (s.recordGrant who).cfg = s.cfg := rfl

/-! ### emptyChanges -/

@[simp] theorem State.emptyChanges_pending (l : Link) : (s.emptyChanges l).pending = s.pending := rfl
@[simp] theorem State.emptyChanges_isHeld (l : Link) : (s.emptyChanges l).isHeld = s.isHeld := rfl
@[simp] theorem State.emptyChanges_marker (l : Link) : (s.emptyChanges l).marker = s.marker := rfl
@[simp] theorem State.emptyChanges_uptime (l : Link) : (s.emptyChanges l).uptime = s.uptime := rfl
@[simp] theorem State.emptyChanges_inputs (l : Link) : (s.emptyChanges l).inputs = s.inputs := rfl
@[simp] theorem State.emptyChanges_lvu (l : Link) : (s.emptyChanges l).lvu = s.lvu := rfl
@[simp] theorem State.emptyChanges_dsq (l : Link) : (s.emptyChanges l).dsq = s.dsq := rfl
@[simp] theorem State.emptyChanges_spm (l : Link) : (s.emptyChanges l).spm = s.spm := rfl
@[simp] theorem State.emptyChanges_ppr (l : Link) : (s.emptyChanges l).ppr = s.ppr := rfl
@[simp] theorem State.emptyChanges_scr (l : Link) : (s.emptyChanges l).scr = s.scr := rfl
@[simp] theorem State.emptyChanges_ovm (l : Link) : (s.emptyChanges l).ovm = s.ovm := rfl
@[simp] theorem State.emptyChanges_fbl (l : Link) : (s.emptyChanges l).fbl = s.fbl := rfl
@[simp] theorem State.emptyChanges_alm (l : Link) : (s.emptyChanges l).alm = { s.alm with changes := s.alm.changes.set l .none } := rfl
@[simp] theorem State.emptyChanges_src (l : Link) : (s.emptyChanges l).src = s.src := rfl
@[simp] theorem State.emptyChanges_lnk (l : Link) : (s.emptyChanges l).lnk = s.lnk := rfl
@[simp] theorem State.emptyChanges_cfg (l : Link) : (s.emptyChanges l).cfg = s.cfg := rfl

end Sys2Proof.Machine
end

