-- ==== Sys2Proof/Laws/Only.lean ====
section
/-! SUPPORT. Which parts of the state each shared operation may change: one lemma per operation, to be cited in place of unfolding
it. `OnlyIn` composes along a chain of operations and through a choice. -/

namespace Sys2Proof.Machine

-- One theorem after another: checked all at once, their many small decisions take more threads than the memory holds.
set_option Elab.async false

/-! ## Composition -/

theorem OnlyIn.refl (bs : List Block) (s : State) : OnlyIn bs s s := fun b _ => by cases b <;> rfl

theorem Block.same_trans {b : Block} {s t u : State} (h : b.same s t) (k : b.same t u) : b.same s u := by
  cases b <;> simp_all [Block.same]

theorem OnlyIn.mono {as bs : List Block} {s t : State} (h : OnlyIn as s t) (k : as ⊆ bs) : OnlyIn bs s t :=
  fun b hb => h b fun ha => hb (k ha)

theorem OnlyIn.trans {bs : List Block} {s t u : State} (h : OnlyIn bs s t) (k : OnlyIn bs t u) : OnlyIn bs s u :=
  fun b hb => Block.same_trans (h b hb) (k b hb)

/-- One operation after another: each may change its own parts. -/
theorem OnlyIn.next {as bs cs : List Block} {s t u : State} (h : OnlyIn as s t) (k : OnlyIn bs t u)
    (ha : as ⊆ cs := by decide) (hb : bs ⊆ cs := by decide) : OnlyIn cs s u := (h.mono ha).trans (k.mono hb)

theorem OnlyIn.choose {bs : List Block} {s t u : State} (c : Prop) [Decidable c] (h : OnlyIn bs s t)
    (k : OnlyIn bs s u) : OnlyIn bs s (if c then t else u) := by split <;> assumption

theorem OnlyIn.when {bs : List Block} {s t : State} (c : Prop) [Decidable c] (h : OnlyIn bs s t) :
    OnlyIn bs s (if c then t else s) := .choose c h (.refl _ _)

/-- What holds of each change of a list holds of all of them in turn. -/
theorem OnlyIn.each {α : Type} {bs : List Block} {f : State → α → State} (h : ∀ s a, OnlyIn bs s (f s a))
    (xs : List α) (s : State) : OnlyIn bs s (s.each xs f) := by
  induction xs generalizing s with
  | nil => exact .refl _ _
  | cons a rest ih => exact (h s a).trans (ih (f s a))

/-- A change of one part. -/
theorem only_elapse (s : State) (n : Nat) : OnlyIn [.uptime, .src] s (s.elapse n) := by
  intro b hb; cases b <;> first | rfl | simp at hb

theorem only_reach (s : State) (n : Nat) : OnlyIn [.uptime, .src] s (s.reach n) := only_elapse s _

theorem only_inputs (s : State) (i : Inputs) : OnlyIn [.inputs] s { s with inputs := i } := by
  intro b hb; cases b <;> first | rfl | simp at hb

theorem only_lvu (s : State) (v : LevelUnit) : OnlyIn [.lvu] s { s with lvu := v } := by
  intro b hb; cases b <;> first | rfl | simp at hb

theorem only_dsq (s : State) (d : DutySequencer) : OnlyIn [.dsq] s { s with dsq := d } := by
  intro b hb; cases b <;> first | rfl | simp at hb

theorem only_spm (s : State) (p : StartPermit) : OnlyIn [.spm] s { s with spm := p } := by
  intro b hb; cases b <;> first | rfl | simp at hb

theorem only_scr (s : State) (c : ScreenController) : OnlyIn [.scr] s { s with scr := c } := by
  intro b hb; cases b <;> first | rfl | simp at hb

theorem only_fbl (s : State) (b : FlowBalance) : OnlyIn [.fbl] s { s with fbl := b } := by
  intro b hb; cases b <;> first | rfl | simp at hb

theorem only_src (s : State) (r : StationRecord) : OnlyIn [.src] s { s with src := r } := by
  intro b hb; cases b <;> first | rfl | simp at hb

theorem only_alm (s : State) (a : AlarmUnit) : OnlyIn [.alm] s { s with alm := a } := by
  intro b hb; cases b <;> first | rfl | simp at hb

theorem only_lnk (s : State) (l : LinkInterface) : OnlyIn [.lnk] s { s with lnk := l } := by
  intro b hb; cases b <;> first | rfl | simp at hb

theorem only_cfg (s : State) (c : SettingsStore) : OnlyIn [.cfg] s { s with cfg := c } := by
  intro b hb; cases b <;> first | rfl | simp at hb

theorem only_setChan (s : State) (ch : Channel) (r : ChannelRec) : OnlyIn [.lvu] s (s.setChan ch r) := only_lvu s _

theorem only_modDuty (s : State) (p : Pump) (f : DutyPump → DutyPump) : OnlyIn [.dsq] s (s.modDuty p f) := only_dsq s _

theorem only_modProt (s : State) (p : Pump) (f : ProtectedPump → ProtectedPump) : OnlyIn [.ppr] s (s.modProt p f) := by
  intro b hb; cases b <;> first | rfl | simp at hb

theorem only_modScreen (s : State) (sc : Screen) (f : ScreenRec → ScreenRec) : OnlyIn [.scr] s (s.modScreen sc f) :=
  only_scr s _

theorem only_modPoint (s : State) (pt : Point) (f : PointRec → PointRec) : OnlyIn [.ovm] s (s.modPoint pt f) := by
  intro b hb; cases b <;> first | rfl | simp at hb

theorem only_modLink (s : State) (l : Link) (f : LinkRec → LinkRec) : OnlyIn [.lnk] s (s.modLink l f) := only_lnk s _

theorem only_modFbl (s : State) (f : FlowBalance → FlowBalance) : OnlyIn [.fbl] s (s.modFbl f) := only_fbl s _

theorem only_modSrc (s : State) (f : StationRecord → StationRecord) : OnlyIn [.src] s (s.modSrc f) := only_src s _

/-! ## Alarm points and change sets -/

theorem only_report (s : State) (k : Category) : OnlyIn [.alm] s (s.report k) := only_alm s _

theorem only_reportIf (s : State) (c : Bool) (k : Category) : OnlyIn [.alm] s (s.reportIf c k) :=
  .when (c = true) (only_report s k)

theorem only_setPoint (s : State) (a : AlarmPoint) (e : PointEntry) : OnlyIn [.alm] s (s.setPoint a e) := only_alm s _

theorem only_judgeOutputs (s : State) : OnlyIn [.alm] s s.judgeOutputs := only_alm s _

theorem only_setCondition (s : State) (a : AlarmPoint) (b : Bool) : OnlyIn [.alm] s (s.setCondition a b) :=
  .choose _ (.refl _ _) (((only_setPoint s a _).trans (only_report _ _)).trans (only_judgeOutputs _))

theorem only_clearPoint (s : State) (a : AlarmPoint) : OnlyIn [.alm] s (s.clearPoint a) :=
  .choose _ (.refl _ _) ((only_setPoint s a _).trans (only_report _ _))

theorem only_ackPoint (s : State) (src : AckSource) (a : AlarmPoint) : OnlyIn [.alm] s (s.ackPoint src a) := by
  unfold State.ackPoint
  split
  · exact (only_setPoint s a _).trans (only_report _ _)
  · exact .refl _ _

theorem only_acknowledge (s : State) (src : AckSource) (as : List AlarmPoint) :
    OnlyIn [.alm] s (s.acknowledge src as) :=
  (OnlyIn.each (fun s a => only_ackPoint s src a) _ s).trans (only_judgeOutputs _)

/-! ## Station Record -/

theorem only_append (s : State) (b : RecordBody) : OnlyIn [.src, .alm] s (s.append b) :=
  (only_modSrc s _).next (only_report _ _)

theorem only_credit (s : State) (f : Accumulators → Accumulators) : OnlyIn [.src] s (s.credit f) := only_modSrc s _

theorem only_offerPeak (s : State) : OnlyIn [.src] s s.offerPeak := by
  unfold State.offerPeak
  split
  · exact only_credit _ _
  · exact .refl _ _

theorem only_crossDay (s : State) : OnlyIn [.ovm] s s.crossDay := .each (fun s pt => only_modPoint s pt _) _ s

theorem only_closeDay (s : State) (d : Date) (c : Bool) : OnlyIn [.src, .alm, .ovm] s (s.closeDay d c) :=
  OnlyIn.next (as := [.src, .alm]) (((only_append s _).next (cs := [.src, .alm]) (only_modSrc _ _)).next (only_offerPeak _))
    (only_crossDay _)

/-! ## Start Permit and screens -/

theorem only_join (s : State) (w : Requester) : OnlyIn [.spm] s (s.join w) := only_spm s _

theorem only_withdraw (s : State) (w : Requester) : OnlyIn [.spm] s (s.withdraw w) := only_spm s _

theorem only_recordGrant (s : State) (w : Requester) : OnlyIn [.spm] s (s.recordGrant w) := only_spm s _

theorem only_outsideStart (s : State) (p : Pump) : OnlyIn [.spm] s (s.outsideStart p) := only_spm s _

theorem only_setRake (s : State) (sc : Screen) (k : RakeState) : OnlyIn [.scr, .alm] s (s.setRake sc k) := by
  unfold State.setRake
  split
  · exact (only_modScreen s sc _).next (only_reportIf _ _ _)
  · exact .refl _ _

theorem only_jam (s : State) (sc : Screen) : OnlyIn [.scr, .alm] s (s.jam sc) :=
  (only_modScreen s sc _).next (only_setRake _ _ _)

theorem only_grantScreen (s : State) (sc : Screen) : OnlyIn [.scr, .alm] s (s.grantScreen sc) := by
  have h : ∀ f, OnlyIn [.scr, .alm] s ((s.modScreen sc f).setRake sc .forward) := fun f =>
    (only_modScreen s sc f).next (only_setRake _ _ _)
  exact .choose _ ((h _).trans (only_jam _ _)) (h _)

theorem only_askScreen (s : State) (sc : Screen) : OnlyIn [.scr, .spm, .alm] s (s.askScreen sc) := by
  unfold State.askScreen
  dsimp only
  split
  · exact ((only_setRake s sc _).next (only_recordGrant _ _)).next (cs := [.scr, .spm, .alm]) (only_grantScreen _ _)
      (List.Subset.refl _) (by decide)
  · exact (only_setRake s sc _).next (only_join _ _)

theorem only_failScreen (s : State) (sc : Screen) (c : RakeCause) :
    OnlyIn [.scr, .spm, .alm] s (s.failScreen sc c) :=
  (((only_modScreen s sc _).next (cs := [.scr, .spm, .alm]) (only_setRake _ _ _)).trans
    ((only_withdraw _ _).mono (by decide))).trans ((only_setCondition _ _ _).mono (by decide))

theorem only_fireUpTo (n : Nat) (s : State) : OnlyIn [.scr, .spm, .alm] s (s.fireUpTo n) := by
  induction n generalizing s with
  | zero => exact .refl _ _
  | succ n ih =>
    unfold State.fireUpTo
    refine .when _ ?_
    split
    · exact .choose _ ((only_failScreen s _ _).trans (ih _)) (only_askScreen s _)
    · exact .refl _ _

theorem only_fire (s : State) : OnlyIn [.scr, .spm, .alm] s s.fire := only_fireUpTo 2 s

theorem only_failAndFire (s : State) (sc : Screen) (c : RakeCause) :
    OnlyIn [.scr, .spm, .alm] s (s.failAndFire sc c) := (only_failScreen s sc c).trans (only_fire _)

theorem only_trigger (s : State) (sc : Screen) : OnlyIn [.scr, .spm, .alm] s (s.trigger sc) := by
  unfold State.trigger
  split
  · exact .choose _ (only_failAndFire s sc _) (only_askScreen s sc)
  all_goals first | exact (only_modScreen s sc _).mono (by decide) | exact .refl _ _

theorem only_completeCycle (s : State) (sc : Screen) :
    OnlyIn [.scr, .spm, .alm, .src] s (s.completeCycle sc) := by
  have h : ∀ f, OnlyIn [.scr, .spm, .alm, .src] s (((s.modScreen sc f).setRake sc .idle).credit (·.addCycle sc)) :=
    fun f => ((only_modScreen s sc f).next (cs := [.scr, .alm]) (only_setRake _ _ _)).next (only_credit _ _)
  exact .choose _ ((h _).trans ((only_trigger _ _).mono (by decide))) (h _)

theorem only_endBackoff (s : State) (sc : Screen) : OnlyIn [.scr, .spm, .alm, .src] s (s.endBackoff sc) := by
  have h : ∀ f, OnlyIn [.scr, .spm, .alm, .src] s (s.modScreen sc f) := fun f => (only_modScreen s sc f).mono (by decide)
  unfold State.endBackoff
  dsimp only
  split
  · exact (h _).trans ((only_askScreen _ _).mono (by decide))
  exact ((((only_modScreen s sc _).next (cs := [.scr, .alm]) (only_setRake _ _ _)).next (cs := [.scr, .alm])
    (only_setCondition _ _ _)).next (cs := [.scr, .alm, .src]) (only_append _ _)).next (only_fire _)

theorem only_setBlinded (s : State) (b : Blinded) : OnlyIn [.scr, .alm] s (s.setBlinded b) :=
  ((only_scr s _).next (cs := [.scr, .alm]) (only_reportIf _ _ _)).next (only_setCondition _ _ _)

theorem only_judgeBlinded (s : State) : OnlyIn [.scr, .alm] s s.judgeBlinded := by
  unfold State.judgeBlinded
  repeat' split
  all_goals (try dsimp only)
  all_goals (repeat' split)
  all_goals first | exact only_setBlinded s _ | exact .refl _ _

/-! ## Pumps -/

theorem only_judgeFaults (s : State) (p : Pump) : OnlyIn [.ppr, .alm] s (s.judgeFaults p) :=
  .when _ ((only_modProt s p _).next (only_reportIf _ _ _))

theorem only_setWatch (s : State) (p : Pump) (w : Watch) : OnlyIn [.ppr, .alm] s (s.setWatch p w) :=
  (only_modProt s p _).next (only_setCondition _ _ _)

theorem only_followRunning (s : State) (n : Nat) : OnlyIn [.fbl] s (s.followRunning n) :=
  .choose _ (only_modFbl s _) (.when _ (only_modFbl s _))

theorem only_setRun (s : State) (p : Pump) (r : RunState) : OnlyIn [.dsq, .fbl, .alm] s (s.setRun p r) :=
  ((only_modDuty s p _).next (cs := [.dsq, .alm]) (only_reportIf _ _ _)).next (only_followRunning _ _)

theorem only_dropPump (s : State) (p : Pump) : OnlyIn [.dsq, .ppr, .fbl, .alm] s (s.dropPump p) := by
  have h : ∀ f g, OnlyIn [.dsq, .ppr, .fbl, .alm] s (((s.modDuty p f).setRun p .stopped).modProt p g) := fun f g =>
    ((only_modDuty s p f).next (cs := [.dsq, .fbl, .alm]) (only_setRun _ _ _)).next (only_modProt _ _ _)
  exact (OnlyIn.choose _ ((h _ _).trans ((only_setWatch _ _ _).mono (by decide))) (h _ _)).trans
    ((only_judgeFaults _ _).mono (by decide))

theorem only_startConfirm (s : State) (p : Pump) : OnlyIn [.dsq, .ppr, .fbl, .alm] s (s.startConfirm p) :=
  ((only_setRun s p _).next (cs := [.dsq, .ppr, .fbl, .alm]) (only_modProt _ _ _)).trans
    ((only_judgeFaults _ _).mono (by decide))

theorem only_grantPump (s : State) (p : Pump) : OnlyIn [.dsq, .ppr, .fbl, .alm, .src] s (s.grantPump p) := by
  have h : ∀ f, OnlyIn [.dsq, .ppr, .fbl, .alm, .src] s
      ((((s.modDuty p f).setRun p .starting).credit (·.addStart p)).setWatch p .idle) := fun f =>
    (((only_modDuty s p f).next (cs := [.dsq, .fbl, .alm]) (only_setRun _ _ _)).next (cs := [.dsq, .fbl, .alm, .src])
      (only_credit _ _)).next (only_setWatch _ _ _)
  exact .choose _ ((h _).trans ((only_startConfirm _ _).mono (by decide))) ((h _).trans ((only_judgeFaults _ _).mono (by decide)))

theorem only_grantTo (s : State) (w : Requester) : OnlyIn [.dsq, .ppr, .scr, .fbl, .alm, .src] s (s.grantTo w) := by
  cases w with
  | pump p => exact (only_grantPump s p).mono (by decide)
  | screen sc => exact (only_grantScreen s sc).mono (by decide)

/-- The parts that a re-formation of the run set may change. -/
abbrev reformParts : List Block := [.dsq, .spm, .ppr, .scr, .fbl, .alm, .src]

theorem only_grantFirst (s : State) : OnlyIn reformParts s s.grantFirst := by
  unfold State.grantFirst
  split
  · exact (only_recordGrant s _).next (only_grantTo _ _)
  · exact .refl _ _

theorem only_expireSpacing (s : State) : OnlyIn reformParts s s.expireSpacing := by
  unfold State.expireSpacing
  split
  · exact only_grantFirst s
  · exact (only_spm s _).mono (by decide)

theorem only_setQueue (s : State) (q : List Pump) : OnlyIn [.dsq, .alm] s (s.setQueue q) :=
  (only_dsq s _).next (only_reportIf _ _ _)

theorem only_alternate (s : State) (n : Nat) : OnlyIn [.dsq, .alm] s (s.alternate n) := .when _ (only_setQueue s _)

theorem only_setOverride (s : State) (p : Pump) (o : Option Override) : OnlyIn [.dsq, .alm] s (s.setOverride p o) :=
  (only_modDuty s p _).next (only_reportIf _ _ _)

theorem only_unwait (s : State) (p : Pump) : OnlyIn [.dsq, .spm, .fbl, .alm] s (s.unwait p) :=
  (only_setRun s p _).next (only_withdraw _ _)

theorem only_leaveQueue (s : State) (p : Pump) : OnlyIn [.dsq, .spm, .ppr, .fbl, .alm] s (s.leaveQueue p) := by
  unfold State.leaveQueue
  dsimp only
  split
  · exact (only_setOverride s p _).next (only_unwait _ _)
  · exact (only_setOverride s p _).next (only_dropPump _ _)
  · exact (only_setOverride s p _).next (only_dropPump _ _)
  · exact (only_setOverride s p _).mono (by decide)

theorem only_requeue (s : State) (n : Nat) : OnlyIn [.dsq, .spm, .ppr, .fbl, .alm] s (s.requeue n) :=
  ((OnlyIn.each only_leaveQueue _ s).trans ((only_setQueue _ _).mono (by decide))).trans
    ((only_alternate _ _).mono (by decide))

theorem only_judgeCalls (s : State) : OnlyIn [.dsq] s s.judgeCalls := by
  unfold State.judgeCalls
  split
  · exact only_dsq s _
  · exact .refl _ _

theorem only_judgeStage (s : State) : OnlyIn [.dsq] s s.judgeStage := by
  unfold State.judgeStage
  split
  · exact only_dsq s _
  · exact .refl _ _

theorem only_stopPump (s : State) (p : Pump) : OnlyIn [.dsq, .ppr, .fbl, .alm] s (s.stopPump p) :=
  (only_dropPump s p).next (only_alternate _ _)

theorem only_settleRunSet (s : State) (m : List Pump) : OnlyIn [.dsq, .spm, .fbl, .alm] s (s.settleRunSet m) := by
  have ask : ∀ (v : State) (p : Pump), OnlyIn [.dsq, .spm, .fbl, .alm] v ((v.setRun p .waiting).join (.pump p)) :=
    fun v p => (only_setRun v p _).next (only_join _ _)
  exact (((OnlyIn.each only_unwait _ s).trans ((only_dsq _ _).mono (by decide))).trans
    ((only_reportIf _ _ _).mono (by decide))).trans (OnlyIn.each ask _ _)

theorem only_reformUpTo (n : Nat) (s : State) : OnlyIn reformParts s (s.reformUpTo n) := by
  induction n generalizing s with
  | zero => exact .refl _ _
  | succ n ih =>
    have stop : ∀ p, OnlyIn reformParts s ((s.stopPump p).reformUpTo n) := fun p =>
      ((only_stopPump s p).mono (by decide)).trans (ih _)
    have settle : ∀ m, OnlyIn reformParts s (s.settleRunSet m) := fun m => (only_settleRunSet s m).mono (by decide)
    unfold State.reformUpTo
    dsimp only
    split
    · exact stop _
    · refine .choose _ ?_ ?_
      · split
        · exact stop _
        · exact settle _
      · split
        · exact .choose _ (settle _) (((settle _).trans (only_grantFirst _)).trans (ih _))
        · exact settle _

theorem only_reform (s : State) : OnlyIn reformParts s s.reform := only_reformUpTo 10 s

theorem only_diffMoved (s : State) (b : Bool) : OnlyIn reformParts s (s.diffMoved b) :=
  (((only_judgeBlinded s).mono (by decide)).trans (only_reform _)).trans (OnlyIn.when _ ((only_fire _).mono (by decide)))

theorem only_dutyEvent (s : State) (n : Nat) : OnlyIn reformParts s (s.dutyEvent n) :=
  ((only_requeue s n).mono (by decide)).trans (only_reform _)

/-! ## Trips -/

theorem only_lockOut (s : State) (p : Pump) : OnlyIn [.ppr, .alm, .src] s (s.lockOut p) :=
  (((only_modProt s p _).next (cs := [.ppr, .alm]) (only_setCondition _ _ _)).next (cs := [.ppr, .alm, .src])
    (only_append _ _)).next (only_setCondition _ _ _)

/-- The parts that a trip may change before the queue is judged. -/
abbrev tripParts : List Block := [.dsq, .ppr, .fbl, .alm, .src]

theorem only_tripPump (s : State) (p : Pump) (c : FaultCond) : OnlyIn tripParts s (s.tripPump p c) := by
  have drop : OnlyIn tripParts s (if s.runCmd p = true then s.dropPump p else s) :=
    .when _ ((only_dropPump s p).mono (by decide))
  have rest : ∀ (t : State) f b g,
      OnlyIn tripParts t ((((((t.modProt p f).report .pumps).append b).credit g).setCondition (.pump p .trip) true)) :=
    fun t f b g => ((((only_modProt t p f).next (cs := tripParts) (only_report _ _)).trans
      ((only_append _ _).mono (by decide))).trans ((only_credit _ _).mono (by decide))).trans
      ((only_setCondition _ _ _).mono (by decide))
  have all := fun f b g => drop.trans (rest _ f b g)
  exact OnlyIn.choose _ ((all _ _ _).trans ((only_lockOut _ _).mono (by decide))) (all _ _ _)

theorem only_trip (s : State) (p : Pump) (c : FaultCond) : OnlyIn reformParts s (s.trip p c) :=
  (only_tripPump s p c).next (only_dutyEvent _ _)

theorem only_expireFault (s : State) (p : Pump) (c : FaultCond) : OnlyIn tripParts s (s.expireFault p c) :=
  .when _ (only_tripPump s p c)

theorem only_overtempAtOnce (s : State) (p : Pump) : OnlyIn tripParts s (s.overtempAtOnce p) :=
  .when _ (only_expireFault s p _)

theorem only_recover (s : State) (p : Pump) : OnlyIn tripParts s (s.recover p) :=
  ((((only_modProt s p _).next (cs := [.ppr, .alm]) (only_report _ _)).next (cs := [.ppr, .alm])
    (only_setCondition _ _ _)).next (cs := [.ppr, .alm]) (only_judgeFaults _ _)).next (only_overtempAtOnce _ _)

theorem only_returnHealthy (s : State) (p : Pump) : OnlyIn reformParts s (s.returnHealthy p) :=
  (only_recover s p).next (only_dutyEvent _ _)

theorem only_awaitCool (s : State) (p : Pump) : OnlyIn [.ppr] s (s.awaitCool p) := only_modProt s p _

theorem only_endRest (s : State) (p : Pump) : OnlyIn reformParts s (s.endRest p) :=
  .choose _ ((only_awaitCool s p).mono (by decide)) (only_returnHealthy s p)

theorem only_reclose (s : State) : OnlyIn [.spm] s s.reclose := by
  unfold State.reclose
  split
  · exact .choose _ (.refl _ _) (only_spm _ _)
  · exact .refl _ _

theorem only_forgive (s : State) (p : Pump) : OnlyIn [.ppr, .alm] s (s.forgive p) :=
  .choose _ ((only_modProt s p _).mono (by decide)) ((only_modProt s p _).next (only_report _ _))

/-! ## Flow Balance -/

theorem only_judgePredicted (s : State) : OnlyIn [.fbl, .alm] s s.judgePredicted :=
  (only_modFbl s _).next (only_setCondition _ _ _)

theorem only_predict (s : State) : OnlyIn [.fbl, .alm] s s.predict := (only_modFbl s _).next (only_judgePredicted _)

theorem only_followSource (s : State) (w : Source) : OnlyIn [.fbl] s (s.followSource w) :=
  .choose _ (.refl _ _) (only_modFbl s _)

theorem only_expectRescaled (s : State) (ch : Channel) : OnlyIn [.fbl] s (s.expectRescaled ch) := by
  unfold State.expectRescaled
  split
  · exact only_modFbl s _
  · exact .refl _ _

theorem only_seeRescaled (s : State) (ch : Channel) : OnlyIn [.fbl] s (s.seeRescaled ch) := by
  unfold State.seeRescaled
  split
  · exact .when _ (only_modFbl s _)
  · exact .refl _ _

theorem only_addPumped (s : State) (n : Nat) : OnlyIn [.fbl, .src] s (s.addPumped n) := by
  unfold State.addPumped
  exact (only_modFbl s _).next (only_credit _ _)

theorem only_balanceSecond (s : State) : OnlyIn [.fbl, .src] s s.balanceSecond :=
  .when _ ((only_credit s _).next (only_addPumped _ _))

theorem only_setSilent (s : State) (c : Bool) : OnlyIn [.fbl, .alm] s (s.setSilent c) :=
  (only_modFbl s _).next (only_setCondition _ _ _)

theorem only_closeInterval (s : State) : OnlyIn [.fbl, .alm, .src] s s.closeInterval :=
  ((only_credit s _).next (cs := [.fbl, .src]) (only_modFbl _ _)).next (only_predict _)

/-! ## Overflow Monitor -/

/-- The parts that a change of an episode may change. -/
abbrev episodeParts : List Block := [.ovm, .fbl, .alm, .src]

theorem only_followOpen (s : State) (b : Bool) : OnlyIn [.fbl, .alm] s (s.followOpen b) :=
  .choose _ (.refl _ _) (only_predict s)

theorem only_dropCandidate (s : State) (pt : Point) : OnlyIn [.ovm] s (s.dropCandidate pt) := only_modPoint s pt _

theorem only_closeEpisode (s : State) (pt : Point) (w : Stamp) (d : Nat) (why : EndReason) :
    OnlyIn episodeParts s (s.closeEpisode pt w d why) := by
  unfold State.closeEpisode
  split
  · exact (((only_append s _).next (cs := episodeParts) (only_modPoint _ _ _)).trans
      ((only_setCondition _ _ _).mono (by decide))).trans ((only_followOpen _ _).mono (by decide))
  · exact .refl _ _

theorem only_endNormally (s : State) (pt : Point) : OnlyIn episodeParts s (s.endNormally pt) := by
  unfold State.endNormally
  repeat' (first | exact only_closeEpisode s pt _ _ _ | exact .refl _ _ | split)

theorem only_endLost (s : State) (pt : Point) : OnlyIn episodeParts s (s.endLost pt) := by
  unfold State.endLost
  repeat' (first | exact only_closeEpisode s pt _ _ _ | exact .refl _ _ | split)

theorem only_creditSpill (s : State) (pt : Point) (n : Nat) : OnlyIn [.ovm, .src] s (s.creditSpill pt n) :=
  (only_credit s _).next (only_modPoint _ _ _)

theorem only_openEpisode (s : State) (pt : Point) : OnlyIn episodeParts s (s.openEpisode pt) := by
  unfold State.openEpisode
  repeat' split
  · exact (((((only_modPoint s pt _).next (cs := episodeParts) (only_creditSpill _ _ _)).trans
      ((only_credit _ _).mono (by decide))).trans ((only_append _ _).mono (by decide))).trans
      ((only_setCondition _ _ _).mono (by decide))).trans ((only_followOpen _ _).mono (by decide))
  all_goals exact .refl _ _

theorem only_candidate (s : State) (pt : Point) (h : Int) : OnlyIn episodeParts s (s.candidate pt h) :=
  have m : ∀ f, OnlyIn episodeParts s (s.modPoint pt f) := fun f => (only_modPoint s pt f).mono (by decide)
  .choose _ ((m _).trans (only_openEpisode _ _)) (m _)

theorem only_startEnd (s : State) (pt : Point) : OnlyIn episodeParts s (s.startEnd pt) :=
  have m : ∀ f, OnlyIn episodeParts s (s.modPoint pt f) := fun f => (only_modPoint s pt f).mono (by decide)
  .choose _ ((m _).trans (only_endNormally _ _)) (m _)

theorem only_cancelEnd (s : State) (pt : Point) (st : EpisodeState) : OnlyIn [.ovm] s (s.cancelEnd pt st) :=
  only_modPoint s pt _

theorem only_resumeEnd (s : State) (pt : Point) (e : Nat) : OnlyIn episodeParts s (s.resumeEnd pt e) :=
  have m : ∀ f, OnlyIn episodeParts s (s.modPoint pt f) := fun f => (only_modPoint s pt f).mono (by decide)
  .choose _ ((m _).trans (only_endNormally _ _)) (m _)

theorem only_loseLevel (s : State) (pt : Point) : OnlyIn episodeParts s (s.loseLevel pt) :=
  have m : ∀ f, OnlyIn episodeParts s (s.modPoint pt f) := fun f => (only_modPoint s pt f).mono (by decide)
  .choose _ ((m _).trans (only_endLost _ _)) (m _)

theorem only_judgePoint (s : State) (pt : Point) : OnlyIn episodeParts s (s.judgePoint pt) := by
  have m : ∀ f, OnlyIn episodeParts s (s.modPoint pt f) := fun f => (only_modPoint s pt f).mono (by decide)
  have c : ∀ t st, OnlyIn episodeParts t (t.cancelEnd pt st) := fun t st => (only_cancelEnd t pt st).mono (by decide)
  have d : ∀ t, OnlyIn episodeParts t (t.dropCandidate pt) := fun t => (only_dropCandidate t pt).mono (by decide)
  have see : ∀ {u : State} (h : Int), OnlyIn episodeParts (s.modPoint pt fun r => r.see h) u → OnlyIn episodeParts s u :=
    fun h k => (m _).trans k
  unfold State.judgePoint
  split
  · exact .refl _ _
  split
  · split
    · exact .refl _ _
    · exact d s
    all_goals exact .when _ (only_loseLevel s pt)
  rename_i h _
  refine see h ?_
  split
  · exact .when _ (only_candidate _ _ _)
  · exact .when _ (d _)
  · exact .when _ (only_startEnd _ _)
  refine .choose _ (c _ _) (.choose _ ?_ ?_)
  · split
    · exact .refl _ _
    all_goals exact c _ _
  · split
    · exact .refl _ _
    · exact only_resumeEnd _ _ _
    · exact only_startEnd _ _

theorem only_accrue (s : State) (pt : Point) : OnlyIn [.ovm, .src] s (s.accrue pt) := by
  unfold State.accrue
  extract_lets +lift u
  refine OnlyIn.trans (t := u) ((only_modPoint s pt _).mono (by decide)) ?_
  clear_value u
  split
  · refine .choose _ (.refl _ _) ?_
    split
    · exact .refl _ _
    · exact (only_modPoint _ pt _).mono (by decide)
    all_goals exact ((only_modPoint _ pt _).next (only_creditSpill _ _ _))
  · exact .refl _ _

/-! ## Level Unit -/

/-- The parts that a moved control level may change. -/
abbrev levelParts : List Block := [.lvu, .dsq, .spm, .ppr, .scr, .ovm, .fbl, .alm, .src]

theorem only_judgeHighLevel (s : State) : OnlyIn [.lvu, .alm] s s.judgeHighLevel := by
  unfold State.judgeHighLevel
  split
  · exact (only_lvu s _).next (only_setCondition _ _ _)
  · exact .refl _ _

theorem only_judgeFloats (s : State) : OnlyIn [.lvu, .alm] s s.judgeFloats :=
  .choose _ (.when _ ((only_lvu s _).mono (by decide))) ((only_lvu s _).next (only_setCondition _ _ _))

theorem only_settleLevel (s old : State) : OnlyIn levelParts s (s.settleLevel old) := by
  have first : ∀ t : State, OnlyIn levelParts t t.judgeHighLevel.judgeFloats := fun t =>
    ((only_judgeHighLevel t).mono (by decide)).trans ((only_judgeFloats _).mono (by decide))
  have moved : ∀ t : State, OnlyIn levelParts t (t.offerPeak.judgeCalls.judgeStage.judgePoint .n1) := fun t =>
    (((only_offerPeak t).next (cs := levelParts) (only_judgeCalls _)).trans ((only_judgeStage _).mono (by decide))).trans
      ((only_judgePoint _ _).mono (by decide))
  have told : OnlyIn levelParts s (s.setCondition .levelDisagree s.lvu.disagreement.present) :=
    (only_setCondition s _ _).mono (by decide)
  unfold State.settleLevel
  refine OnlyIn.trans ?_ ((only_reform _).mono (by decide))
  refine OnlyIn.trans ?_ (OnlyIn.when _ ((only_predict _).mono (by decide)))
  refine OnlyIn.trans ?_ ((only_followSource _ _).mono (by decide))
  exact (told.trans (first _)).trans (OnlyIn.when _ (moved _))

theorem only_judgeDisagreement (s : State) : OnlyIn [.lvu] s s.judgeDisagreement := only_lvu s _

theorem only_judgeLevelMode (s old : State) : OnlyIn [.lvu, .alm, .src] s (s.judgeLevelMode old) := by
  have r : ∀ c, OnlyIn [.lvu, .alm, .src] s (s.reportIf c .levels) := fun c => (only_reportIf s c _).mono (by decide)
  unfold State.judgeLevelMode
  dsimp only
  split
  · exact r _
  exact (((r _).next (cs := [.lvu, .alm, .src]) (only_lvu _ _)).next (cs := [.lvu, .alm, .src])
    (only_setCondition _ _ _)).next (only_append _ _)

theorem only_wellMoved (s old : State) : OnlyIn levelParts s (s.wellMoved old) :=
  ((only_judgeDisagreement s).next (cs := levelParts) (only_judgeLevelMode _ _)).trans (only_settleLevel _ _)

theorem only_channelMoved (s old : State) (ch : Channel) : OnlyIn levelParts s (s.channelMoved old ch) := by
  unfold State.channelMoved
  refine .choose _ (.refl _ _) ?_
  dsimp only
  have told : ∀ c, OnlyIn levelParts s
      (match Channel.faultPoint ch with
        | some a =>
          if (s.chanState ch).isSome then
            (s.reportIf c .levels).setCondition a (((s.chanState ch).map ChannelState.isFault).getD false)
          else (s.reportIf c .levels).clearPoint a
        | none => s.reportIf c .levels) := by
    intro c
    have r : OnlyIn levelParts s (s.reportIf c .levels) := (only_reportIf s c _).mono (by decide)
    split
    · exact .choose _ (r.trans ((only_setCondition _ _ _).mono (by decide)))
        (r.trans ((only_clearPoint _ _).mono (by decide)))
    · exact r
  have d : ∀ t b, OnlyIn levelParts t (t.diffMoved b) := fun t b => (only_diffMoved t b).mono (by decide)
  cases ch with
  | wellPri => exact (told _).trans (only_wellMoved _ _)
  | wellSec => exact (told _).trans (only_wellMoved _ _)
  | inlet =>
    exact ((told _).trans (OnlyIn.when _ ((only_judgePoint _ _).mono (by decide)))).trans (d _ _)
  | screenOut => exact (told _).trans (d _ _)
  | cur p => exact (told _).trans ((only_judgeFaults _ _).mono (by decide))

/-! ## Links -/

theorem only_arrive (s : State) (l : Link) : OnlyIn [.lnk] s (s.arrive l) :=
  .choose _ ((only_modLink s l _).trans (only_lnk _ _)) (only_modLink s l _)

theorem only_sendAnswer (s : State) (l : Link) (fs : List Frame) : OnlyIn [.lnk] s (s.sendAnswer l fs) :=
  only_modLink s l _

theorem only_give (s : State) (l : Link) (code : Byte) (r : Reply) : OnlyIn [.lnk] s (s.give l code r) := by
  cases r with
  | refused st => exact only_sendAnswer s l _
  | done d => exact only_sendAnswer s l _
  | working => exact only_modLink s l _

theorem only_giveBusy (s : State) (l : Link) (code : Byte) : OnlyIn [.lnk] s (s.giveBusy l code) := only_modLink s l _

/-- A request changes the Link Interface and what its work changes. -/
theorem only_request {bs : List Block} (s : State) (l : Link) (code : Byte) (ok need : Bool)
    (work : State → State × Reply) (h : ∀ t, OnlyIn bs t (work t).1) (hl : Block.lnk ∈ bs) :
    OnlyIn bs s (s.request l code ok need work) := by
  have k : [Block.lnk] ⊆ bs := by simpa using hl
  have a := (only_arrive s l).mono k
  unfold State.request
  refine .choose _ (.refl _ _) ?_
  dsimp only
  split
  · split
    · exact a.trans ((only_give _ _ _ _).mono k)
    · exact (a.trans (h _)).trans ((only_give _ _ _ _).mono k)
  all_goals exact a.trans ((only_giveBusy _ _ _).mono k)

theorem only_read (s : State) (l : Link) (code : Byte) (ok : Bool) (d : State → List Byte) :
    OnlyIn [.lnk] s (s.read l code ok d) := only_request s l code ok false _ (fun _ => .refl _ _) (by decide)

theorem only_changeSeat (s : State) (h : Seat) (c : SeatCause) :
    OnlyIn [.dsq, .spm, .ppr, .scr, .fbl, .alm, .src, .lnk] s (s.changeSeat h c) :=
  ((((only_lnk s _).next (cs := [.dsq, .spm, .ppr, .scr, .fbl, .alm, .src, .lnk])
    (OnlyIn.each (fun t p => only_setOverride t p none) _ _)).trans ((only_reform _).mono (by decide))).trans
    ((only_append _ _).mono (by decide))).trans ((only_report _ _).mono (by decide))

/-- An event of a running controller changes what its effect changes. -/
theorem only_live {bs : List Block} (s : State) (f : State → State) (h : OnlyIn bs s (f s)) : OnlyIn bs s (s.live f) :=
  .choose _ (.refl _ _) h

/-- An expiry changes the time and what its effect changes. -/
theorem only_onExpiry {bs : List Block} (s : State) (t : Timer) (n : Nat) (f : State → State)
    (h : ∀ u, OnlyIn bs u (f u)) (hu : Block.uptime ∈ bs) (hs : Block.src ∈ bs) : OnlyIn bs s (s.onExpiry t n f) := by
  refine only_live s _ ?_
  split
  · refine ((only_reach s _).mono ?_).trans (h _)
    intro b hb
    simp only [List.mem_cons, List.not_mem_nil, or_false] at hb
    rcases hb with rfl | rfl <;> assumption
  · exact .refl _ _

/-- A change of an input changes the pins and what its effect changes. -/
theorem only_onChange {bs : List Block} (s : State) (a b : Bool) (pin : Inputs → Inputs) (f : State → State)
    (h : ∀ u, OnlyIn bs u (f u)) (hi : Block.inputs ∈ bs) : OnlyIn bs s (s.onChange a b pin f) := by
  have k : [Block.inputs] ⊆ bs := by simpa using hi
  exact .choose _ (.refl _ _) (.choose _ ((only_inputs s _).mono k) (((only_inputs s _).mono k).trans (h _)))

end Sys2Proof.Machine
end

