-- ==== Sys2Proof/Laws/Ops.lean ====
section
/-! SUPPORT. What the shared operations do: what a read gives after an update, when an event takes effect, what a request comes to,
and that every command answers a next state. -/

namespace Sys2Proof.Machine

-- One theorem after another, as in Laws/Only.lean.
set_option Elab.async false

/-! ## Reads after updates -/

@[simp] theorem LevelUnit.chan_setChan_self (v : LevelUnit) (ch : Channel) (r : Option ChannelRec) :
    (v.setChan ch r).chan ch = r := by
  cases ch <;> simp [setChan, chan]

@[simp] theorem LevelUnit.chan_setChan_ne (v : LevelUnit) {ch other : Channel} (r : Option ChannelRec) (h : other ≠ ch) :
    (v.setChan ch r).chan other = v.chan other := by
  cases ch <;> cases other <;> first | rfl | exact absurd rfl h | (simp only [setChan, chan]; exact Quad.get_set_ne _ _ (by simpa using h))

@[simp] theorem State.chan_setChan_self (s : State) (ch : Channel) (r : ChannelRec) : (s.setChan ch r).chan ch = some r :=
  LevelUnit.chan_setChan_self _ _ _

@[simp] theorem State.chan_setChan_ne (s : State) {ch other : Channel} (r : ChannelRec) (h : other ≠ ch) :
    (s.setChan ch r).chan other = s.chan other := LevelUnit.chan_setChan_ne _ _ h

theorem AlarmPoint.index_injective {a b : AlarmPoint} (h : a.index = b.index) : a = b := by
  have key : ∀ i : Fin 42, ∀ a : AlarmPoint, a.index = i → some a = AlarmPoint.all[i.val]? := by
    intro i a k
    subst k
    cases a with
    | pump p k => cases p <;> cases k <;> rfl
    | rakeJam sc => cases sc <;> rfl
    | rakeFailed sc => cases sc <;> rfl
    | overflow pt => cases pt <;> rfl
    | _ => rfl
  have ka := key a.index a rfl
  have kb := key a.index b h.symm
  exact Option.some.inj (ka.trans kb.symm)

@[simp] theorem State.point_setPoint_self (s : State) (a : AlarmPoint) (e : PointEntry) : (s.setPoint a e).point a = e := by
  simp [State.point]

@[simp] theorem State.point_setPoint_ne (s : State) {a x : AlarmPoint} (e : PointEntry) (h : x ≠ a) :
    (s.setPoint a e).point x = s.point x := by
  have k : a.index.val ≠ x.index.val := fun k => h (AlarmPoint.index_injective (Fin.ext k)).symm
  simp [State.point, Vector.getElem_set_ne, k]

@[simp] theorem State.point_report (s : State) (k : Category) (a : AlarmPoint) : (s.report k).point a = s.point a := rfl

@[simp] theorem State.point_judgeOutputs (s : State) (a : AlarmPoint) : s.judgeOutputs.point a = s.point a := rfl

@[simp] theorem State.link_modLink_self (s : State) (l : Link) (f : LinkRec → LinkRec) :
    (s.modLink l f).link l = f (s.link l) := by simp [State.link]

@[simp] theorem State.link_modLink_ne (s : State) {l k : Link} (f : LinkRec → LinkRec) (h : k ≠ l) :
    (s.modLink l f).link k = s.link k := by simp [State.link, h]

@[simp] theorem State.each_nil {α : Type} (s : State) (f : State → α → State) : s.each [] f = s := rfl

@[simp] theorem State.each_cons {α : Type} (s : State) (a : α) (rest : List α) (f : State → α → State) :
    s.each (a :: rest) f = (f s a).each rest f := rfl

/-! ## Times and events -/

theorem State.reach_past (s : State) {t : Nat} (h : t ≤ s.uptime) : s.reach t = s := by
  have k : t - s.uptime = 0 := by omega
  simp [State.reach, State.elapse, k]

@[simp] theorem State.live_running (s : State) (f : State → State) (h : s.isHeld = false) : s.live f = f s := by
  simp [State.live, h]

@[simp] theorem State.live_held (s : State) (f : State → State) (h : s.isHeld = true) : s.live f = s := by
  simp [State.live, h]

theorem State.onExpiry_some (s : State) (t0 n : Nat) (f : State → State) (h : s.isHeld = false) :
    s.onExpiry (some t0) n f = f (s.reach (deadline t0 n)) := by simp [State.onExpiry, h]

theorem State.onExpiry_none (s : State) (n : Nat) (f : State → State) : s.onExpiry none n f = s := by
  simp [State.onExpiry, State.live]

theorem State.onChange_same (s : State) (a : Bool) (pin : Inputs → Inputs) (f : State → State) :
    s.onChange a a pin f = s := by simp [State.onChange]

theorem State.onChange_held (s : State) {a b : Bool} (pin : Inputs → Inputs) (f : State → State) (h : a ≠ b)
    (k : s.isHeld = true) : s.onChange a b pin f = { s with inputs := pin s.inputs } := by
  simp [State.onChange, h, k]

theorem State.onChange_running (s : State) {a b : Bool} (pin : Inputs → Inputs) (f : State → State) (h : a ≠ b)
    (k : s.isHeld = false) : s.onChange a b pin f = f { s with inputs := pin s.inputs } := by
  simp [State.onChange, h, k]

/-! ## The rescaled well channels (R131) -/

/-- A rescale is looked out for on the well channel it names, and on no other. -/
theorem State.expectRescaled_fbl (s : State) (ch : Channel) :
    (s.expectRescaled ch).fbl =
      { s.fbl with
        rescaled := match Channel.well? ch with
          | some w => s.fbl.rescaled.set w true
          | none => s.fbl.rescaled } := by
  unfold State.expectRescaled
  cases Channel.well? ch <;> rfl

/-- A valid sample of a well channel ends the look-out on it, and marks a discontinuity where there was one and the control level is
valid. -/
theorem State.seeRescaled_fbl (s : State) {ch : Channel} {w : No2} (h : Channel.well? ch = some w) :
    (s.seeRescaled ch).fbl =
      { s.fbl with
        rescaled := s.fbl.rescaled.set w false
        discontinuity := s.fbl.discontinuity || (s.fbl.rescaled.get w && s.controlLevel.isSome) } := by
  unfold State.seeRescaled
  simp only [h]
  split
  · rename_i k
    simp [k]
  · rename_i k
    have e : s.fbl.rescaled.set w false = s.fbl.rescaled := by
      cases w <;> simp_all only [Duo.get, Duo.set, Bool.not_eq_true] <;> rw [← k]
    simp [k, e]

theorem State.seeRescaled_of_not_well (s : State) {ch : Channel} (h : Channel.well? ch = none) : s.seeRescaled ch = s := by
  simp [State.seeRescaled, h]

/-! ## The spacing timer (R58, R61) -/

/-- The expiry of the spacing timer grants the first-ranked request or, where none waits, opens the permit. -/
theorem State.expireSpacing_spm (s : State) :
    (s.expireSpacing.spm =
      match s.ranked with
      | r :: _ => (s.recordGrant r.who).spm
      | [] => { s.spm with permit := .opened }) := by
  unfold State.expireSpacing State.grantFirst
  cases h : s.ranked with
  | nil => rfl
  | cons r rest =>
    have k := only_grantTo (s.recordGrant r.who) r.who .spm (by decide)
    simpa [Block.same] using k

/-! ## Rakes and the differential trigger (R90, R97) -/

/-- A change of rake state writes that screen's record and reports SCREENS. -/
theorem State.setRake_scr (s : State) (sc : Screen) (k : RakeState) :
    (s.setRake sc k).scr = (s.modScreen sc fun r => { r with rake := k }).scr := by
  unfold State.setRake
  split
  · exact only_reportIf _ _ _ .scr (by decide)
  · rename_i h
    have e : s.scr.screens.modify sc (Option.map fun r => { r with rake := k }) = s.scr.screens := by
      cases sc <;> simp only [Duo.modify, h, Option.map_none] <;> simp only [Duo.get] at h <;> simp only [Duo.set, ← h]
    simp [e]

theorem State.failScreen_scr (s : State) (sc : Screen) (c : RakeCause) :
    (s.failScreen sc c).scr =
      ((s.modScreen sc fun r =>
        { r with cause := some c, homeLeave := none, cycle := none, reverse := none }).setRake sc .failed).scr :=
  (only_setCondition _ _ _ .scr (by decide)).trans (only_withdraw _ _ .scr (by decide))

theorem State.rakeOf_failScreen_other (s : State) (sc : Screen) (c : RakeCause) :
    (s.failScreen sc c).rakeOf sc.other = s.rakeOf sc.other := by
  simp only [State.rakeOf, State.failScreen_scr, State.setRake_scr]
  cases sc <;> rfl

theorem State.isIdle_failScreen (s : State) (sc : Screen) (c : RakeCause) : (s.failScreen sc c).isIdle sc = false := by
  simp only [State.isIdle, State.rakeOf, State.failScreen_scr, State.setRake_scr, State.modScreen_scr, Duo.get_modify_self,
    Option.map_map]
  cases s.scr.screens.get sc <;> rfl

theorem State.pickIdle_of_busy (s : State) {sc : Screen} (h : s.isIdle sc = false) :
    s.pickIdle = if s.isIdle sc.other then some sc.other else none := by
  cases sc <;> simp only [No2.other] at * <;> unfold State.pickIdle <;> rw [h] <;> split <;> simp_all

/-- With one screen out of service or in work, the trigger goes to the other while the differential is high and that one is IDLE, and
fails it while its thermal contact is active; else it is spent (R90, R97). -/
theorem State.fire_of_busy (s : State) {sc : Screen} (h : s.isIdle sc = false) :
    s.fire =
      if s.diffHigh && s.isIdle sc.other then
        if s.inputs.rakeThermal.get sc.other then s.failScreen sc.other .thermal else s.askScreen sc.other
      else s := by
  have p := s.pickIdle_of_busy h
  have stop : (s.failScreen sc.other .thermal).pickIdle = none := by
    have a := s.isIdle_failScreen sc.other .thermal
    have b := s.rakeOf_failScreen_other sc.other .thermal
    rw [State.pickIdle_of_busy _ a]
    cases sc <;> simp_all [State.isIdle, No2.other]
  unfold State.fire State.fireUpTo State.fireUpTo
  rw [p]
  by_cases d : s.diffHigh = true <;> by_cases i : s.isIdle sc.other = true <;> simp_all

/-! ## Requests -/

theorem State.arrive_request (s : State) (l k : Link) : ((s.arrive l).link k).request = (s.link k).request := by
  unfold State.arrive
  dsimp only
  split <;> cases l <;> cases k <;> rfl

theorem State.arrive_holds (s : State) (l k : Link) : (s.arrive l).holds k = s.holds k := by
  unfold State.arrive
  dsimp only
  split <;> rfl

theorem State.request_held (s : State) (l : Link) (code : Byte) (ok need : Bool) (work : State → State × Reply)
    (h : s.isHeld = true) : s.request l code ok need work = s := by simp [State.request, h]

theorem State.request_busy (s : State) (l : Link) (code : Byte) (ok need : Bool) (work : State → State × Reply)
    (h : s.isHeld = false) (k : (s.link l).request ≠ .free) :
    s.request l code ok need work = (s.arrive l).giveBusy l code := by
  have a := s.arrive_request l l
  unfold State.request
  cases r : (s.link l).request <;> simp_all

theorem State.request_failed (s : State) (l : Link) (code : Byte) (ok need : Bool) (work : State → State × Reply)
    (st : Status) (h : s.taking l) (k : s.check l ok need = some st) :
    s.request l code ok need work = (s.arrive l).give l code (.refused st) := by
  have a := s.arrive_request l l
  have b := s.arrive_holds l l
  simp only [State.check] at k
  unfold State.request
  simp_all [State.taking, State.check]

theorem State.request_taken (s : State) (l : Link) (code : Byte) (ok need : Bool) (work : State → State × Reply)
    (h : s.taking l) (k : s.check l ok need = none) :
    s.request l code ok need work = (work (s.arrive l)).1.give l code (work (s.arrive l)).2 := by
  have a := s.arrive_request l l
  have b := s.arrive_holds l l
  simp only [State.check] at k
  unfold State.request
  simp_all [State.taking, State.check]

/-! ## Commands -/

/-- A valid frame always comes to a next state. -/
theorem takeFrame_next (l : Link) (code : Byte) (b : List Byte) (s : State) : ∃ t, takeFrame l code b s = .next t := by
  unfold takeFrame
  split <;> exact ⟨_, rfl⟩

/-- Every command answers a next state: none stops the part. -/
theorem exec_next (c : Instr) (s : State) : ∃ t, exec c s = .next t := by
  cases c with
  | unknownRequest l code b => exact takeFrame_next l code b s
  | _ => exact ⟨_, rfl⟩

end Sys2Proof.Machine
end

