-- ==== Sys2Proof/Laws/PerInstr.lean ====
section
/-! SUPPORT. A law of every command as syntax, one lemma per constructor: a command carries a frame exactly when it carries the link
the frame came on, and the frame's CODE is one byte (sections 10.1 and 10.3). -/

namespace Sys2Proof.Laws

-- One theorem after another, as in Laws/Only.lean.
set_option Elab.async false

/-- A command carries a frame exactly when it carries a link, and the frame's CODE is one byte. -/
def Framed.Statement (i : Instr) : Prop :=
  i.frame?.isSome = i.link?.isSome ∧ ∀ code b, i.frame? = some (code, b) → code < 256

/-- The law of a command that is no frame. -/
theorem Framed.of_none {i : Instr} (h : i.frame? = none) (k : i.link? = none) : Framed.Statement i :=
  ⟨by rw [h, k]; rfl, fun _ _ e => by rw [h] at e; cases e⟩

/-- The law of a request. -/
theorem Framed.of_some {i : Instr} {l : Link} {n : Nat} {b : List Byte} (h : i.frame? = some (n, b)) (k : i.link? = some l)
    (c : n < 256) : Framed.Statement i :=
  ⟨by rw [h, k]; rfl, fun _ _ e => by rw [h] at e; cases e; exact c⟩

theorem Framed.sample (ch : Channel) (counts : BitVec 12) : Framed.Statement (.sample ch counts) := Framed.of_none rfl rfl
theorem Framed.checkTimerExpiry (ch : Channel) : Framed.Statement (.checkTimerExpiry ch) := Framed.of_none rfl rfl
theorem Framed.disagreeTimerExpiry : Framed.Statement (.disagreeTimerExpiry) := Framed.of_none rfl rfl
theorem Framed.floatChange (f : FloatSwitch) (active : Bool) : Framed.Statement (.floatChange f active) := Framed.of_none rfl rfl
theorem Framed.floatCheckTimerExpiry : Framed.Statement (.floatCheckTimerExpiry) := Framed.of_none rfl rfl
theorem Framed.minRunExpiry (p : Pump) : Framed.Statement (.minRunExpiry p) := Framed.of_none rfl rfl
theorem Framed.minOffExpiry (p : Pump) : Framed.Statement (.minOffExpiry p) := Framed.of_none rfl rfl
theorem Framed.startHistoryAgeOut (p : Pump) : Framed.Statement (.startHistoryAgeOut p) := Framed.of_none rfl rfl
theorem Framed.rampStep (p : Pump) : Framed.Statement (.rampStep p) := Framed.of_none rfl rfl
theorem Framed.speedRefPeriodEnd (p : Pump) : Framed.Statement (.speedRefPeriodEnd p) := Framed.of_none rfl rfl
theorem Framed.pumpCommand (l : Link) (payload : List Byte) : Framed.Statement (.pumpCommand l payload) := Framed.of_some rfl rfl (by decide)
theorem Framed.setRotation (l : Link) (payload : List Byte) : Framed.Statement (.setRotation l payload) := Framed.of_some rfl rfl (by decide)
theorem Framed.readPumps (l : Link) (payload : List Byte) : Framed.Statement (.readPumps l payload) := Framed.of_some rfl rfl (by decide)
theorem Framed.spacingTimerExpiry : Framed.Statement (.spacingTimerExpiry) := Framed.of_none rfl rfl
theorem Framed.readPermit (l : Link) (payload : List Byte) : Framed.Statement (.readPermit l payload) := Framed.of_some rfl rfl (by decide)
theorem Framed.hoaChange (p : Pump) (c : HoaContact) (active : Bool) : Framed.Statement (.hoaChange p c active) := Framed.of_none rfl rfl
theorem Framed.runFbChange (p : Pump) (active : Bool) : Framed.Statement (.runFbChange p active) := Framed.of_none rfl rfl
theorem Framed.overtempChange (p : Pump) (active : Bool) : Framed.Statement (.overtempChange p active) := Framed.of_none rfl rfl
theorem Framed.faultTimerExpiry (p : Pump) (c : FaultCond) : Framed.Statement (.faultTimerExpiry p c) := Framed.of_none rfl rfl
theorem Framed.undercurrentArm (p : Pump) : Framed.Statement (.undercurrentArm p) := Framed.of_none rfl rfl
theorem Framed.restTimerExpiry (p : Pump) : Framed.Statement (.restTimerExpiry p) := Framed.of_none rfl rfl
theorem Framed.forgiveTimerExpiry (p : Pump) : Framed.Statement (.forgiveTimerExpiry p) := Framed.of_none rfl rfl
theorem Framed.sealLeakChange (p : Pump) (active : Bool) : Framed.Statement (.sealLeakChange p active) := Framed.of_none rfl rfl
theorem Framed.sealTimerExpiry (p : Pump) : Framed.Statement (.sealTimerExpiry p) := Framed.of_none rfl rfl
theorem Framed.stopWatchExpiry (p : Pump) : Framed.Statement (.stopWatchExpiry p) := Framed.of_none rfl rfl
theorem Framed.uncommandedWatchExpiry (p : Pump) : Framed.Statement (.uncommandedWatchExpiry p) := Framed.of_none rfl rfl
theorem Framed.clearLockout (l : Link) (payload : List Byte) : Framed.Statement (.clearLockout l payload) := Framed.of_some rfl rfl (by decide)
theorem Framed.readProtection (l : Link) (payload : List Byte) : Framed.Statement (.readProtection l payload) := Framed.of_some rfl rfl (by decide)
theorem Framed.intervalTimerExpiry (sc : Screen) : Framed.Statement (.intervalTimerExpiry sc) := Framed.of_none rfl rfl
theorem Framed.rakeRequest (l : Link) (payload : List Byte) : Framed.Statement (.rakeRequest l payload) := Framed.of_some rfl rfl (by decide)
theorem Framed.rakeHomeChange (sc : Screen) (active : Bool) : Framed.Statement (.rakeHomeChange sc active) := Framed.of_none rfl rfl
theorem Framed.homeLeaveTimerExpiry (sc : Screen) : Framed.Statement (.homeLeaveTimerExpiry sc) := Framed.of_none rfl rfl
theorem Framed.cycleTimerExpiry (sc : Screen) : Framed.Statement (.cycleTimerExpiry sc) := Framed.of_none rfl rfl
theorem Framed.rakeTorqueChange (sc : Screen) (active : Bool) : Framed.Statement (.rakeTorqueChange sc active) := Framed.of_none rfl rfl
theorem Framed.rakeThermalChange (sc : Screen) (active : Bool) : Framed.Statement (.rakeThermalChange sc active) := Framed.of_none rfl rfl
theorem Framed.reverseTimerExpiry (sc : Screen) : Framed.Statement (.reverseTimerExpiry sc) := Framed.of_none rfl rfl
theorem Framed.rakeReset (l : Link) (payload : List Byte) : Framed.Statement (.rakeReset l payload) := Framed.of_some rfl rfl (by decide)
theorem Framed.blindingTimerExpiry : Framed.Statement (.blindingTimerExpiry) := Framed.of_none rfl rfl
theorem Framed.readScreens (l : Link) (payload : List Byte) : Framed.Statement (.readScreens l payload) := Framed.of_some rfl rfl (by decide)
theorem Framed.confirmTimerExpiry (pt : Point) : Framed.Statement (.confirmTimerExpiry pt) := Framed.of_none rfl rfl
theorem Framed.endTimerExpiry (pt : Point) : Framed.Statement (.endTimerExpiry pt) := Framed.of_none rfl rfl
theorem Framed.levelLossTimerExpiry (pt : Point) : Framed.Statement (.levelLossTimerExpiry pt) := Framed.of_none rfl rfl
theorem Framed.readOverflow (l : Link) (payload : List Byte) : Framed.Statement (.readOverflow l payload) := Framed.of_some rfl rfl (by decide)
theorem Framed.accrualSecond : Framed.Statement (.accrualSecond) := Framed.of_none rfl rfl
theorem Framed.flowPulse : Framed.Statement (.flowPulse) := Framed.of_none rfl rfl
theorem Framed.meterRateTimeout : Framed.Statement (.meterRateTimeout) := Framed.of_none rfl rfl
theorem Framed.silenceTimerExpiry : Framed.Statement (.silenceTimerExpiry) := Framed.of_none rfl rfl
theorem Framed.intervalClose : Framed.Statement (.intervalClose) := Framed.of_none rfl rfl
theorem Framed.readBalance (l : Link) (payload : List Byte) : Framed.Statement (.readBalance l payload) := Framed.of_some rfl rfl (by decide)
theorem Framed.ackAlarm (l : Link) (payload : List Byte) : Framed.Statement (.ackAlarm l payload) := Framed.of_some rfl rfl (by decide)
theorem Framed.ackIn (active : Bool) : Framed.Statement (.ackIn active) := Framed.of_none rfl rfl
theorem Framed.readAlarms (l : Link) (payload : List Byte) : Framed.Statement (.readAlarms l payload) := Framed.of_some rfl rfl (by decide)
theorem Framed.readChanges (l : Link) (payload : List Byte) : Framed.Statement (.readChanges l payload) := Framed.of_some rfl rfl (by decide)
theorem Framed.readEvents (l : Link) (payload : List Byte) : Framed.Statement (.readEvents l payload) := Framed.of_some rfl rfl (by decide)
theorem Framed.releaseEvents (l : Link) (payload : List Byte) : Framed.Statement (.releaseEvents l payload) := Framed.of_some rfl rfl (by decide)
theorem Framed.clockSecond : Framed.Statement (.clockSecond) := Framed.of_none rfl rfl
theorem Framed.setClock (l : Link) (payload : List Byte) : Framed.Statement (.setClock l payload) := Framed.of_some rfl rfl (by decide)
theorem Framed.readClock (l : Link) (payload : List Byte) : Framed.Statement (.readClock l payload) := Framed.of_some rfl rfl (by decide)
theorem Framed.readSummary (l : Link) (payload : List Byte) : Framed.Statement (.readSummary l payload) := Framed.of_some rfl rfl (by decide)
theorem Framed.readLevels (l : Link) (payload : List Byte) : Framed.Statement (.readLevels l payload) := Framed.of_some rfl rfl (by decide)
theorem Framed.gapTimerExpiry (l : Link) : Framed.Statement (.gapTimerExpiry l) := Framed.of_none rfl rfl
theorem Framed.frameDiscarded (l : Link) : Framed.Statement (.frameDiscarded l) := Framed.of_none rfl rfl
theorem Framed.unknownRequest (l : Link) (code : Byte) (payload : List Byte) : Framed.Statement (.unknownRequest l code payload) := Framed.of_some rfl rfl code.isLt
theorem Framed.answerSent (l : Link) : Framed.Statement (.answerSent l) := Framed.of_none rfl rfl
theorem Framed.claimSeat (l : Link) (payload : List Byte) : Framed.Statement (.claimSeat l payload) := Framed.of_some rfl rfl (by decide)
theorem Framed.releaseSeat (l : Link) (payload : List Byte) : Framed.Statement (.releaseSeat l payload) := Framed.of_some rfl rfl (by decide)
theorem Framed.readSeat (l : Link) (payload : List Byte) : Framed.Statement (.readSeat l payload) := Framed.of_some rfl rfl (by decide)
theorem Framed.holdTimerExpiry : Framed.Statement (.holdTimerExpiry) := Framed.of_none rfl rfl
theorem Framed.localKeyChange (active : Bool) : Framed.Statement (.localKeyChange active) := Framed.of_none rfl rfl
theorem Framed.writeSetting (l : Link) (payload : List Byte) : Framed.Statement (.writeSetting l payload) := Framed.of_some rfl rfl (by decide)
theorem Framed.writeTable (l : Link) (payload : List Byte) : Framed.Statement (.writeTable l payload) := Framed.of_some rfl rfl (by decide)
theorem Framed.writeTableEnd (l : Link) : Framed.Statement (.writeTableEnd l) := Framed.of_none rfl rfl
theorem Framed.saveSettings (l : Link) (payload : List Byte) : Framed.Statement (.saveSettings l payload) := Framed.of_some rfl rfl (by decide)
theorem Framed.saveEnd : Framed.Statement (.saveEnd) := Framed.of_none rfl rfl
theorem Framed.readSetting (l : Link) (payload : List Byte) : Framed.Statement (.readSetting l payload) := Framed.of_some rfl rfl (by decide)
theorem Framed.readTable (l : Link) (payload : List Byte) : Framed.Statement (.readTable l payload) := Framed.of_some rfl rfl (by decide)
theorem Framed.onGeneratorChange (active : Bool) : Framed.Statement (.onGeneratorChange active) := Framed.of_none rfl rfl
theorem Framed.hold : Framed.Statement (.hold) := Framed.of_none rfl rfl
theorem Framed.start : Framed.Statement (.start) := Framed.of_none rfl rfl
theorem Framed.backupSupplyLoss : Framed.Statement (.backupSupplyLoss) := Framed.of_none rfl rfl
theorem Framed.byteReceived (l : Link) (b : Byte) : Framed.Statement (.byteReceived l b) := Framed.of_none rfl rfl

end Sys2Proof.Laws
end

