-- ==== Sys2Proof/Tests/Slice0.lean ====
section
/-! SUPPORT. Tests of the model on the spec's own figures, and for each obligation with hypotheses a state and operands that meet them,
one set for each clause. -/

namespace Sys2Proof.Tests
open Sys2Proof.Machine

-- One theorem after another, as in Laws/Only.lean.
set_option Elab.async false

/-! ## Helpers -/

/-- The state after reset with one setting replaced. -/
def withSetting (s : State) (x : Setting) (v : Nat) : State := { s with cfg := { s.cfg with live := s.cfg.live.put x v } }

/-- The control seat held by a link. -/
def seated (l : Link) : State := { State.reset with lnk := { State.reset.lnk with seat := .held l } }

def held : State := { State.reset with isHeld := true }

/-- A pump in AUTO and in the rotation queue. -/
def queued (s : State) (p : Pump) : State :=
  { s with
    inputs := { s.inputs with hoaAuto := s.inputs.hoaAuto.set p true }
    dsq := { s.dsq with queue := s.dsq.queue ++ [p] } }

/-- A channel in service at a value. -/
def reading (s : State) (ch : Channel) (v : Nat) : State := s.setChan ch (ChannelRec.enterService v false)

def opened (s : State) : State := { s with spm := { s.spm with permit := .opened } }

def raking (s : State) (sc : Screen) (k : RakeState) : State := s.modScreen sc fun r => { r with rake := k }

def pumping (s : State) (p : Pump) (r : RunState) : State := s.modDuty p fun d => { d with run := r }

def guarded (s : State) (p : Pump) (k : Protection) : State := s.modProt p fun r => { r with protection := k }

/-- An episode that began in the first second. -/
def episode : Episode := ⟨.uptime 0, 0, some (.uptime 3, 3), some (.uptime 4, 4), 20, 0, false⟩

/-- Point 1 in an episode state. -/
def spilling (s : State) (k : EpisodeState) : State :=
  s.modPoint .n1 fun r => { r with state := k, episode := some episode }

/-- A log of `k` records whose first number is `n`. -/
def logFrom (n k : Nat) : StationRecord :=
  { StationRecord.cold with
    log := (List.range' n k).map fun i => ⟨i, .uptime 0, .generator true⟩
    nextSeq := followingSeq (n + k - 1)
    cursors := .fill n }

def logged (r : StationRecord) : State := { State.reset with src := r }

/-- The station clock at a reading of 2025-03-01. -/
def clocked (s : State) (second : Nat) : State :=
  { s with src := { s.src with clock := some ⟨⟨2025, 3, 1⟩, second⟩, day := some ⟨2025, 3, 1⟩ } }

def sending (fs : List Frame) : State := State.reset.modLink .panel fun r =>
  { r with request := .sending, transmit := .answer fs 0 }

/-- A whole frame received but for its last byte. -/
def almost (code : Byte) (payload : List Byte) : State :=
  State.reset.modLink .panel fun r =>
    { r with receive := (Receive.feed .hunt (requestFrame code payload).dropLast).1, gap := some 0 }

/-- The next state of a command. -/
def after (c : Instr) (s : State) : State := nextOr s (exec c s)

theorem numbered_range (n k : Nat) :
    numberedFrom n ((List.range' n k).map fun i => (⟨i, .uptime 0, .generator true⟩ : LogRecord)) := by
  induction k generalizing n with
  | zero => trivial
  | succ k ih => exact ⟨rfl, ih (n + 1)⟩

/-- The requests are in order where nothing waits and no screen has a timer of its cycle running. -/
theorem noRequests {s : State} (h : s.spm.waiting = [])
    (k : ∀ sc r, s.scr.screens.get sc = some r → r.reverse = none ∧ r.homeLeave = none ∧ r.cycle = none)
    (i : ∀ sc, s.screenIn sc = false → s.scr.screens.get sc = none) : RequestsOk s :=
  ⟨by simp [h], by simp [h], fun sc r e i => by simp [(k sc r e).1] at i, fun sc r e i => by simp [k sc r e] at i, i⟩

/-- The trips are in order where the pumps are as a start leaves them but for one rest, that of pump 1. -/
theorem tripsInOrder {s : State} (k : ∀ p, p ≠ .n1 → s.ppr.get p = .atStart) (l : s.img.prot.lockoutTrips = 3)
    (h : TripOk 3 (s.pumpIn .n1) (s.ppr.get .n1)) : TripsOk s := by
  intro p
  rw [l]
  by_cases e : p = .n1
  · exact e ▸ h
  · rw [k p e]
    exact ⟨by decide, by decide, fun _ => rfl, fun h => by cases h⟩

theorem logOk_logFrom (n : Nat) (hn : 1 ≤ n) (hm : n ≤ max32) : LogOk (logFrom n 1) where
  some_record := by simp [logFrom]
  at_most_96 := by simp [logFrom]
  first := by simpa [logFrom, StationRecord.oldest] using hn
  last := by simpa [logFrom, StationRecord.newest] using hm
  numbered := ⟨rfl, trivial⟩
  counter := by simp [logFrom, StationRecord.newest]
  cursors := by
    intro l
    simp only [logFrom, StationRecord.position, StationRecord.newest, StationRecord.oldest, PerLink.get_fill]
    have : max32 = 4294967295 := rfl
    constructor <;> simp <;> split <;> omega

/-! ## Well-formed commands -/

theorem test_payload_of_240_is_well_formed :
    (Instr.readPumps .panel (List.replicate 240 0)).wellFormed = true := by
  decide +kernel

theorem test_payload_of_241_is_refused : (Instr.readPumps .panel (List.replicate 241 0)).wellFormed = false := by
  decide +kernel

theorem test_unknown_code_of_the_catalogue_is_refused : (Instr.unknownRequest .panel 0x33 []).wellFormed = false := by
  decide

theorem test_no_word_spells_a_command : (State.reset.withFetchWord 32 5) = State.reset := rfl

/-! ## Figures of the spec -/

/-- Section 1.7: counts 1843 to 1846 on span 6000. -/
theorem test_conversion_of_section_1_7 :
    [1843, 1844, 1845, 1846].map (Image.defaults.convert .wellPri) = [1875, 1877, 1879, 1881] := by decide

/-- R3: a count below 819 clamps at 0, and the well's depth clamps above. -/
theorem test_conversion_clamps :
    Image.defaults.convert .wellPri 737 = 0 ∧ Image.defaults.convert .wellPri 4095 = 6000 ∧
    Image.defaults.classify .wellPri 736 = none ∧ Image.defaults.classify .wellPri 4089 = some (5989, false) := by decide

/-- Section 1.7: rounds 2 to 4 of WELL_PRI. -/
theorem test_filter_of_section_1_7 :
    let r := ChannelRec.enterService 1877 false
    (r.feed 1879 false).filtered = some 1878 ∧ ((r.feed 1879 false).feed 1881 false).filtered = some 1879 := by decide

/-- Section 1.8: at 530.1 s the higher reading rules, at 600.0 s agreement is pending. -/
theorem test_disagreement_of_section_1_8 :
    Disagreement.compare .agree (decide (150 < 160)) 500100 = .disagreePending 500100 ∧
    Disagreement.compare .disagree (decide (150 < 120)) 600000 = .agreePending 600000 ∧
    Disagreement.compare (.agreePending 600000) (decide (150 < 160)) 615000 = .disagree := by decide

/-- Section 2.10: duties of 60, 65, 70 and 75 %. -/
theorem test_duties_of_section_2_10 : [60, 65, 70, 75].map dutyOf = [153, 166, 179, 191] := by decide

/-- Section 2.10: the speed stage at 1750, 1800 and 1690 mm. -/
theorem test_stage_of_section_2_10 :
    nextStage .defaults .min 1750 = .min ∧ nextStage .defaults .min 1800 = .mid ∧ nextStage .defaults .mid 1690 = .min := by
  decide

/-- Section 2.9: at 1800 mm position 1 is called and the head of the queue is granted in OPEN. -/
theorem test_first_start_of_section_2_9 :
    let s := opened (queued (queued State.reset .n2) .n3)
    let s := { s with dsq := { s.dsq with pumps := .fill (DutyPump.atStart none), calls := ⟨true, false, false, false⟩ } }
    (reading s .wellPri 1800).reform.runState .n2 = .starting := by decide

/-- Section 4.11: the limit written to 2, then 1, then 5. -/
theorem test_limits_of_section_4_11 :
    let pump (k : Protection) (n : Nat) : ProtectedPump := { ProtectedPump.atStart with protection := k, trips := n }
    let q : Quad ProtectedPump := ⟨pump .healthy 2, pump .lockedOut 3, pump .tripped 1, pump .healthy 0⟩
    let trips (q : Quad ProtectedPump) : List Nat := No4.all.map fun p => (q.get p).trips
    trips (limitAll q 2) = [1, 2, 1, 0] ∧ trips (limitAll (limitAll q 2) 1) = [0, 1, 0, 0] ∧
    trips (limitAll (limitAll (limitAll q 2) 1) 5) = [0, 5, 0, 0] := by decide

/-- Section 6.9: the flows at heads of 20, 120, 250, 60 and 4 mm. -/
theorem test_flows_of_section_6_9 :
    [20, 120, 250, 60, 4].map (spillFlow defaultRating) = [90, 640, 2000, 270, 18] := by decide

/-- Section 7.8: stored volumes and the rates at 3120 s. -/
theorem test_balance_of_section_7_8 :
    let t : List TablePoint := [⟨0, 0⟩, ⟨1000, 12000⟩, ⟨2000, 30000⟩, ⟨3000, 52000⟩, ⟨4000, 80000⟩]
    let h : List Interval := [770, 770, 770, 770, 770, 770, 860, 878, 896, 878, 878, 878].map fun n =>
      ⟨0, 230, 0, 0, some (n, n)⟩
    [1480, 1876, 3200].map (volumeAt t) = [20640, 27768, 57600] ∧
    ratesOf h = ⟨some 88, some 88, some 23, some 77⟩ ∧ trendOf (ratesOf h) 5 = .rising := by decide

/-- Section 7.9: the estimate of pump 1 without a drive and pump 2 at 73 % of 455 dL/s. -/
theorem test_estimate_of_section_7_9 :
    let s := withSetting (withSetting State.reset (.hasDrive .n2) 1) (.ratedFlow .n2) 455
    ((pumping (pumping s .n1 .running) .n2 .running).modDuty .n2 fun d => { d with refInForce := 73 }).estimate = 832 := by
  decide

/-- Section 7.9: the pulse at 5053.6 s after the capture at 5006.3 s, and the one 1.2 s later. -/
theorem test_rate_of_section_7_9 :
    let s := State.reset.modFbl fun b => { b with lastCapture := some 5006300, rate := some 0 }
    (after .flowPulse { s with uptime := 5053600 }).fbl.rate = some 2 ∧
    (after .flowPulse ({ s with uptime := 5007500 } : State)).fbl.rate = some 83 := by decide

/-- Section 10.1: the check of the nine bytes "123456789". -/
theorem test_crc_of_section_10_1 :
    crc [0x31#8, 0x32#8, 0x33#8, 0x34#8, 0x35#8, 0x36#8, 0x37#8, 0x38#8, 0x39#8] = 0x29B1#16 := by
  decide +kernel

/-- R58, section 3.6: the spacing on mains and on the generator. -/
theorem test_spacing_follows_the_generator :
    State.reset.spacing = 5 ∧ ({ State.reset with inputs := { State.reset.inputs with onGenerator := true } } : State).spacing = 15 := by
  decide

/-- R170, R171: the last byte of a READ_SEAT frame carries the request out. -/
theorem test_frame_is_answered :
    ((after (.byteReceived .panel ((requestFrame 0x0E []).getLastD 0)) (almost 0x0E [])).link .panel).request = .sending := by
  decide +kernel

/-- R175: a code outside the catalogue is answered UNKNOWN. -/
theorem test_unknown_request :
    ((after (.unknownRequest .panel 0x55 []) State.reset).link .panel).transmit = .answer [answerFrame 0x55 [1]] 0 := by
  decide +kernel

/-- R149, R155, R189: after reset the general alarm output alone is energised. -/
theorem test_outputs_after_reset : No4.all.map State.reset.outputNow = [false, false, true, false] := by
  decide +kernel

/-- R191, R189: the start of a held cold part with an empty store, every input inactive, is the state after reset. -/
theorem test_cold_start_is_reset :
    after .start { held with marker := false, alm := { held.alm with outputs := .fill true } } = State.reset := by
  decide +kernel

/-- R54: the latch calls a pump, and no run set is formed before a well channel has ended its start-up checks. -/
theorem test_first_formation_waits_for_the_level :
    let s := { queued State.reset .n1 with
      dsq := { (queued State.reset .n1).dsq with latch := true, pumps := .fill (DutyPump.atStart none) } }
    let failed : ChannelRec := { ChannelRec.atStart with state := .fault .check }
    s.reform.runState .n1 = .stopped ∧
    (((s.setChan .wellPri failed).setChan .wellSec failed).reform).runState .n1 = .waiting := by decide +kernel

/-- R59: at 6 s the permit stands OPEN on 5 s; on the generator's 15 s it is in SPACING again. -/
theorem test_generator_closes_an_open_permit :
    let s := after (.onGeneratorChange true) { opened State.reset with uptime := 6000 }
    s.spm.permit = .spacing ∧ s.spm.spacingStart = 0 := by decide +kernel

/-- R131, in a state that no run reaches: the control level that a sample leaves decides, and with none there is no mark. -/
theorem test_rescale_is_judged_on_the_level_it_leaves :
    let blind : ChannelRec := { ChannelRec.enterService 1000 false with filtered := none }
    let s := (((State.reset.setChan .wellPri blind).setChan .wellSec blind).expectRescaled .wellSec)
    let t := after (.sample .wellSec 1000) { s with lvu := { s.lvu with disagreement := .disagree } }
    t.controlLevel = none ∧ t.fbl.discontinuity = false ∧ t.fbl.rescaled.get .n2 = false := by decide +kernel

/-- R61, R58, R38: at a change to a shorter spacing and a lower cap the waiting pump is granted first, and then stopped. -/
theorem test_grant_comes_before_the_new_cap :
    let s := (pumping (queued State.reset .n1) .n1 .waiting).join (.pump .n1)
    let t := after (.onGeneratorChange true) { withSetting (withSetting s .genSpacing 2) .genMaxRunning 0 with uptime := 3000 }
    t.spm.lastGrant = some (.pump .n1, 3000) ∧ t.runState .n1 = .stopped ∧ (t.dsq.pumps.get .n1).history = [3] := by
  decide +kernel

/-- R55, R57, R90, R110: one INLET sample opens an episode, which calls a pump, and fires the trigger; the pump is granted. -/
theorem test_pump_is_granted_before_the_rake :
    let s := (reading (queued (opened State.reset) .n1) .wellPri 1000).modDuty .n1 fun d => { d with minOff := none }
    let t := after (.sample .inlet 4095) (reading (reading (withSetting s .ovfConfirmS 0) .inlet 2500) .screenOut 2400)
    t.spm.lastGrant = some (.pump .n1, 0) ∧ t.rakeOf .n1 = some .waiting := by decide +kernel

/-- R131: WELL_PRI goes to FAULT after its rescale; its first valid sample marks the discontinuity all the same. -/
theorem test_rescale_is_marked_through_a_fault :
    let s := after (.writeSetting .panel (settingPayload (.zeroMm .n1) 7))
      (reading (reading (seated .panel) .wellPri 1000) .wellSec 1000)
    let lost := { s.setChan .wellPri { ChannelRec.atStart with state := .fault .sample } with
      fbl := { s.fbl with discontinuity := false } }
    (after (.sample .wellPri 700) lost).fbl.discontinuity = false ∧
    (after (.sample .wellPri 1000) lost).fbl.discontinuity = true := by
  decide +kernel

/-- R66, R78, R42: with `overtemp_s` 0 a hot pump trips within its CLEAR_LOCKOUT, before the queue could start it. -/
theorem test_hot_pump_trips_within_clear_lockout :
    let s := withSetting (opened (guarded (seated .panel) .n1 .lockedOut)) .overtempS 0
    let t := after (.clearLockout .panel [1]) { s with
      inputs := { s.inputs with overtemp := s.inputs.overtemp.set .n1 true, hoaAuto := s.inputs.hoaAuto.set .n1 true } }
    (t.ppr.get .n1).trips = 1 ∧ t.spm.lastGrant = none ∧ t.newestRecord = some (.pumpTrip .n1 .overtemp 1) := by
  decide +kernel

/-! ## Witnesses: the hypotheses of each obligation met together, one line per clause -/

theorem test_witness_QueueStep :
    ({ State.reset with pending := [.clockSecond, .hold] } : State).pending = Instr.clockSecond :: [.hold] := rfl

theorem test_witness_ConversionIsClamped : (737 ≤ 737 ∧ 737 ≤ 4095) ∧ (737 ≤ 4095 ∧ 4095 ≤ 4095) := by decide

theorem test_witness_SampleReachesItsRecord :
    let s : State := { State.reset with lvu := State.reset.lvu.setChan .inlet none }
    let low := reading State.reset .wellPri 0
    let lost := (reading State.reset .wellPri 5).setChan .wellPri
      { ChannelRec.enterService 5 false with invalidCount := 4 }
    State.reset.isHeld = false ∧ (s.isHeld = false ∧ s.chan .inlet = none) ∧
    ((after (.sample .wellPri 4095) low).controlLevel = some 1500 ∧ low.controlLevel ≠ some 1500) ∧
    (after (.sample .wellPri 0) lost).controlLevel = none := by decide +kernel

/-- The first valid sample since a rescale, and a sample of a channel that was not rescaled. -/
theorem test_witness_SampleReachesItsRecord_rescaled :
    let s := (reading State.reset .wellPri 5).modFbl fun b => { b with rescaled := b.rescaled.set .n1 true }
    s.isHeld = false ∧ (736 < (737#12).toNat ∧ (s.chan .wellPri).isSome = true ∧ s.fbl.rescaled.get .n1 = true) ∧
    (after (.sample .wellPri 737) s).controlLevel.isSome = true ∧ s.fbl.rescaled.get .n2 = false := by decide +kernel

theorem test_witness_ServiceAndFaultSamples :
    let r := ChannelRec.enterService 2 false
    let f : ChannelRec := { r with state := .fault .sample }
    let p : ChannelRec := ChannelRec.atStart
    let q (x : Option Nat) (n : Nat) : ChannelRec := { p with pairFirst := some x, pairsFailed := n }
    let c (x : Option (Option Nat)) (t : Timer) : ChannelRec := { p with state := .fault .check, pairFirst := x, checkTimer := t }
    (r.state = .inService ∧ r.history = [2, 2, 2, 2]) ∧
    (({ r with history := [] } : ChannelRec).state = .inService ∧ ({ r with history := [] } : ChannelRec).history = []) ∧
    (r.state = .inService ∧ r.invalidCount + 1 < 5) ∧
    (({ r with invalidCount := 4 } : ChannelRec).state = .inService ∧ ({ r with invalidCount := 4 } : ChannelRec).invalidCount + 1 = 5) ∧
    (f.state = .fault .sample ∧ f.validCount + 1 < 20) ∧
    (({ f with validCount := 19 } : ChannelRec).state = .fault .sample ∧ ({ f with validCount := 19 } : ChannelRec).validCount + 1 = 20) ∧
    ((p.state = .starting ∧ p.pairFirst = none) ∧ (c none none).state = .fault .check ∧ (c none none).checkTimer = none ∧
      (c none none).pairFirst = none) ∧
    ((q (some 9) 0).pairFirst = some (some 9) ∧ max 9 59 - min 9 59 ≤ 50) ∧
    ((q (some 9) 0).pairFirst = some (some 9) ∧ pairFails 50 (some 9) (some (60, false)) ∧ pairFails 50 (some 9) none ∧
      (q (some 9) 2).pairsFailed + 1 < 4 ∧ (q (some 9) 3).pairsFailed + 1 = 4) ∧
    ((q none 3).pairFirst = some none ∧ pairFails 50 none (some (9, false)) ∧ (q none 3).pairsFailed + 1 = 4) ∧
    ((c (some none) none).pairFirst = some none ∧ (c (some none) none).checkTimer = none) ∧
    ((c none (some 5)).state = .fault .check ∧ (c none (some 5)).checkTimer.isSome = true) := by
  refine ⟨by decide, by decide, by decide, by decide, by decide, by decide, by decide, by decide,
    ⟨by decide, by unfold pairFails; decide, trivial, by decide, by decide⟩, ⟨by decide, trivial, by decide⟩, by decide, by decide⟩

theorem test_witness_LevelTimers :
    let c : ChannelRec := { ChannelRec.atStart with state := .fault .check, checkTimer := some 7 }
    let two := reading (reading State.reset .wellPri 2000) .wellSec 2200
    let pair (d : Disagreement) : State := { two with lvu := { two.lvu with disagreement := d } }
    let wait : State := { State.reset with lvu := { State.reset.lvu with floatCheck := some 7 } }
    ((State.reset.setChan .inlet c).isHeld = false ∧ (State.reset.setChan .inlet c).chan .inlet = some c ∧ c.checkTimer = some 7) ∧
    (wait.isHeld = false ∧ wait.lvu.floatCheck = some 7) ∧
    ((pair (.disagreePending 7)).isHeld = false ∧ (pair (.disagreePending 7)).level .wellPri = some 2000 ∧
      (pair (.disagreePending 7)).level .wellSec = some 2200 ∧ (pair (.disagreePending 7)).lvu.disagreement = .disagreePending 7) ∧
    ((pair (.agreePending 7)).level .wellPri = some 2000 ∧ (pair (.agreePending 7)).level .wellSec = some 2200 ∧
      (pair (.agreePending 7)).lvu.disagreement = .agreePending 7) := by decide +kernel

theorem test_witness_FloatChange :
    (State.reset.isHeld = false ∧ State.reset.inputs.getFloat .high = !true) ∧
    State.reset.inputs.getFloat .lowLow = (!true) ∧ State.reset.inputs.getFloat .highHigh = (!true) ∧
    (State.reset.inputs.setFloat .highHigh true).getFloat .highHigh = (!false) := by decide

theorem test_witness_LowLowStopsEveryPump :
    let s := pumping (queued State.reset .n1) .n1 .running
    s.isHeld = false ∧ RequestsOk s ∧ s.inputs.floatLowLow = false ∧ s.runState .n1 = .running :=
  ⟨rfl, noRequests rfl (by intro sc r h; cases sc <;> (cases h; exact ⟨rfl, rfl, rfl⟩)) (by intro sc h; cases sc <;> cases h), rfl, rfl⟩

theorem test_witness_RunTimersReform :
    let s := State.reset.modDuty .n1 fun d => { d with minRun := some 3, minOff := some 4, history := [5, 9] }
    s.isHeld = false ∧ (s.dsq.pumps.get .n1).minRun = some 3 ∧ (s.dsq.pumps.get .n1).minOff = some 4 ∧
    (s.dsq.pumps.get .n1).history = 5 :: [9] := by decide

/-- Two pumps held on by their min-run timers where the cap is 1. -/
def crowded : State :=
  (withSetting State.reset .maxRunning 1).each [.n1, .n2] fun s p =>
    s.modDuty p fun d => { d with run := .running, minRun := some 0, startTime := some 5 }

/-- Pump 1 called by the level, with nothing that holds it off. -/
def called : State :=
  (reading (queued State.reset .n1) .wellPri 1810).judgeCalls.modDuty .n1 fun d => { d with minOff := none }

theorem test_witness_RunTimersReform_formation :
    ([.n3, .n1] : List Pump).Nodup ∧ called.eligible .n1 = true ∧ called.wanted = [.n1] ∧
    (RequestsOk called ∧ called.runState .n1 = .stopped ∧ called.reform.runState .n1 = .waiting) ∧
    (called.reform.reform.dsq.runSet = [.n1] ∧ (opened called).reform.runCmd .n1 = true) ∧
    (crowded.mustStop crowded.wanted = none ∧
      crowded.slots < (crowded.fit crowded.wanted).length + (crowded.runningOut crowded.wanted).length ∧
      crowded.reform.runCmd .n1 = true ∧ crowded.reform.runState .n2 = .stopped) :=
  ⟨by decide, by decide, by decide +kernel,
    ⟨noRequests (by decide) (by intro sc r h; cases sc <;> (cases h; exact ⟨rfl, rfl, rfl⟩)) (by intro sc h; cases sc <;> cases h), by decide, by decide +kernel⟩, by decide +kernel,
    by decide +kernel⟩

theorem test_witness_DriveSpeed :
    let s := (withSetting State.reset (.hasDrive .n1) 1).modDuty .n1 fun d => { d with rampNext := some 3 }
    s.isHeld = false ∧ (s.dsq.pumps.get .n1).rampNext = some 3 ∧ s.img.drive .n1 = true ∧ s.img.drive .n2 = false ∧
    0 ≤ 100 ∧ 100 ≤ 100 := by decide

theorem test_witness_PumpRequests :
    let s := queued (seated .panel) .n1
    let out := { guarded (seated .panel) .n1 .lockedOut with src := logFrom 7 1 }
    let hot : State := { withSetting out .overtempS 0 with inputs := { out.inputs with overtemp := out.inputs.overtemp.set .n1 true } }
    (s.taking .panel ∧ s.holds .panel = true ∧ 2 ≤ 2 ∧ 100 ≤ 100) ∧
    (s.dsq.queue.contains .n1 = true ∧ RequestsOk s ∧ s.dsq.queue.contains .n2 = false) ∧
    ((0#8).toNat = 0 ∧ 4 < (5#8).toNat ∧ 2 < (3#8).toNat ∧ 100 < (101#8).toNat) ∧
    (out.taking .panel ∧ out.holds .panel = true ∧ out.pumpIn .n1 = true ∧ (out.ppr.get .n1).protection = .lockedOut ∧
      out.img.prot.overtempS ≠ 0 ∧ out.inputs.overtemp.get .n1 = false) ∧
    (hot.taking .panel ∧ hot.holds .panel = true ∧ hot.pumpIn .n1 = true ∧ (hot.ppr.get .n1).protection = .lockedOut ∧
      (hot.ppr.get .n1).faults.overtemp = none ∧ hot.img.prot.overtempS = 0 ∧ hot.inputs.overtemp.get .n1 = true ∧
      LogOk hot.src ∧ hot.src.newest + 3 ≤ max32) ∧
    (out.ppr.get .n2).protection ≠ .lockedOut ∧ (withSetting out .pumpsInstalled 3).pumpIn .n4 = false :=
  ⟨⟨⟨rfl, rfl⟩, rfl, by decide, by decide⟩,
    ⟨by decide, noRequests rfl (by intro sc r h; cases sc <;> (cases h; exact ⟨rfl, rfl, rfl⟩)) (by intro sc h; cases sc <;> cases h), by decide⟩, by decide,
    ⟨⟨rfl, rfl⟩, rfl, by decide, by decide, by decide, by decide⟩,
    ⟨⟨rfl, rfl⟩, rfl, by decide, by decide, by decide, by decide, by decide, logOk_logFrom 7 (by decide) (by decide), by decide⟩,
    by decide, by decide⟩

theorem test_witness_SpacingExpiryGrantsOrOpens :
    let s := queued (State.reset.join (.pump .n1)) .n1
    (State.reset.isHeld = false ∧ State.reset.spm.permit = .spacing ∧ State.reset.ranked = []) ∧
    (s.isHeld = false ∧ s.spm.permit = .spacing ∧ s.ranked = ⟨.pump .n1, 0⟩ :: []) ∧
    (State.reset.join (.screen .n2)).requestOf (.screen .n2) = some ⟨.screen .n2, 0⟩ ∧
    ((0 < 2 ∧ 1 < 2) ∧ s.requestOf (.pump .n1) = some ⟨.pump .n1, 0⟩ ∧ .n1 ∈ s.dsq.queue) := by decide +kernel

/-- R57: forced pumps in queue order, other pumps in queue order, then screens by arrival, screen 1 first at equal arrivals. -/
theorem test_rank_of_every_requester :
    let all (s : State) : State := [.screen .n2, .screen .n1, .pump .n1, .pump .n2, .pump .n3, .pump .n4].foldl State.join s
    let s := [No4.n4, .n3, .n2, .n1].foldl queued (all State.reset)
    let f := fun t p => State.modDuty t p fun d => { d with override := some ⟨.forceRun none, .panel⟩ }
    ([No4.n1, .n3].foldl f s).ranked.map (·.who) =
      [.pump .n3, .pump .n1, .pump .n4, .pump .n2, .screen .n1, .screen .n2] := by decide +kernel

theorem test_witness_RunFeedback :
    let s := queued State.reset .n1
    let on : State := { s with inputs := { s.inputs with runFb := s.inputs.runFb.set .n1 true } }
    let run := (withSetting (reading (pumping on .n1 .running) (.cur .n1) 100) (.ocLimit .n1) 300).modDuty .n1 fun d =>
      { d with minRun := some 0 }
    (s.isHeld = false ∧ s.pumpIn .n1 = true ∧ s.runFb .n1 = false ∧ s.runCmd .n1 = false ∧ s.inAuto .n1 = true) ∧
    (pumping s .n1 .starting).runState .n1 = .starting ∧ (pumping s .n1 .running).runState .n1 = .running ∧
    (on.pumpIn .n1 = true ∧ on.runFb .n1 = true ∧ on.runCmd .n1 = false) ∧
    ((pumping on .n1 .running).runFb .n1 = true ∧ (pumping on .n1 .running).runCmd .n1 = true ∧
      ((pumping on .n1 .running).ppr.get .n1).protection.watched = true) ∧
    (run.pumpIn .n1 = true ∧ (run.ppr.get .n1).protection.watched = true ∧ run.runState .n1 = .running ∧
      run.level (.cur .n1) = some 100 ∧ (after (.sample (.cur .n1) 4000) run).level (.cur .n1) = some 318 ∧
      ((after (.sample (.cur .n1) 4000) run).ppr.get .n1).faults.overcurrent = some 0 ∧
      ((after (.runFbChange .n1 false) run).ppr.get .n1).faults.runLost = some 0) ∧
    ((withSetting s .pumpsInstalled 3).pumpIn .n4 = false ∧ (withSetting s .pumpsInstalled 3).runFb .n4 = !true) := by
  decide +kernel

theorem test_witness_HoaChange :
    let s := queued State.reset .n1
    (State.reset.isHeld = false ∧ State.reset.inputs.getHoa .n1 .auto = (!true) ∧ State.reset.pumpIn .n1 = true ∧
      (State.reset.ppr.get .n1).protection.watched = true) ∧
    (s.inputs.getHoa .n1 .auto = (!false) ∧ s.dsq.queue.contains .n1 = true) ∧
    ((withSetting s .pumpsInstalled 1).pumpIn .n2 = false ∧ s.inputs.getHoa .n2 .hand = !true) ∧
    (let v := guarded { State.reset with inputs := { State.reset.inputs with runFb := State.reset.inputs.runFb.set .n1 true } } .n1
      .tripped
    v.inAuto .n1 = false ∧ v.runFb .n1 = true ∧ v.runCmd .n1 = false ∧ (after (.hoaChange .n1 .auto true) v).inAuto .n1 = true ∧
      (after (.hoaChange .n1 .auto true) v).spm.permit = v.spm.permit) := by decide +kernel

theorem test_witness_TripAndLockout :
    let pump (n : Nat) : State := (guarded (logged (logFrom 7 1)) .n1 .alert).modProt .n1 fun r =>
      { r with trips := n, faults := { r.faults with overtemp := some 3 } }
    ∀ n, n = 1 ∨ n = 2 →
      (pump n).isHeld = false ∧ ((pump n).ppr.get .n1).faults.get .overtemp = some 3 ∧
      ((pump n).ppr.get .n1).protection.watched = true ∧ LogOk (pump n).src ∧ (pump n).src.newest + 2 ≤ max32 ∧
      (if n = 1 then ((pump n).ppr.get .n1).trips + 1 < (pump n).img.prot.lockoutTrips
        else (pump n).img.prot.lockoutTrips ≤ ((pump n).ppr.get .n1).trips + 1) := by
  rintro pump n (rfl | rfl)
  all_goals exact ⟨rfl, rfl, rfl, logOk_logFrom 7 (by decide) (by decide), by decide, by decide⟩

theorem test_witness_OvertempChange :
    let s := State.reset
    let hot (s : State) : State := { s with inputs := { s.inputs with overtemp := s.inputs.overtemp.set .n1 true } }
    let cooling := (guarded (hot s) .n1 .tripped).modProt .n1 fun r => { r with awaitingCool := true }
    (s.isHeld = false ∧ s.pumpIn .n1 = true ∧ (s.ppr.get .n1).protection.watched = true ∧ s.inputs.overtemp.get .n1 = false ∧
      (s.ppr.get .n1).faults.overtemp = none ∧ s.img.prot.overtempS ≠ 0 ∧ (withSetting s .overtempS 0).img.prot.overtempS = 0) ∧
    ((hot s).pumpIn .n1 = true ∧ ((hot s).ppr.get .n1).protection.watched = true ∧ (hot s).inputs.overtemp.get .n1 = true) ∧
    ((cooling.ppr.get .n1).protection = .tripped ∧ (cooling.ppr.get .n1).awaitingCool = true ∧
      cooling.inputs.overtemp.get .n1 = true) ∧
    (((guarded s .n1 .lockedOut).ppr.get .n1).protection.watched = false ∧ ((guarded s .n1 .lockedOut).ppr.get .n1).awaitingCool = false ∧
      (guarded s .n1 .lockedOut).inputs.overtemp.get .n1 = !true) ∧
    ((withSetting s .pumpsInstalled 3).pumpIn .n4 = false ∧ (withSetting s .pumpsInstalled 3).inputs.overtemp.get .n4 = !true) := by
  decide +kernel

theorem test_witness_ProtectionTimers :
    let s := guarded (State.reset.modProt .n1 fun r =>
      { r with runningSince := some 3, rest := some 4, forgive := some 5, trips := 1, watch := .stopWatch (some 6) }) .n1 .alert
    let t := State.reset.modProt .n1 fun r => { r with watch := .uncommanded (some 6) }
    let hot : State := { s with inputs := { s.inputs with overtemp := s.inputs.overtemp.set .n1 true } }
    s.isHeld = false ∧ (s.ppr.get .n1).runningSince = some 3 ∧ s.pumpIn .n1 = true ∧ (s.ppr.get .n1).protection.watched = true ∧
    ((s.ppr.get .n1).rest = some 4 ∧ s.inputs.overtemp.get .n1 = false) ∧
    ((hot.ppr.get .n1).rest = some 4 ∧ hot.inputs.overtemp.get .n1 = true) ∧
    ((s.ppr.get .n1).forgive = some 5 ∧ (s.ppr.get .n1).trips ≠ 0 ∧ (s.ppr.get .n1).protection ≠ .lockedOut) ∧
    (s.ppr.get .n1).watch = .stopWatch (some 6) ∧ (t.ppr.get .n1).watch = .uncommanded (some 6) := by decide +kernel

theorem test_witness_SealLeak :
    let s := State.reset.modProt .n1 fun r => { r with sealTimer := some 3 }
    let on : State := { s with inputs := { s.inputs with sealLeak := s.inputs.sealLeak.set .n1 true } }
    s.isHeld = false ∧ s.pumpIn .n1 = true ∧ s.inputs.sealLeak.get .n1 = false ∧ on.inputs.sealLeak.get .n1 = true ∧
    (s.ppr.get .n1).sealTimer = some 3 := by decide

theorem test_witness_GrantStartsItsRequester :
    let s := queued (State.reset.join (.pump .n1)) .n1
    let run : State := { s with inputs := { s.inputs with runFb := s.inputs.runFb.set .n1 true } }
    let full := s.modDuty .n1 fun d => { d with history := List.replicate 16 1 }
    let high := reading (reading (opened State.reset) .inlet 1500) .screenOut 1400
    ((s.dsq.pumps.get .n1).history.length < 16 ∧ 16 ≤ (full.dsq.pumps.get .n1).history.length) ∧
    ((withSetting s .minSpeed 45).img.drive .n1 = false ∧ (withSetting s (.hasDrive .n1) 1).img.drive .n1 = true) ∧
    (run.runFb .n1 = true ∧ s.runFb .n1 = false ∧ s.pumpIn .n1 = true ∧ (s.ppr.get .n1).protection.watched = true) ∧
    s.scr.screens.get .n2 = some (.atStart (some 0)) ∧
    (s.isHeld = false ∧ s.spm.permit = .spacing ∧ s.ranked = ⟨.pump .n1, 0⟩ :: []) ∧
    ((high.isHeld = false ∧ high.spm.permit = .opened ∧ high.spm.waiting = []) ∧
      (after (.sample .inlet 0) high).spm.permit = .opened ∧
      (after (.sample .inlet 4095) high).spm.lastGrant = some (.screen .n1, 0) ∧
      (after (.sample .inlet 4095) high).spm.lastGrant ≠ high.spm.lastGrant) := by decide +kernel

theorem test_witness_RakeRequest :
    let s := State.reset
    let hot : State := { reading (reading s .inlet 1150) .screenOut 1000 with
      inputs := { s.inputs with rakeThermal := ⟨true, false⟩ } }
    s.taking .panel ∧ ((0#8).toNat = 0 ∧ 2 < (3#8).toNat) ∧
    ({ s with scr := { s.scr with screens := .fill none } } : State).rakeOf .n1 = none ∧
    (raking s .n1 .jammed).rakeOf .n1 = some .jammed ∧ (raking s .n1 .failed).rakeOf .n1 = some .failed ∧
    (raking s .n1 .waiting).rakeOf .n1 = some .waiting ∧ (raking s .n1 .forward).rakeOf .n1 = some .forward ∧
    (raking s .n1 .backoff).rakeOf .n1 = some .backoff ∧
    (s.scr.screens.get .n1 = some (.atStart (some 0)) ∧ (ScreenRec.atStart (some 0)).rake = .idle ∧
      s.inputs.rakeThermal.get .n1 = false ∧ s.spm.permit = .spacing ∧ (opened s).spm.permit = .opened) ∧
    (hot.scr.screens.get .n1 = some (.atStart (some 0)) ∧ hot.inputs.rakeThermal.get .n1 = true ∧ hot.diffHigh = true ∧
      hot.isIdle (No2.other .n1) = true ∧ hot.inputs.rakeThermal.get (No2.other .n1) = false ∧ hot.spm.permit = .spacing ∧
      s.diffHigh = false) :=
  ⟨⟨rfl, rfl⟩, by decide, rfl, rfl, rfl, rfl, rfl, rfl, by decide +kernel, by decide +kernel⟩

/-- The differential trigger after a screen has gone out of service: spent, on a cold screen in SPACING and in OPEN, and on a hot
one; met by the failures of O19 and O21 and the entry to JAMMED of O23. -/
theorem test_witness_JudgedAfter :
    let i := State.reset
    let high : State := reading (reading i .inlet 1150) .screenOut 1000
    let hot : State := { high with inputs := { i.inputs with rakeThermal := .fill true } }
    let idle := ScreenRec.atStart (some 0)
    i.diffHigh = false ∧ (high.diffHigh = true ∧ (raking high .n2 .jammed).isIdle (No2.other .n1) = false) ∧
    (high.scr.screens.get (No2.other .n1) = some idle ∧ idle.rake = .idle) ∧
    (high.inputs.rakeThermal.get .n2 = false ∧ high.spm.permit = .spacing ∧ (opened high).spm.permit = .opened ∧
      (opened high).diffHigh = true) ∧
    (hot.diffHigh = true ∧ hot.inputs.rakeThermal.get .n2 = true ∧ hot.scr.screens.get .n2 = some idle) := by decide +kernel

theorem test_witness_RakeReset :
    let s := raking (seated .panel) .n1 .jammed
    let r : ScreenRec := { ScreenRec.atStart (some 0) with rake := .jammed }
    let two := reading (reading s .inlet 1150) .screenOut 1000
    let high := raking two .n2 .failed
    let hot : State := { high with inputs := { high.inputs with rakeThermal := ⟨true, false⟩ } }
    (s.taking .panel ∧ s.holds .panel = true) ∧ ((0#8).toNat = 0 ∧ 2 < (3#8).toNat) ∧
    ((seated .panel).rakeOf .n1 ≠ some .jammed ∧ (seated .panel).rakeOf .n1 ≠ some .failed) ∧
    (s.scr.screens.get .n1 = some r ∧ r.rake = .jammed ∧ s.diffHigh = false) ∧
    (high.scr.screens.get .n1 = some r ∧ high.diffHigh = true ∧ high.isIdle (No2.other .n1) = false ∧
      high.inputs.rakeThermal.get .n1 = false ∧ high.spm.permit = .spacing ∧ (opened high).spm.permit = .opened) ∧
    (hot.scr.screens.get .n1 = some r ∧ hot.diffHigh = true ∧ hot.isIdle (No2.other .n1) = false ∧
      hot.inputs.rakeThermal.get .n1 = true) ∧
    (two.scr.screens.get .n1 = some r ∧ two.scr.screens.get (No2.other .n1) = some (.atStart (some 0)) ∧ two.diffHigh = true ∧
      firstInTurn .n1 none none = true ∧ firstInTurn .n2 none none = false ∧
      (after (.rakeReset .panel [1]) two).rakeOf .n1 = some .waiting) :=
  ⟨⟨⟨rfl, rfl⟩, rfl⟩, by decide, by decide, by decide +kernel, by decide +kernel, by decide +kernel, by decide +kernel⟩

theorem test_witness_RakeFaults :
    let r : ScreenRec := { ScreenRec.atStart none with rake := .forward, homeLeave := some 3, cycle := some 3 }
    let s : State := { State.reset with scr := { State.reset.scr with screens := .fill (some r) } }
    let i := State.reset
    s.isHeld = false ∧ s.scr.screens.get .n1 = some r ∧ s.inputs.rakeTorque.get .n1 = false ∧ r.rake = .forward ∧
    (i.inputs.rakeTorque.get .n1 = (!true) ∧ (ScreenRec.atStart (some 0)).rake ≠ .forward) ∧
    r.homeLeave = some 3 ∧ r.cycle = some 3 ∧ s.inputs.rakeThermal.get .n1 = false ∧
    (i.inputs.rakeThermal.get .n1 = (!true) ∧ (ScreenRec.atStart (some 0)).rake = .idle) := by decide

/-- The differential at 400 mm, above `rake_start_mm`. -/
def headed (s : State) : State := reading (reading s .inlet 3000) .screenOut 2600

def hotRake (s : State) (sc : Screen) : State :=
  { s with inputs := { s.inputs with rakeThermal := s.inputs.rakeThermal.set sc true } }

theorem test_witness_RakeHome :
    let r : ScreenRec := { ScreenRec.atStart none with rake := .forward, leftHome := true }
    let again : ScreenRec := { r with again := true }
    let with2 (q : ScreenRec) : State := { State.reset with scr := { State.reset.scr with screens := ⟨some again, some q⟩ } }
    let s : State := { State.reset with scr := { State.reset.scr with screens := .fill (some r) } }
    let home (s : State) : State := { s with inputs := { s.inputs with rakeHome := .fill true } }
    let idle := with2 (ScreenRec.atStart none)
    let alone := raking (with2 r) .n2 .failed
    let done := after (.rakeHomeChange .n1 true)
    s.isHeld = false ∧ s.scr.screens.get .n1 = some r ∧ (home s).inputs.rakeHome.get .n1 = true ∧ r.rake = .forward ∧
    (s.inputs.rakeHome.get .n1 = false ∧ r.leftHome = true ∧ r.again = false ∧ s.diffHigh = false ∧ s.isBlinded = false) ∧
    ((with2 r).scr.screens.get .n1 = some again ∧ (with2 r).inOrder .n2 = true ∧
      (done (with2 r)).scr.screens.get .n2 = some again ∧ (done (with2 r)).rakeOf .n1 = some .idle) ∧
    (idle.inOrder .n2 = true ∧ (done idle).rakeOf .n2 = some .waiting ∧ (done (opened idle)).rakeOf .n2 = some .forward) ∧
    ((hotRake idle .n2).diffHigh = false ∧ (done (hotRake idle .n2)).rakeOf .n2 = some .failed ∧
      (done (hotRake idle .n2)).rakeOf .n1 = some .idle) ∧
    ((hotRake (headed idle) .n2).diffHigh = true ∧ (done (hotRake (headed idle) .n2)).rakeOf .n1 = some .waiting) ∧
    (alone.scr.screens.get .n1 = some again ∧ alone.inOrder .n2 = false ∧ (done alone).rakeOf .n1 = some .waiting) ∧
    (State.reset.inputs.rakeHome.get .n1 = false ∧ (ScreenRec.atStart (some 0)).rake ≠ .forward) ∧
    (home State.reset).inputs.rakeHome.get .n1 = true := by decide +kernel

theorem test_witness_RakeTimers :
    let r (n : Nat) : ScreenRec := { ScreenRec.atStart none with rake := .backoff, reverse := some 3, retries := n }
    let s (n : Nat) : State := { State.reset with scr := { State.reset.scr with screens := .fill (some (r n)) } }
    let i := State.reset
    ((s 3).isHeld = false ∧ (s 3).scr.screens.get .n1 = some (r 3) ∧ (r 3).reverse = some 3 ∧ (r 3).retries ≤ (s 3).img.screen.jamRetries ∧
      (s 3).spm.permit = .spacing ∧ (opened (s 3)).spm.permit = .opened) ∧
    ((s 4).scr.screens.get .n1 = some (r 4) ∧ (s 4).img.screen.jamRetries < (r 4).retries) ∧
    (i.scr.screens.get .n1 = some (ScreenRec.atStart (some 0)) ∧ (ScreenRec.atStart (some 0)).interval = some 0 ∧
      (ScreenRec.atStart (some 0)).rake = .idle ∧ i.inputs.rakeThermal.get .n1 = false ∧ i.spm.permit = .spacing) ∧
    ((opened i).spm.permit = .opened ∧ (after (.intervalTimerExpiry .n1) (opened i)).rakeOf .n1 = some .forward) ∧
    ((hotRake i .n1).inputs.rakeThermal.get .n1 = true ∧ (hotRake i .n1).diffHigh = false ∧
      (hotRake (headed i) .n1).diffHigh = true ∧ (hotRake (headed i) .n1).isIdle .n2 = true ∧
      (after (.intervalTimerExpiry .n1) (hotRake (headed i) .n1)).rakeOf .n1 = some .failed ∧
      (after (.intervalTimerExpiry .n1) (hotRake (headed i) .n1)).rakeOf .n2 = some .waiting) ∧
    (raking i .n1 .forward).scr.screens.get .n1 = some { ScreenRec.atStart (some 0) with rake := .forward } ∧
    (raking i .n1 .jammed).scr.screens.get .n1 = some { ScreenRec.atStart (some 0) with rake := .jammed } := by decide +kernel

theorem test_witness_BlindingAndGenerator :
    let s : State := { State.reset with scr := { State.reset.scr with blinded := .pending 5 (some 3) } }
    let late (n : Nat) : State := { opened State.reset with uptime := n }
    let due : State := { (queued State.reset .n1).join (.pump .n1) with uptime := 15000 }
    (s.isHeld = false ∧ s.scr.blinded = .pending 5 (some 3) ∧ s.point1Open = false) ∧
    (State.reset.isHeld = false ∧ State.reset.inputs.onGenerator = (!true)) ∧
    ({ State.reset with inputs := { State.reset.inputs with onGenerator := true } } : State).inputs.onGenerator = (!false) ∧
    ((late 14999).uptime < (late 14999).spm.spacingStart + (late 14999).img.permit.genSpacing * 1000 ∧
      0 < (late 15000).img.permit.genSpacing ∧
      (late 15000).spm.spacingStart + (late 15000).img.permit.genSpacing * 1000 ≤ (late 15000).uptime) ∧
    (due.isHeld = false ∧ due.inputs.onGenerator = (!true) ∧ due.spm.permit = .spacing ∧
      due.spm.spacingStart + due.img.permit.genSpacing * 1000 ≤ due.uptime ∧ due.ranked = ⟨.pump .n1, 0⟩ :: [] ∧
      due.img.duty.minOffS ≠ 0) ∧
    ({ State.reset.join (.screen .n1) with uptime := 15000 } : State).ranked = ⟨.screen .n1, 0⟩ :: [] := by
  decide +kernel

theorem test_witness_EpisodeOpens :
    let s := (spilling State.reset .confirming).modPoint .n1 fun r => { r with confirm := some 3, pending := some 2700 }
    ∃ r, s.isHeld = false ∧ s.ovm.points.get .n1 = some r ∧ r.state = .confirming ∧ r.confirm = some 3 ∧ r.episode = some episode ∧
      r.spillCount + r.pending.getD 0 ≤ max64 ∧ (s.src.acc.points.get .n1).spill + r.pending.getD 0 ≤ max64 :=
  ⟨_, rfl, rfl, rfl, rfl, rfl, by decide, by decide⟩

theorem test_witness_EpisodeCloses :
    let s := (spilling State.reset .ending).modPoint .n1 fun r => { r with endTimer := .running 3, lossTimer := some 3 }
    ∃ r, s.isHeld = false ∧ s.ovm.points.get .n1 = some r ∧ r.state.opened = true ∧ r.episode = some episode ∧
      (r.endTimer = .running 3 ∧ episode.candidateEnd = some (.uptime 3, 3)) ∧
      (r.lossTimer = some 3 ∧ episode.levelLoss = some (.uptime 4, 4)) :=
  ⟨_, rfl, rfl, rfl, rfl, ⟨rfl, rfl⟩, rfl, rfl⟩

theorem test_witness_AccrualSecond :
    let s (k : EpisodeState) := reading (spilling State.reset k) .wellPri 3620
    let quiet := State.reset.modFbl fun b => { b with meterSilent := true }
    (∀ k, k = .confirming ∨ k = .spilling →
      ∃ r, (s k).isHeld = false ∧ (s k).ovm.points.get .n1 = some r ∧ r.state = k ∧ r.episode = some episode ∧
        episode.age < max32 ∧ (s k).head .n1 = some 20 ∧ r.spillCount + spillFlow ((s k).img.rating.get .n1) 20 ≤ max64 ∧
        ((s k).src.acc.points.get .n1).spill + spillFlow ((s k).img.rating.get .n1) 20 ≤ max64) ∧
    ((quiet.fbl.meterSilent && !quiet.fbl.ahead) = true ∧ quiet.fbl.pumped + quiet.estimate ≤ max64) ∧
    (State.reset.fbl.meterSilent && !State.reset.fbl.ahead) = false ∧
    ({ State.reset with ovm := ⟨.fill none⟩ } : State).ovm.points.get .n2 = none ∧
    (∃ r, State.reset.ovm.points.get .n1 = some r ∧ r.state = .dry ∧ r.episode = none) := by
  refine ⟨?_, by decide, by decide, rfl, _, rfl, rfl, rfl⟩
  rintro k (rfl | rfl) <;> exact ⟨_, rfl, rfl, rfl, rfl, by decide, by decide, by decide, by decide⟩

theorem test_witness_TablesOfTheStation :
    let e (n : Option (Nat × Nat)) : Interval := ⟨0, 230, 0, 0, n⟩
    let six (n : Option (Nat × Nat)) : List Interval := List.replicate 6 (e n)
    let s := reading (State.reset.modFbl fun b => { b with rates := ⟨some 88, none, some 23, none⟩ }) .wellPri 3590
    (tableConsistent 1 defaultRating = true ∧ (⟨300, 2600⟩ : TablePoint) ∈ defaultRating ∧ 300 ≤ 5000) ∧ (0 : Int) ≤ 0 ∧
    (defaultRating = [⟨0, 0⟩, ⟨100, 450⟩] ++ ⟨200, 1400⟩ :: ⟨300, 2600⟩ :: [] ∧ 200 < 5000 ∧ 5000 ≤ 5000 ∧ 300 ≤ 300) ∧
    (5000 : Int) ≤ 6200 ∧
    (tableConsistent 0 defaultStorage = true ∧ 5 ≤ 6001 ∧ (⟨6000, 72000⟩ : TablePoint) ∈ defaultStorage ∧
      defaultStorage = [] ++ ⟨0, 0⟩ :: ⟨6000, 72000⟩ :: [] ∧ 0 < 1 ∧ 1 ≤ 6000 ∧ 0 ≤ 0 ∧ 6000 < 6001) ∧
    (([] : List Interval).length < 6 ∧ (six none).length = 6 ∧ (∃ x ∈ six none, x.inflow = none) ∧
      (six (some (1, 2))).map (·.inflow) = (List.replicate 6 (1, 2)).map some) ∧
    (s.point1Open = false ∧ s.controlLevel = some 3590 ∧ 3590 < s.img.ovf.crest.get .n1 ∧ s.fbl.rates.wellA = some 88 ∧
      s.fbl.rates.outA = some 23 ∧ s.img.flow.predictWarnS ≠ 0 ∧ s.isHeld = false) ∧
    ((spilling State.reset .spilling).point1Open = true ∧ State.reset.controlLevel = none ∧
      (reading State.reset .wellPri 3600).img.ovf.crest.get .n1 ≤ 3600 ∧ State.reset.fbl.rates.wellA = none) ∧
    (withSetting s .predictWarnS 0).img.flow.predictWarnS = 0 := by
  refine ⟨by decide, by decide, by decide, by decide, by decide, ⟨by decide, by decide, ⟨_, List.mem_cons_self, rfl⟩, by decide⟩,
    by decide, by decide, by decide⟩

theorem test_witness_FlowMeter :
    let s := State.reset.modFbl fun b => { b with lastCapture := some 3, rate := some 5, silence := .running 3 }
    let late : State := { s with uptime := 65539 }
    (s.isHeld = false ∧ s.fbl.pulses < max32 ∧ s.fbl.pumped + s.img.flow.pulseLitres * 10 ≤ max64) ∧
    State.reset.fbl.lastCapture = none ∧
    (s.fbl.lastCapture = some 3 ∧ s.fbl.saturating = false ∧ max (s.uptime - 3) 1 ≤ 65535) ∧
    (late.fbl.lastCapture = some 3 ∧ 65535 < max (late.uptime - 3) 1) ∧
    s.fbl.rate.isSome = true ∧ s.fbl.silence = .running 3 := by decide

theorem test_witness_IntervalClose :
    let s := (reading State.reset .wellPri 1510).modFbl fun b => { b with previous := ⟨some 1480, 0, ⟨0, 0⟩, .wellPri⟩ }
    s.isHeld = false ∧ s.controlLevel = some 1510 ∧ s.fbl.previous.level = some 1480 ∧ s.fbl.discontinuity = false ∧
    s.fbl.history.length ≤ 12 ∧ (after .intervalClose s).src.acc.unknownIntervals = 0 ∧
    (after .intervalClose State.reset).src.acc.unknownIntervals = 1 := by decide +kernel

theorem test_witness_Acknowledgement :
    let pressed : State := { State.reset with inputs := { State.reset.inputs with ackIn := true } }
    (State.reset.isHeld = false ∧ State.reset.inputs.ackIn = false) ∧ (pressed.isHeld = false ∧ pressed.inputs.ackIn = true) ∧
    State.reset.taking .telemetry ∧ State.reset.img.alarmIn .settingsLost = true ∧
    (withSetting State.reset .screensInstalled 1).img.alarmIn (.rakeJam .n2) = false ∧ 42 < (43#8).toNat ∧
    (State.reset.img.alarmIn .highLevel = true ∧ (State.reset.point .highLevel).state = .clear ∧
      (State.reset.point .settingsLost).state = .activeUnack) :=
  ⟨by decide, by decide, ⟨rfl, rfl⟩, by decide, by decide, by decide, by decide⟩

/-- R145: an ACK_ALARM that names a CLEAR point reports nothing, though another installed point is outstanding. -/
theorem test_ack_of_a_clear_point_reports_nothing :
    let name (a : AlarmPoint) : State :=
      after (.ackAlarm .telemetry [BitVec.ofNat 8 a.number])
        { State.reset with alm := { State.reset.alm with changes := .fill .none } }
    ((name .highLevel).alm.changes.get .panel).alarms = false ∧
    ((name .settingsLost).alm.changes.get .panel).alarms = true := by decide +kernel

theorem test_witness_ConditionMovesItsPoint :
    State.reset.condition .settingsLost = true ∧ State.reset.condition .settingsLost ≠ false ∧
    AlarmPoint.clockInvalid ≠ .settingsLost := by decide

theorem test_witness_ReadChangesEmptiesItsSet :
    State.reset.taking .panel ∧ (State.reset.link .panel).transmit = .idle := ⟨⟨rfl, rfl⟩, rfl⟩

theorem test_witness_AppendAndRelease :
    (LogOk (logged (logFrom 7 1)).src ∧ (logFrom 7 1).newest < max32 ∧ (logFrom 7 1).log.length < 96) ∧
    (LogOk (logFrom 7 96) ∧ (logFrom 7 96).newest < max32 ∧ (logFrom 7 96).log.length = 96) ∧
    (LogOk (logFrom max32 1) ∧ (logFrom max32 1).newest = max32) ∧
    ((logged (logFrom 7 1)).taking .panel ∧ (8 ≤ max32 ∧ (logFrom 7 1).newest < 8) ∧ (7 ≤ max32 ∧ 7 ≤ (logFrom 7 1).newest)) ∧
    ((logged (logFrom max32 1)).taking .panel ∧ max32 ≤ max32 ∧ max32 ≤ (logFrom max32 1).newest ∧
      (logFrom max32 1).position ((logFrom max32 1).cursors.get .panel) ≤ max32) := by
  refine ⟨⟨logOk_logFrom 7 (by decide) (by decide), by decide, by decide⟩, ⟨?_, by decide +kernel, by decide +kernel⟩,
    ⟨logOk_logFrom max32 (by decide) (by decide), by decide⟩, ⟨⟨rfl, rfl⟩, by decide, by decide⟩,
    ⟨rfl, rfl⟩, by decide, by decide, by decide⟩
  have o : (logFrom 7 96).oldest = 7 := by decide +kernel
  have n : (logFrom 7 96).newest = 102 := by decide +kernel
  exact
    { some_record := by decide +kernel
      at_most_96 := by decide +kernel
      first := by rw [o]; decide
      last := by rw [n]; decide
      numbered := by rw [o]; exact numbered_range 7 96
      counter := by decide +kernel
      cursors := by intro l; cases l <;> decide +kernel }

theorem test_witness_SettingEffects :
    let s := seated .panel
    let accepts (s : State) (x : Setting) (v : Nat) : Prop := s.taking .panel ∧ s.holds .panel = true ∧ s.Accepts x v
    let timed := s.modProt .n1 fun r => { r with faults := { r.faults with runLost := some 0 } }
    let late : State := { timed with uptime := 3000 }
    let spill := reading (spilling s .spilling) .wellPri 3620
    let one : State := { withSetting s .screensInstalled 1 with scr := { s.scr with screens := s.scr.screens.set .n2 none } }
    accepts s .minRunS 0 ∧ accepts s .minOffS 3600 ∧ accepts s (.startLevel .n1) 1799 ∧ accepts s (.stopLevel .n4) 1501 ∧
    (accepts s (.hasDrive .n1) 1 ∧ accepts (withSetting s (.hasDrive .n1) 1) (.hasDrive .n1) 0) ∧
    (accepts s .genSpacing 120 ∧ accepts s .startSpacing 30 ∧ s.uptime < s.spm.spacingStart + 30 * 1000 ∧
      accepts { s with uptime := 4000 } .startSpacing 4 ∧ 0 + 4 * 1000 ≤ ({ s with uptime := 4000 } : State).uptime ∧ s.ranked = []) ∧
    (accepts late .runLostS 3 ∧ ran ((late.ppr.get .n1).faults.get .runLost) 3 late.uptime = true ∧
      ran ((late.ppr.get .n2).faults.get .runLost) 3 late.uptime = false) ∧
    accepts s .lockoutTrips 1 ∧
    (accepts s .pumpsInstalled 1 ∧ s.pumpIn .n2 = true ∧ 1 < No4.toNat .n2 ∧
      accepts (withSetting s .pumpsInstalled 1) .pumpsInstalled 2 ∧ (withSetting s .pumpsInstalled 1).pumpIn .n2 = false) ∧
    (TripsOk (withSetting s .pumpsInstalled 1) ∧ TripsOk s) ∧ (RequestsOk one ∧ RequestsOk s) ∧
    (accepts s .screensInstalled 0 ∧ s.screenIn .n1 = true ∧ accepts one .screensInstalled 2 ∧ one.screenIn .n2 = false) ∧
    (accepts s .ovfConfirmS 0 ∧ accepts s .endConfirmS 0 ∧ accepts spill (.crest .n1) 3000 ∧ spill.pointLevel .n1 = some 3620) ∧
    (accepts s .pointsInstalled 1 ∧ s.pointIn .n2 = true ∧ accepts (withSetting s .pointsInstalled 1) .pointsInstalled 2 ∧
      (withSetting s .pointsInstalled 1).pointIn .n2 = false) ∧
    (accepts s (.route 0) 0 ∧ accepts s (.outMode .n4) 0) ∧ (accepts s .seatHoldS 10 ∧ s.inputs.localKey = false) := by
  intro s accepts timed late spill one
  have ok (u : State) (x : Setting) (v : Nat) (h : u.isHeld = false ∧ (u.link .panel).request = .free ∧ u.holds .panel = true ∧
      x.range.1 ≤ v ∧ v ≤ x.range.2 ∧ (u.img.put x v).constraintsHold = true ∧ u.img.get x ≠ v) : accepts u x v :=
    ⟨⟨h.1, h.2.1⟩, h.2.2.1, ⟨h.2.2.2.1, h.2.2.2.2.1⟩, h.2.2.2.2.2.1, h.2.2.2.2.2.2⟩
  have trips (u : State) (h : u.ppr = State.reset.ppr) (l : u.img.prot.lockoutTrips = 3) : TripsOk u :=
    tripsInOrder (fun p _ => by rw [h]; cases p <;> rfl) l
      (by rw [h]; exact ⟨by decide, by decide, fun _ => rfl, fun h => by cases h⟩)
  have quiet : RequestsOk one ∧ RequestsOk s :=
    ⟨noRequests rfl (by intro sc r e; cases sc <;> (cases e; try exact ⟨rfl, rfl, rfl⟩)) (by intro sc h; cases sc <;> first | rfl | cases h),
      noRequests rfl (by intro sc r e; cases sc <;> (cases e; exact ⟨rfl, rfl, rfl⟩)) (by intro sc h; cases sc <;> cases h)⟩
  refine ⟨ok _ _ _ ?_, ok _ _ _ ?_, ok _ _ _ ?_, ok _ _ _ ?_, ⟨ok _ _ _ ?_, ok _ _ _ ?_⟩,
    ⟨ok _ _ _ ?_, ok _ _ _ ?_, ?_, ok _ _ _ ?_, ?_, ?_⟩, ⟨ok _ _ _ ?_, ?_, ?_⟩, ok _ _ _ ?_,
    ⟨ok _ _ _ ?_, ?_, ?_, ok _ _ _ ?_, ?_⟩, ⟨trips _ ?_ ?_, trips _ ?_ ?_⟩, quiet,
    ⟨ok _ _ _ ?_, ?_, ok _ _ _ ?_, ?_⟩, ⟨ok _ _ _ ?_, ok _ _ _ ?_, ok _ _ _ ?_, ?_⟩,
    ⟨ok _ _ _ ?_, ?_, ok _ _ _ ?_, ?_⟩, ⟨ok _ _ _ ?_, ok _ _ _ ?_⟩, ok _ _ _ ?_, ?_⟩ <;> decide +kernel

/-- An accepted write of each setting that acts on levels, pumps or alarms, in a state where its clause's case holds. -/
theorem test_witness_SettingEffects_levels_and_pumps :
    let s := seated .panel
    let pair (d : Disagreement) : State :=
      let u := reading (reading s .wellPri 2000) .wellSec 2100
      { u with uptime := 9000, lvu := { u.lvu with disagreement := d } }
    let mean (v : Nat) : State := reading s .wellPri v
    let forced := s.modDuty .n1 fun d => { d with override := some ⟨.forceRun (some 40), .panel⟩ }
    let prot (f : ProtectedPump → ProtectedPump) : State := { s.modProt .n1 f with uptime := 400000 }
    let resting := guarded (prot fun r => { r with rest := some 0, trips := 1 }) .n1 .tripped
    let hot (u : State) (p : Pump) : State := { u with inputs := { u.inputs with overtemp := u.inputs.overtemp.set p true } }
    let bare := hot (withSetting (withSetting s .pumpsInstalled 1) .overtempS 0) .n2
    let stopping := prot fun r => { r with watch := .stopWatch (some 0) }
    let lenient := prot fun r => { r with forgive := some 0, trips := 1 }
    (TripsOk bare ∧ TripsOk resting ∧ TripsOk (hot resting .n1)) ∧
    (bare.Accepts .pumpsInstalled 2 ∧ bare.pumpIn .n2 = false ∧ bare.img.prot.overtempS = 0 ∧ bare.inputs.overtemp.get .n2 = true ∧
      (bare.ppr.get .n2).protection.watched = true ∧ (bare.ppr.get .n2).faults = .allStopped) ∧
    (s.Accepts (.zeroMm .n1) 7 ∧ s.Accepts (.curSpan .n2) 10 ∧ s.Accepts .wellDepth 1000 ∧
      (∀ x : Setting, x = .zeroMm .n1 ∨ x = .curSpan .n2 ∨ x = .wellDepth → x.rescales ≠ []) ∧
      Channel.well? .wellPri = some .n1 ∧ Channel.well? .wellSec = some .n2) ∧
    ((pair (.disagreePending 0)).Accepts .disagreeS 9 ∧ ran (pair (.disagreePending 0)).lvu.disagreement.timer 9 9000 = true ∧
      (pair (.agreePending 1)).Accepts .disagreeS 9 ∧ ran (pair (.agreePending 1)).lvu.disagreement.timer 9 9000 = false) ∧
    (forced.Accepts .minSpeed 80 ∧ forced.Accepts .minSpeed 30) ∧
    (stopping.Accepts .stopConfirmS 60 ∧ ran (stopping.ppr.get .n1).watch.stopTimer 60 stopping.uptime = true ∧
      ran (stopping.ppr.get .n2).watch.stopTimer 60 stopping.uptime = false) ∧
    (resting.Accepts .tripRestS 10 ∧ ran (resting.ppr.get .n1).rest 10 resting.uptime = true ∧
      resting.inputs.overtemp.get .n1 = false ∧ (hot resting .n1).Accepts .tripRestS 10 ∧
      (hot resting .n1).inputs.overtemp.get .n1 = true ∧ resting.Accepts .tripRestS 401 ∧
      ran (resting.ppr.get .n1).rest 401 resting.uptime = false) ∧
    (lenient.Accepts .tripForgiveS 400 ∧ ran (lenient.ppr.get .n1).forgive 400 lenient.uptime = true ∧
      (lenient.ppr.get .n1).trips ≠ 0 ∧ (lenient.ppr.get .n1).protection ≠ .lockedOut ∧
      ran (lenient.ppr.get .n2).forgive 400 lenient.uptime = false) ∧
    (s.Accepts (.ocLimit .n1) 1 ∧ s.Accepts (.ucLimit .n4) 899) ∧
    (s.Accepts .startsPerHour 12 ∧ s.Accepts .maxRunning 4 ∧ s.Accepts .genMaxRunning 0 ∧ s.Accepts .blindedMaxPumps 0) ∧
    (s.Accepts .speedDelta 0 ∧ s.Accepts .speedHys 500) ∧
    ((mean 3500).Accepts .highAlarm 3500 ∧ (mean 3500).controlLevel = some 3500 ∧ s.Accepts .highAlarm 100) ∧
    (s.Accepts .hhFloat 0 ∧ s.Accepts .llFloat 20000 ∧ s.Accepts .floatTol 10) ∧ s.taking .panel ∧ s.holds .panel = true := by
  intro s pair mean forced prot resting hot bare stopping lenient
  have ok (u : State) (x : Setting) (v : Nat) (h : x.range.1 ≤ v ∧ v ≤ x.range.2 ∧ (u.img.put x v).constraintsHold = true ∧
      u.img.get x ≠ v) : u.Accepts x v := ⟨⟨h.1, h.2.1⟩, h.2.2.1, h.2.2.2⟩
  have first (i : Bool) : TripOk 3 i .atStart := ⟨by decide, by decide, fun _ => rfl, fun h => by cases h⟩
  have rests : TripOk 3 true { ProtectedPump.atStart with rest := some 0, trips := 1, protection := .tripped } :=
    ⟨by decide, by decide, fun _ => rfl, fun _ => ⟨rfl, rfl⟩⟩
  have others (u : State) (h : u.ppr = resting.ppr) : ∀ p, p ≠ .n1 → u.ppr.get p = .atStart := fun p e => by
    rw [h]; cases p <;> first | contradiction | rfl
  refine ⟨⟨tripsInOrder (fun p _ => by cases p <;> rfl) rfl (first _), tripsInOrder (others _ rfl) rfl rests,
      tripsInOrder (others _ rfl) rfl rests⟩,
    ⟨ok _ _ _ ?_, ?_, ?_, ?_, ?_, ?_⟩, ⟨ok _ _ _ ?_, ok _ _ _ ?_, ok _ _ _ ?_, ?_, rfl, rfl⟩,
    ⟨ok _ _ _ ?_, ?_, ok _ _ _ ?_, ?_⟩, ⟨ok _ _ _ ?_, ok _ _ _ ?_⟩, ⟨ok _ _ _ ?_, ?_, ?_⟩, ⟨ok _ _ _ ?_, ?_, ?_, ok _ _ _ ?_, ?_, ok _ _ _ ?_, ?_⟩,
    ⟨ok _ _ _ ?_, ?_, ?_, ?_, ?_⟩, ⟨ok _ _ _ ?_, ok _ _ _ ?_⟩, ⟨ok _ _ _ ?_, ok _ _ _ ?_, ok _ _ _ ?_, ok _ _ _ ?_⟩,
    ⟨ok _ _ _ ?_, ok _ _ _ ?_⟩, ⟨ok _ _ _ ?_, ?_, ok _ _ _ ?_⟩, ⟨ok _ _ _ ?_, ok _ _ _ ?_, ok _ _ _ ?_⟩, ⟨?_, ?_⟩, ?_⟩
  all_goals first
    | decide +kernel
    | (rintro x (rfl | rfl | rfl) <;> decide)

/-- The same for the settings of the screens, the overflow points and the flow balance. -/
theorem test_witness_SettingEffects_screens_and_flow :
    let s := seated .panel
    let rake (k : RakeState) (f : ScreenRec → ScreenRec) : State :=
      { raking (s.modScreen .n1 f) .n1 k with uptime := 90000 }
    let overdue (k : RakeState) : State := rake k fun r => { r with interval := some 0 }
    let moving := rake .forward fun r => { r with homeLeave := some 0, cycle := some 0 }
    let backing (n : Nat) : State := rake .backoff fun r => { r with reverse := some 0, retries := n }
    let high (d : Nat) (b : Blinded) : State :=
      let u := reading (reading s .inlet (1000 + d)) .screenOut 1000
      { u with uptime := 20000, scr := { u.scr with blinded := b } }
    let silent : State := (s.modFbl fun b => { b with silence := .running 0 }).reach 30000
    let rising (n : Nat) : State := s.modFbl fun b => { b with overflowIn := .seconds n }
    (s.Accepts .rakeIntervalMin 0 ∧ (withSetting s .rakeIntervalMin 0).Accepts .rakeIntervalMin 1 ∧
      (withSetting s .rakeIntervalMin 0).img.screen.rakeIntervalMin = 0 ∧ s.img.screen.rakeIntervalMin ≠ 0 ∧
      ran (some 0) (1 * 60) 90000 = true ∧ ran (some 0) (1440 * 60) 90000 = false ∧ s.Accepts .rakeIntervalMin 1440 ∧
      ∀ k : RakeState, (overdue k).Accepts .rakeIntervalMin 1 ∧ (overdue k).rakeOf .n1 = some k ∧
        (overdue k).spm.permit = .spacing ∧ (overdue k).uptime = 90000 ∧
        ∃ r, (overdue k).scr.screens.get .n1 = some r ∧ r.rake = k ∧ r.interval = some 0) ∧
    (moving.Accepts .homeLeaveS 30 ∧ moving.Accepts .cycleMaxS 89 ∧
      moving.scr.screens.get .n1 = some ⟨.forward, none, 0, false, false, some 0, some 0, none, some 0, none⟩ ∧
      ran (some 0) 30 moving.uptime = true ∧ ran (some 0) 89 moving.uptime = true) ∧
    ((backing 3).Accepts .reverseS 30 ∧ ran (some 0) 30 (backing 3).uptime = true ∧ (backing 3).img.screen.jamRetries = 3 ∧
      RequestsOk (backing 3) ∧ (backing 3).spm.permit = .spacing ∧ (backing 4).Accepts .reverseS 30 ∧ RequestsOk (backing 4)) ∧
    ((high 350 .clear).Accepts .blindMm 350 ∧ (high 350 .clear).differential = some 350 ∧
      (high 350 (.pending 4 (some 9))).Accepts .blindMm 351 ∧ (high 400 (.pending 4 (some 9))).Accepts .blindS 10 ∧
      (high 150 .blinded).Accepts .blindMm 150 ∧ (high 150 .blinded).differential = some 150) ∧
    (s.Accepts .rakeStart 400 ∧ s.differential = none) ∧
    (silent.Accepts .meterSilenceS 29 ∧ ran silent.fbl.silence.timer 29 silent.uptime = true ∧ silent.Accepts .meterSilenceS 31 ∧
      ran silent.fbl.silence.timer 31 silent.uptime = false) ∧
    ((rising 500).Accepts .predictWarnS 500 ∧ (rising 500).Accepts .predictWarnS 439 ∧ (rising 500).Accepts .predictWarnS 0 ∧
      (rising 500).fbl.overflowIn = .seconds 500 ∧ (rising 500).point1Open = false ∧ s.Accepts .trendBand 0) ∧
    (s.Accepts .startHead 5 ∧ s.Accepts .endHead 0) ∧
    (s.Accepts .initLimit 1 ∧ s.Accepts .disagreeMm 10 ∧ s.Accepts .midSpeed 60 ∧ s.Accepts .rampPct 1 ∧ s.Accepts .jamRetries 0 ∧
      s.Accepts .pulseLitres 1 ∧ s.Accepts (.ratedFlow .n3) 10) := by
  intro s rake overdue moving backing high silent rising
  have ok (u : State) (x : Setting) (v : Nat) (h : x.range.1 ≤ v ∧ v ≤ x.range.2 ∧ (u.img.put x v).constraintsHold = true ∧
      u.img.get x ≠ v) : u.Accepts x v := ⟨⟨h.1, h.2.1⟩, h.2.2.1, h.2.2.2⟩
  have calm (n : Nat) : RequestsOk (backing n) :=
    ⟨(fun _ h => by cases h), (fun _ h => by cases h), fun sc r e _ => by cases sc <;> (cases e; first | rfl | contradiction),
      fun sc r e h => by cases sc <;> (cases e; cases h), fun sc h => by cases sc <;> cases h⟩
  refine ⟨⟨ok _ _ _ ?_, ok _ _ _ ?_, ?_, ?_, ?_, ?_, ok _ _ _ ?_,
      fun k => ⟨ok _ _ _ ?_, ?_, ?_, ?_, ⟨_, rfl, rfl, rfl⟩⟩⟩, ⟨ok _ _ _ ?_, ok _ _ _ ?_, ?_, ?_, ?_⟩,
    ⟨ok _ _ _ ?_, ?_, ?_, calm 3, ?_, ok _ _ _ ?_, calm 4⟩,
    ⟨ok _ _ _ ?_, ?_, ok _ _ _ ?_, ok _ _ _ ?_, ok _ _ _ ?_, ?_⟩, ⟨ok _ _ _ ?_, ?_⟩,
    ⟨ok _ _ _ ?_, ?_, ok _ _ _ ?_, ?_⟩, ⟨ok _ _ _ ?_, ok _ _ _ ?_, ok _ _ _ ?_, ?_, ?_, ok _ _ _ ?_⟩,
    ⟨ok _ _ _ ?_, ok _ _ _ ?_⟩,
    ⟨ok _ _ _ ?_, ok _ _ _ ?_, ok _ _ _ ?_, ok _ _ _ ?_, ok _ _ _ ?_, ok _ _ _ ?_, ok _ _ _ ?_⟩⟩
  all_goals first
    | decide +kernel
    | rfl
    | (cases k <;> decide +kernel)

theorem test_witness_ClockSecond :
    (clocked State.reset 86398).src.clock = some ⟨⟨2025, 3, 1⟩, 86398⟩ ∧ 86398 < 86399 ∧
    ((clocked State.reset 86399).src.clock = some ⟨⟨2025, 3, 1⟩, 86399⟩ ∧ (clocked State.reset 86399).isHeld = false) ∧
    ((clocked held 86399).src.clock = some ⟨⟨2025, 3, 1⟩, 86399⟩ ∧ (clocked held 86399).isHeld = true) ∧
    State.reset.src.clock = none ∧ (⟨2024, 2, 29⟩ : Date).valid :=
  ⟨rfl, by decide, ⟨rfl, rfl⟩, ⟨rfl, rfl⟩, rfl, by unfold Date.valid; decide⟩

theorem test_witness_SetClock :
    let s := clocked (seated .panel) 5
    ((seated .panel).taking .panel ∧ (seated .panel).holds .panel = true ∧ 99 < 256 ∧ 12 < 256 ∧ 31 < 256 ∧ 86399 < 16777216) ∧
    (99 ≤ 99 ∧ (⟨2000 + 99, 12, 31⟩ : Date).valid ∧ 86399 ≤ 86399) ∧ (seated .panel).src.clock = none ∧
    (s.src.clock = some ⟨⟨2025, 3, 1⟩, 5⟩ ∧ (⟨2025, 3, 1⟩ : Date) ≠ ⟨2099, 12, 31⟩) ∧
    ¬ (25 ≤ 99 ∧ (⟨2000 + 25, 2, 29⟩ : Date).valid ∧ 0 ≤ 86399) :=
  ⟨⟨⟨rfl, rfl⟩, rfl, by decide⟩, ⟨by decide, by unfold Date.valid; decide, by decide⟩, rfl, ⟨rfl, by decide⟩,
    by unfold Date.valid; decide⟩

theorem test_witness_ReadsAnswer : State.reset.taking .panel ∧ (seated .panel).taking .panel := ⟨⟨rfl, rfl⟩, ⟨rfl, rfl⟩⟩

theorem no_setting_above {n : Nat} (h : 0x1000 ≤ n) (x : Setting) : x.ident ≠ n := by
  have four : ∀ k : No4, k.toNat ≤ 4 := fun k => by cases k <;> decide
  have two : ∀ k : No2, k.toNat ≤ 2 := fun k => by cases k <;> decide
  cases x with
  | zeroMm c => have := four c; simp only [Setting.ident]; omega
  | spanMm c => have := four c; simp only [Setting.ident]; omega
  | curSpan c => have := four c; simp only [Setting.ident]; omega
  | startLevel c => have := four c; simp only [Setting.ident]; omega
  | stopLevel c => have := four c; simp only [Setting.ident]; omega
  | hasDrive c => have := four c; simp only [Setting.ident]; omega
  | ocLimit c => have := four c; simp only [Setting.ident]; omega
  | ucLimit c => have := four c; simp only [Setting.ident]; omega
  | ratedFlow c => have := four c; simp only [Setting.ident]; omega
  | outMode c => have := four c; simp only [Setting.ident]; omega
  | crest c => have := two c; simp only [Setting.ident]; omega
  | route j => have := j.isLt; simp only [Setting.ident]; omega
  | _ => simp only [Setting.ident]; omega

theorem test_witness_ReadsWithParameters :
    State.reset.taking .panel ∧ (1 ≤ (1#8).toNat ∧ (8#8).toNat ≤ 8) ∧ ((0#8).toNat = 0 ∧ 8 < (9#8).toNat) ∧
    ((1#8).toNat ≤ 1 ∧ 1 < (2#8).toNat) ∧ (∀ x : Setting, x.ident ≠ figure [0x20#8, 0x00#8]) ∧
    (State.reset.img.table? (2#8).toNat = some defaultRating ∧ 2 < (3#8).toNat) :=
  ⟨⟨rfl, rfl⟩, by decide, by decide, by decide, no_setting_above (by decide), ⟨rfl, by decide⟩⟩

theorem test_witness_ChecksInOrder :
    (Instr.readPumps .panel [0]).frame? = some (0x02, [0]) ∧ (Instr.readPumps .panel [0]).link? = some .panel ∧
    (Instr.readPumps .panel [0]).wellFormed = true ∧ State.reset.taking .panel ∧
    firstFailure 0x02 [0] (State.reset.holds .panel) = some .length ∧
    ((Instr.saveSettings .panel []).frame? = some (0x32, []) ∧ (Instr.saveSettings .panel []).wellFormed = true ∧
      firstFailure 0x32 [] (State.reset.holds .panel) = some .notSeat) ∧
    ((Instr.unknownRequest .panel 0x55 []).wellFormed = true ∧
      firstFailure 0x55 [] (State.reset.holds .panel) = some .unknown) ∧
    requestCodes.contains (0x55#8).toNat = false :=
  ⟨rfl, rfl, rfl, ⟨rfl, rfl⟩, by decide, ⟨rfl, rfl, by decide⟩, ⟨by decide, by decide⟩, by decide⟩

theorem test_witness_BusyLink :
    let c := Instr.readPumps .panel []
    let work := State.reset.modLink .panel fun r => { r with request := .working }
    c.frame? = some (0x02, []) ∧ c.link? = some .panel ∧ (sending [[0]]).isHeld = false ∧
    ((sending [[0]]).link .panel).request ≠ .free ∧ (work.link .panel).request ≠ .free ∧ (work.link .panel).transmit = .idle :=
  ⟨rfl, rfl, rfl, by decide, by decide, rfl⟩

theorem test_witness_FrameRoundTrip :
    ([] : List Byte).length ≤ 240 ∧ (List.replicate 240 (7#8)).length ≤ 240 ∧
    [0#8, 0#8] ≠ bytesOf 2 (crc (BitVec.ofNat 8 0 :: 0x0E#8 :: [])).toNat := by decide +kernel

theorem test_witness_BytesAndGaps :
    State.reset.isHeld = false ∧ ((State.reset.link .panel).receive.next 0xA5).2 = none ∧
    (((almost 0x0E []).link .panel).receive.next ((requestFrame 0x0E []).getLastD 0)).2 = some (0x0E, []) ∧
    ((almost 0x0E []).link .panel).gap = some 0 ∧ ((sending [[0], [1]]).link .panel).transmit.sent = some (2, 0) := by
  decide +kernel

theorem test_witness_SeatRequests :
    let key (s : State) : State := { s with inputs := { s.inputs with localKey := true } }
    State.reset.taking .panel ∧ State.reset.lnk.seat = .free ∧ (seated .panel).lnk.seat = .held .panel ∧
    (seated .telemetry).lnk.seat = .held (Link.other .panel) ∧ (seated .panel).inputs.localKey = false ∧
    (key (seated .panel)).inputs.localKey = true ∧ State.reset.lnk.seat ≠ .held .panel :=
  ⟨⟨rfl, rfl⟩, rfl, rfl, rfl, rfl, rfl, by decide⟩

theorem test_witness_SeatEvents :
    let s : State := { seated .telemetry with lnk := { (seated .telemetry).lnk with holdTimer := some 3 } }
    let key : State := { seated .panel with inputs := { State.reset.inputs with localKey := true } }
    s.isHeld = false ∧ s.lnk.holdTimer = some 3 ∧ s.inputs.localKey = false ∧ (seated .panel).lnk.seat = .held .panel ∧
    s.lnk.seat ≠ .held .panel ∧ key.inputs.localKey = true := by decide

theorem test_witness_WriteSetting :
    let s := seated .panel
    (SeatOk s ∧ s.taking .panel ∧ s.holds .panel = true ∧ 29 < 4294967296) ∧
    (29 < Setting.minSpeed.range.1 ∨ Setting.minSpeed.range.2 < 101) ∧
    (Setting.minSpeed.range.1 ≤ 81 ∧ 81 ≤ Setting.minSpeed.range.2 ∧ (s.img.put .minSpeed 81).constraintsHold = false) ∧
    (Setting.minSpeed.range.1 ≤ 80 ∧ 80 ≤ Setting.minSpeed.range.2 ∧ (s.img.put .minSpeed 80).constraintsHold = true) ∧
    (∀ y : Setting, y.ident ≠ figure [0xFF#8, 0xFF#8]) :=
  ⟨⟨⟨fun h => (by cases h), fun p o h => (by cases p <;> cases h), fun h => (by cases h)⟩, ⟨rfl, rfl⟩, rfl, by decide⟩,
    by decide, by decide, by decide, no_setting_above (by decide)⟩

theorem test_witness_DelayedRequests :
    let s := seated .panel
    let table (n k v : Nat) : List Byte := bytesOf 1 n ++ bytesOf 1 2 ++ bytesOf 2 0 ++ bytesOf 4 0 ++ bytesOf 2 k ++ bytesOf 4 v
    let pts (b : List Byte) : List TablePoint := pointsOf (b.drop 2)
    let w : TableWrite := ⟨.panel, 0, [⟨0, 0⟩, ⟨9, 9⟩], 0⟩
    let v : TableWrite := ⟨.telemetry, 0, [⟨0, 0⟩, ⟨8, 8⟩], 0⟩
    let x : TableWrite := ⟨.telemetry, 1, [⟨0, 0⟩, ⟨8, 8⟩], 0⟩
    (s.taking .panel ∧ s.holds .panel = true) ∧
    (lengthFits 0x31 (table 0 6000 72000) = true ∧ tableInRange 0 (pts (table 0 6000 72000)) = true ∧
      tableConsistent 0 (pts (table 0 6000 72000)) = true) ∧
    (lengthFits 0x31 (table 3 6000 72000) = true ∧ tableInRange 3 (pts (table 3 6000 72000)) = false) ∧
    (tableInRange 0 (pts (table 0 0 5)) = true ∧ tableConsistent 0 (pts (table 0 0 5)) = false) ∧
    (s.cfg.saving = none ∧ ({ s.cfg with saving := some ⟨.panel, s.img, 0⟩ } : SettingsStore).saving.isSome = true) ∧
    ({ s with cfg := { s.cfg with writes := [w] } } : State).cfg.writes = [w] ∧
    (({ s with cfg := { s.cfg with writes := [w, v] } } : State).cfg.writes = [w, v] ∧ w.link ≠ v.link ∧ w.table = v.table) ∧
    (({ s with cfg := { s.cfg with writes := [w, x] } } : State).cfg.writes = [w, x] ∧ w.link ≠ x.link ∧ w.table ≠ x.table) :=
  ⟨⟨⟨rfl, rfl⟩, rfl⟩, by decide +kernel, by decide +kernel, by decide +kernel, by decide, rfl, ⟨rfl, by decide, rfl⟩,
    ⟨rfl, by decide, by decide⟩⟩

theorem test_witness_HeldController :
    State.reset.isHeld = false ∧ held.isHeld = true ∧ Instr.flowPulse ≠ .start ∧ Instr.flowPulse ≠ .clockSecond ∧
    Instr.flowPulse ≠ .backupSupplyLoss := by decide

theorem test_witness_SpacingKept :
    let s : State := { queued (State.reset.join (.pump .n1)) .n1 with pending := [.backupSupplyLoss] }
    SettingsOk s.cfg ∧ (s.isHeld = false → SpacingOk s) ∧ step s = .next { s with pending := [], marker := false } ∧
    ({ s with pending := [], marker := false } : State).isHeld = false ∧
    (after .spacingTimerExpiry s).spm.lastGrant = some (.pump .n1, 5000) := by
  have h : Image.defaults.wf = true := by decide +kernel
  exact ⟨⟨h, fun m e => (by cases e), fun v e => (by cases e), fun w e => (by cases e)⟩,
    fun _ => ⟨by decide, fun w u e => (by cases e), fun p u e => (by cases e), fun e => (by cases e)⟩, rfl, rfl, by decide +kernel⟩

theorem test_witness_StartRebuilds : held.isHeld = true := rfl

theorem test_witness_ColdAndWarmStart :
    let warm : State := { clocked (spilling held .spilling) 5 with
      src := { logFrom 7 1 with clock := some ⟨⟨2025, 3, 2⟩, 9⟩, day := some ⟨2025, 3, 1⟩ }
      cfg := { held.cfg with stored := some (Image.defaults.put .overtempS 0) }
      inputs := { held.inputs with overtemp := held.inputs.overtemp.set .n2 true } }
    (held.isHeld = true ∧ ({ held with marker := false } : State).marker = false) ∧
    (warm.isHeld = true ∧ warm.marker = true ∧ LogOk warm.src ∧ warm.src.newest + 12 ≤ max32) ∧
    (warm.tripsHot (warm.cfg.stored.getD .defaults) .n2 = true ∧
      warm.closings (.clock ⟨⟨2025, 3, 2⟩, 9⟩) =
        [.overflowEnd .n1 (.uptime 0) (.clock ⟨⟨2025, 3, 2⟩, 9⟩) 0 20 0 .powerLoss false] ∧
      (after .start warm).src.log.map (·.seq) = [7, 8, 9, 10, 11] ∧
      (after .start warm).newestRecord = some (.pumpTrip .n2 .overtemp 1)) := by
  refine ⟨⟨rfl, rfl⟩, ⟨rfl, rfl, ?_, by decide⟩, by decide +kernel, by decide +kernel, by decide +kernel, by decide +kernel⟩
  have h := logOk_logFrom 7 (by decide) (by decide)
  exact ⟨h.1, h.2, h.3, h.4, h.5, h.6, h.7⟩

theorem test_witness_CommandsLeaveQueueAndPins :
    let s : State := { State.reset with cfg := { State.reset.cfg with stored := some .defaults, saving := some ⟨.panel, .defaults, 0⟩ } }
    (∃ t, exec (.floatChange .high true) State.reset = .next t ∧ t.inputs ≠ State.reset.inputs) ∧
    (∃ t, exec .hold s = .next t ∧ t.cfg.stored ≠ s.cfg.stored) :=
  ⟨⟨_, rfl, by decide +kernel⟩, ⟨_, rfl, by decide +kernel⟩⟩

theorem test_witness_SettingsKept :
    let s : State := { State.reset with pending := [.clockSecond], cfg := { State.reset.cfg with stored := some .defaults } }
    SettingsOk s.cfg ∧ step s = .next { s with pending := [] } := by
  have h : Image.defaults.wf = true := by decide +kernel
  exact ⟨⟨h, fun m e => (by cases e; exact h), fun v e => (by cases e), fun w e => (by cases e)⟩, rfl⟩

theorem test_witness_LogKept :
    let s : State := { logged (logFrom 7 1) with pending := [.backupSupplyLoss] }
    LogOk s.src ∧ step s = .next { s with pending := [], marker := false } :=
  ⟨logOk_logFrom 7 (by decide) (by decide), rfl⟩

theorem test_witness_SeatKept :
    let s : State := { seated .panel with pending := [.backupSupplyLoss] }
    (s.isHeld = false → SeatOk s) ∧ step s = .next { s with pending := [], marker := false } ∧
    ({ s with pending := [], marker := false } : State).isHeld = false :=
  ⟨fun _ => ⟨fun h => (by cases h), fun p o h => (by cases p <;> cases h), fun h => (by cases h)⟩, rfl, rfl⟩

theorem test_witness_LinksKept :
    let s : State := { sending [[0]] with pending := [.backupSupplyLoss] }
    (s.isHeld = false → LinksOk s) ∧ step s = .next { s with pending := [], marker := false } ∧
    ({ s with pending := [], marker := false } : State).isHeld = false :=
  ⟨fun _ l => by cases l <;> simp [sending, State.link, LinkOk, SettingsStore.workOf, State.reset, State.modLink, LinkRec.atStart,
    PerLink.fill, PerLink.modify, PerLink.get, PerLink.set], rfl, rfl⟩

theorem test_witness_OutputsKept :
    let s : State := { seated .panel with pending := [.backupSupplyLoss] }
    (s.isHeld = false → OutputsOk s) ∧ step s = .next { s with pending := [], marker := false } ∧
    ({ s with pending := [], marker := false } : State).isHeld = false :=
  ⟨fun _ m => by cases m <;> decide +kernel, rfl, rfl⟩

theorem test_witness_DryRunKept :
    let s : State := { seated .panel with
      pending := [.backupSupplyLoss], inputs := { State.reset.inputs with floatLowLow := true } }
    RequestsOk s ∧ (s.isHeld = false → DryRunOk s) ∧ step s = .next { s with pending := [], marker := false } :=
  ⟨noRequests rfl (by intro sc r h; cases sc <;> (cases h; exact ⟨rfl, rfl, rfl⟩)) (by intro sc h; cases sc <;> cases h), fun _ _ p => by cases p <;> rfl, rfl⟩

theorem test_witness_TripsKept :
    let s : State := { guarded (State.reset.modProt .n1 fun r => { r with trips := 3 }) .n1 .lockedOut with
      pending := [.backupSupplyLoss] }
    SettingsOk s.cfg ∧ TripsOk s ∧ step s = .next { s with pending := [], marker := false } := by
  have h : Image.defaults.wf = true := by decide +kernel
  refine ⟨⟨h, fun m e => (by cases e), fun v e => (by cases e), fun w e => (by cases e)⟩, fun p => ?_, rfl⟩
  cases p <;> exact ⟨by decide, by decide, by decide, by decide⟩

end Sys2Proof.Tests
end

section
/-! The conversion of a sample and the channel record under samples (R2 to R9). -/

namespace Sys2Proof.Machine

/-- The natural-number figure of the model, clamped above, is R3's integer figure clamped at both ends. -/
theorem min_rawLevel_eq_clampTo (base span top c : Nat) :
    ((min (rawLevel base span c) top : Nat) : Int) = clampTo top (rawFigure base span c) := by
  by_cases h : 819 ≤ c
  · have e : rawFigure base span c = ((base + ((c - 819) * span + 1638) / 3276 : Nat) : Int) := by
      simp only [rawFigure, if_pos h]
      push_cast [Nat.cast_sub h]
      rfl
    rw [e]
    simp only [rawLevel, if_pos h, clampTo]
    omega
  · have e : rawFigure base span c = (base : Int) - (((819 - c) * span + 1638) / 3276 : Nat) := by
      simp only [rawFigure, if_neg h]
      push_cast [Nat.cast_sub (Nat.le_of_not_le h)]
      rfl
    rw [e]
    simp only [rawLevel, if_neg h, clampTo]
    omega

/-- Settles O2: each channel's conversion is the clamped figure on that channel's scaling. -/
theorem conversionIsClamped : Obligations.ConversionIsClamped := by
  intro m p c _ _
  exact ⟨min_rawLevel_eq_clampTo _ _ _ c, min_rawLevel_eq_clampTo _ _ _ c, min_rawLevel_eq_clampTo _ _ _ c,
    min_rawLevel_eq_clampTo _ _ _ c, min_rawLevel_eq_clampTo _ _ _ c⟩

/-! ### The channel record, state by state -/

namespace ChannelRec
variable (r : ChannelRec) (limit now : Nat)

theorem sample_inService_valid (h : r.state = .inService) (x : Nat) (sat : Bool) :
    r.sample limit now (some (x, sat)) = r.feed x sat := by simp [sample, h]

theorem sample_inService_under (h : r.state = .inService) :
    r.sample limit now none =
      if r.invalidCount + 1 = 5 then
        { r with state := .fault .sample, history := [], filtered := none, invalidCount := 5, validCount := 0 }
      else { r with invalidCount := r.invalidCount + 1 } := by simp [sample, h]

theorem sample_lost_valid (h : r.state = .fault .sample) (x : Nat) (sat : Bool) :
    r.sample limit now (some (x, sat)) =
      if r.validCount + 1 = 20 then enterService x sat else { r with validCount := r.validCount + 1 } := by
  simp [sample, h]

theorem sample_lost_under (h : r.state = .fault .sample) :
    r.sample limit now none = { r with validCount := 0 } := by simp [sample, h]

/-- The states in which a channel's samples are judged in pairs: STARTING, and a CHECK fault with no check timer (R6, R7). -/
def Pairing : Prop := r.state = .starting ∨ (r.state = .fault .check ∧ r.checkTimer = none)

variable {r}

theorem sample_pairing (h : r.Pairing) (v : Option (Nat × Bool)) : r.sample limit now v = r.pairSample limit now v := by
  rcases h with h | ⟨h, k⟩
  · simp [sample, h]
  · simp [sample, h, k]

theorem sample_pair_first (h : r.Pairing) (k : r.pairFirst = none) (v : Option (Nat × Bool)) :
    r.sample limit now v = { r with pairFirst := some (v.map (·.1)) } := by
  simp [sample_pairing limit now h, pairSample, k]

theorem sample_pair_passes (h : r.Pairing) {x y : Nat} (sat : Bool) (k : r.pairFirst = some (some x))
    (near : max x y - min x y ≤ limit) : r.sample limit now (some (y, sat)) = enterService y sat := by
  simp only [sample_pairing limit now h, pairSample, k, judgePair, pairPasses, near, decide_true, if_true]

/-- A second sample that fails the pair comes to `failPair`. -/
theorem sample_pair_fails (h : r.Pairing) {first : Option Nat} {v : Option (Nat × Bool)} (k : r.pairFirst = some first)
    (f : pairFails limit first v) : r.sample limit now v = r.failPair now := by
  rw [sample_pairing limit now h, pairSample, k]
  match first, v, f with
  | _, none, _ => rfl
  | none, some _, _ => rfl
  | some a, some (b, sat), f =>
    have far : ¬ max a b - min a b ≤ limit := Nat.not_le.mpr f
    simp only [judgePair, pairPasses, far, decide_false, Bool.false_eq_true, if_false]

end ChannelRec

/-- Settles O4, clause by clause from the equations of the channel record. -/
theorem serviceAndFaultSamples : Obligations.ServiceAndFaultSamples := by
  refine ⟨fun r limit now x a b c d sat => ⟨fun h => ⟨?_, ?_, ?_, ?_⟩, fun h => ⟨?_, ?_, ?_⟩⟩,
    fun r limit now x y first v sat sat' => ⟨fun h => ⟨fun k => ⟨?_, ?_⟩, fun k near => ?_⟩, fun k f => ⟨fun h => ⟨?_, ?_⟩, ?_⟩, ?_⟩⟩
  · intro k
    simp [r.sample_inService_valid limit now h, ChannelRec.feed, h, k, Nat.add_assoc]
  · intro k
    simp [r.sample_inService_valid limit now h, ChannelRec.feed, h, k]
    omega
  · intro k
    rw [r.sample_inService_under limit now h, if_neg (by omega)]
  · intro k
    simp [r.sample_inService_under limit now h, k]
  · exact r.sample_lost_under limit now h
  · intro k
    rw [r.sample_lost_valid limit now h, if_neg (by omega)]
  · intro k
    simp [r.sample_lost_valid limit now h, k, ChannelRec.enterService]
  · exact ChannelRec.sample_pair_first limit now h k _
  · exact ChannelRec.sample_pair_first limit now h k _
  · simp [ChannelRec.sample_pair_passes limit now h sat' k near, ChannelRec.enterService]
  · intro n
    simp [ChannelRec.sample_pair_fails limit now (.inl h) k f, ChannelRec.failPair, h]
    omega
  · intro n
    simp [ChannelRec.sample_pair_fails limit now (.inl h) k f, ChannelRec.failPair, h, n]
  · intro h t
    simp [ChannelRec.sample_pair_fails limit now (.inr ⟨h, t⟩) k f, ChannelRec.failPair, h]
  · intro h t
    simp [ChannelRec.sample, h, t]

end Sys2Proof.Machine
end

section
/-! Reads without parameters: the answer, and that nothing but the link and the hold timer moves (R171 to R175, R180). -/

namespace Sys2Proof.Machine

/-- A valid frame ends the frame in progress on its link and restarts the holder's hold timer. -/
theorem State.arrive_eq (s : State) (l : Link) :
    s.arrive l =
      { s with
        lnk :=
          { s.lnk with
            links := s.lnk.links.modify l fun r => { r with receive := .hunt, gap := none }
            holdTimer := if s.holds l && !s.inputs.localKey then some s.uptime else s.lnk.holdTimer } } := by
  unfold State.arrive
  dsimp only
  split <;> rfl

@[simp] theorem State.link_arrive_self (s : State) (l : Link) :
    (s.arrive l).link l = { s.link l with receive := .hunt, gap := none } := by
  simp [State.arrive_eq, State.link]

@[simp] theorem State.link_arrive_ne (s : State) {l k : Link} (h : k ≠ l) : (s.arrive l).link k = s.link k := by
  simp [State.arrive_eq, State.link, h]

theorem link_other_ne (l : Link) : l.other ≠ l := by cases l <;> decide

/-- An answer handed to a link's TXD after its request's arrival. -/
theorem State.answered_sendAnswer (s : State) (l : Link) (frames : List Frame) :
    Answered s ((s.arrive l).sendAnswer l frames) l frames where
  only := (only_arrive s l).trans (only_sendAnswer _ l frames)
  seat := by simp [State.arrive_eq, State.sendAnswer]
  sending := by
    simp only [State.sendAnswer, State.link_modLink_self]
    split <;> rfl
  frames := by
    simp only [State.sendAnswer, State.link_modLink_self, State.link_arrive_self]
    cases (s.link l).transmit <;> simp [State.arrive_eq]
  other := by simp [State.sendAnswer, link_other_ne]

/-- A read on a link that takes a request: the data are those of the state with the frame arrived. -/
theorem State.read_taken (s : State) (l : Link) (code : Byte) (data : State → List Byte) (h : s.taking l) :
    s.read l code true data = (s.arrive l).sendAnswer l (doneFrames code (data (s.arrive l))) :=
  s.request_taken l code true false _ h rfl

/-- A read whose data the arrival of its own frame does not move. -/
theorem State.answered_read (s : State) (l : Link) (code : Byte) (data : State → List Byte) (h : s.taking l)
    (k : data (s.arrive l) = data s) : Answered s (s.read l code true data) l (doneFrames code (data s)) := by
  rw [s.read_taken l code data h, k]
  exact s.answered_sendAnswer l _

/-- Settles O38: only READ_SEAT shows the hold timer, and with it what its own arrival did. -/
theorem readsAnswer : Obligations.ReadsAnswer := by
  intro s l h
  have moved : ∀ {α : Type} (f : State → α), (∀ k, f { s with lnk := k } = f s) → f (s.arrive l) = f s := by
    intro α f k
    rw [State.arrive_eq]
    exact k _
  refine ⟨⟨_, rfl, s.answered_read l _ _ h (moved _ fun _ => rfl)⟩, ⟨_, rfl, s.answered_read l _ _ h (moved _ fun _ => rfl)⟩,
    ⟨_, rfl, s.answered_read l _ _ h (moved _ fun _ => rfl)⟩, ⟨_, rfl, s.answered_read l _ _ h (moved _ fun _ => rfl)⟩,
    ⟨_, rfl, s.answered_read l _ _ h (moved _ fun _ => rfl)⟩, ⟨_, rfl, s.answered_read l _ _ h (moved _ fun _ => rfl)⟩,
    ⟨_, rfl, s.answered_read l _ _ h (moved _ fun _ => rfl)⟩, ⟨_, rfl, s.answered_read l _ _ h (moved _ fun _ => rfl)⟩,
    ⟨_, rfl, s.answered_read l _ _ h (moved _ fun _ => rfl)⟩, ⟨_, rfl, ?_⟩⟩
  rw [show ([] : List Byte).isEmpty = true from rfl, s.read_taken l _ _ h]
  exact ⟨by simp [State.arrive_eq, State.sendAnswer], s.answered_sendAnswer l _⟩

end Sys2Proof.Machine
end

section
/-! Which alarm points an operation may move, and what a report of a condition leaves (R142, R144). -/

namespace Sys2Proof.Machine

/-! ### Points that an operation may move -/

/-- Only the named alarm points may differ. -/
def OnlyPoints (A : Set AlarmPoint) (s t : State) : Prop := ∀ a, a ∉ A → t.point a = s.point a

namespace OnlyPoints
variable {A B : Set AlarmPoint} {s t u : State}

theorem refl (A : Set AlarmPoint) (s : State) : OnlyPoints A s s := fun _ _ => rfl

theorem trans (h : OnlyPoints A s t) (k : OnlyPoints A t u) : OnlyPoints A s u :=
  fun a n => (k a n).trans (h a n)

theorem mono (h : OnlyPoints A s t) (k : A ⊆ B) : OnlyPoints B s t := fun a n => h a fun m => n (k m)

/-- Two steps with points of their own. -/
theorem next (h : OnlyPoints A s t) (k : OnlyPoints B t u) : OnlyPoints (A ∪ B) s u :=
  (h.mono Set.subset_union_left).trans (k.mono Set.subset_union_right)

theorem choose (c : Prop) [Decidable c] (h : OnlyPoints A s t) (k : OnlyPoints A s u) :
    OnlyPoints A s (if c then t else u) := by
  split
  · exact h
  · exact k

theorem when (c : Prop) [Decidable c] (h : OnlyPoints A s t) : OnlyPoints A s (if c then t else s) :=
  .choose c h (.refl _ _)

theorem each {α : Type} {f : State → α → State} (h : ∀ s a, OnlyPoints A s (f s a)) (xs : List α) (s : State) :
    OnlyPoints A s (s.each xs f) := by
  induction xs generalizing s with
  | nil => exact .refl _ _
  | cons a rest ih => exact (h s a).trans (ih _)

theorem condition (h : OnlyPoints A s t) {a : AlarmPoint} (n : a ∉ A) : t.condition a = s.condition a := by
  simp only [State.condition, h a n]

/-- An operation that leaves the point entries alone. -/
theorem of_points (h : t.alm.points = s.alm.points) : OnlyPoints A s t := fun a _ => by
  simp only [State.point, h]

/-- An operation that leaves the Alarm Unit alone. -/
theorem of_only {bs : List Block} (h : OnlyIn bs s t) (n : Block.alm ∉ bs) : OnlyPoints A s t :=
  .of_points (congrArg AlarmUnit.points (h .alm n))

end OnlyPoints

/-! ### Reports -/

theorem State.reportIf_alm_points (s : State) (c : Bool) (k : Category) :
    (s.reportIf c k).alm.points = s.alm.points := by
  unfold State.reportIf
  split <;> rfl

theorem points_reportIf {A : Set AlarmPoint} (s : State) (c : Bool) (k : Category) : OnlyPoints A s (s.reportIf c k) :=
  .of_points (s.reportIf_alm_points c k)

theorem points_report {A : Set AlarmPoint} (s : State) (k : Category) : OnlyPoints A s (s.report k) := .of_points rfl

theorem points_judgeOutputs {A : Set AlarmPoint} (s : State) : OnlyPoints A s s.judgeOutputs := .of_points rfl

theorem points_append {A : Set AlarmPoint} (s : State) (b : RecordBody) : OnlyPoints A s (s.append b) := .of_points rfl

theorem points_setPoint (s : State) (a : AlarmPoint) (e : PointEntry) : OnlyPoints {a} s (s.setPoint a e) :=
  fun _ n => s.point_setPoint_ne e n

theorem points_setCondition (s : State) (a : AlarmPoint) (b : Bool) : OnlyPoints {a} s (s.setCondition a b) :=
  .choose _ (.refl _ _) (((points_setPoint s a _).trans (points_report _ _)).trans (points_judgeOutputs _))

theorem points_clearPoint (s : State) (a : AlarmPoint) : OnlyPoints {a} s (s.clearPoint a) :=
  .choose _ (.refl _ _) ((points_setPoint s a _).trans (points_report _ _))

theorem AlarmState.present_appear (st : AlarmState) : st.appear.present = true := by cases st <;> rfl

theorem AlarmState.present_vanish (st : AlarmState) : st.vanish.present = false := by cases st <;> rfl

/-- After a report the condition is as reported. -/
@[simp] theorem State.condition_setCondition_self (s : State) (a : AlarmPoint) (b : Bool) :
    (s.setCondition a b).condition a = b := by
  unfold State.setCondition
  split
  · assumption
  · simp only [State.condition, State.point_judgeOutputs, State.point_report, State.point_setPoint_self]
    cases b <;> simp [AlarmState.present_appear, AlarmState.present_vanish]

@[simp] theorem State.condition_clearPoint_self (s : State) (a : AlarmPoint) : (s.clearPoint a).condition a = false := by
  unfold State.clearPoint
  dsimp only
  split
  · rename_i h
    simp [State.condition, h, AlarmState.present]
  · simp [State.condition, AlarmState.present]

theorem State.condition_setCondition_ne (s : State) {a x : AlarmPoint} (b : Bool) (h : x ≠ a) :
    (s.setCondition a b).condition x = s.condition x := (points_setCondition s a b).condition h

end Sys2Proof.Machine
end

section
/-! The moves of the Duty Sequencer at one event: what the re-formation of the run set is made of (R24, R25, R27, R30, R39 to R42,
R61), and what each move leaves alone. -/

namespace Sys2Proof.Machine

/-! ### Modes and membership under the same pins and settings -/

section
variable {s t : State} (hi : t.inputs = s.inputs) (hc : t.cfg = s.cfg) (p : Pump)
include hi hc

theorem State.pumpIn_congr : t.pumpIn p = s.pumpIn p := by
  cases s; cases t; cases hi; cases hc; rfl

theorem State.mode_congr : t.mode p = s.mode p := by
  cases s; cases t; cases hi; cases hc; rfl

theorem State.inAuto_congr : t.inAuto p = s.inAuto p := by
  simp only [State.inAuto, State.mode_congr hi hc]

end

/-! ### Run states -/

/-- The points of RUN_MISMATCH, the one condition that a run command moves (R81). -/
def mismatchPoints : Set AlarmPoint := Set.range fun p => .pump p .runMismatch

theorem State.setRun_dsq (s : State) (p : Pump) (r : RunState) :
    (s.setRun p r).dsq = { s.dsq with pumps := s.dsq.pumps.modify p fun d => { d with run := r } } :=
  (only_followRunning _ _ .dsq (by decide)).trans (only_reportIf _ _ _ .dsq (by decide))

theorem State.setRun_ppr (s : State) (p : Pump) (r : RunState) : (s.setRun p r).ppr = s.ppr :=
  only_setRun s p r .ppr (by decide)

/-- A change of a run state moves nothing of Flow Balance but the silence timer (R127). -/
theorem State.followRunning_fbl (s : State) (n : Nat) :
    (s.followRunning n).fbl = { s.fbl with silence := (s.followRunning n).fbl.silence } := by
  unfold State.followRunning
  split
  · rfl
  · split <;> rfl

theorem State.setRun_fbl (s : State) (p : Pump) (r : RunState) :
    (s.setRun p r).fbl = { s.fbl with silence := (s.setRun p r).fbl.silence } := by
  have h := ((s.modDuty p fun d => { d with run := r }).reportIf (s.runState p != r) .pumps).followRunning_fbl s.runningCount
  have k : ((s.modDuty p fun d => { d with run := r }).reportIf (s.runState p != r) .pumps).fbl = s.fbl :=
    only_reportIf _ _ _ .fbl (by decide)
  rw [k] at h
  exact h

theorem points_setRun {A : Set AlarmPoint} (s : State) (p : Pump) (r : RunState) : OnlyPoints A s (s.setRun p r) :=
  (OnlyPoints.of_only (only_modDuty s p _) (by decide)).trans
    ((points_reportIf _ _ _).trans (.of_only (only_followRunning _ _) (by decide)))

@[simp] theorem State.runState_setRun_self (s : State) (p : Pump) (r : RunState) : (s.setRun p r).runState p = r := by
  simp [State.runState, State.setRun_dsq]

theorem State.runState_setRun_ne (s : State) {p q : Pump} (r : RunState) (h : q ≠ p) :
    (s.setRun p r).runState q = s.runState q := by simp [State.runState, State.setRun_dsq, h]

/-! ### A pump's protection under a judgement -/

/-- What a judgement of the conditions, a run command and a watch make of a pump's protection: only the fault timers, the move between
HEALTHY and ALERT, running-since with its marker and the watch. A pump that is not judged keeps its timers and its state, and the
OVERTEMP timer of one that is judged stays where it follows its contact (R65, R66). -/
structure ProtectedPump.Judged (installed hot : Bool) (a b : ProtectedPump) : Prop where
  eq : b =
    { a with
      protection := b.protection, faults := b.faults, runningSince := b.runningSince, armed := b.armed, watch := b.watch }
  watched : b.protection.watched = a.protection.watched
  rests : (installed && a.protection.watched) = false → b.protection = a.protection ∧ b.faults = a.faults
  overtemp : a.faults.overtemp.isSome = hot → b.faults.overtemp = a.faults.overtemp

namespace ProtectedPump.Judged
variable {i hot : Bool} {a b c : ProtectedPump}

theorem refl (i hot : Bool) (a : ProtectedPump) : Judged i hot a a := ⟨rfl, rfl, fun _ => ⟨rfl, rfl⟩, fun _ => rfl⟩

theorem trans (h : Judged i hot a b) (k : Judged i hot b c) : Judged i hot a c where
  eq := by
    rw [k.eq, h.eq]
  watched := k.watched.trans h.watched
  rests n := by
    obtain ⟨p, f⟩ := h.rests n
    obtain ⟨p', f'⟩ := k.rests (by rw [h.watched]; exact n)
    exact ⟨p'.trans p, f'.trans f⟩
  overtemp n := by
    have e := h.overtemp n
    exact (k.overtemp (by rw [e]; exact n)).trans e

theorem trips (h : Judged i hot a b) : b.trips = a.trips := by rw [h.eq]
theorem rest (h : Judged i hot a b) : b.rest = a.rest := by rw [h.eq]
theorem awaitingCool (h : Judged i hot a b) : b.awaitingCool = a.awaitingCool := by rw [h.eq]
theorem forgive (h : Judged i hot a b) : b.forgive = a.forgive := by rw [h.eq]
theorem sealTimer (h : Judged i hot a b) : b.sealTimer = a.sealTimer := by rw [h.eq]
theorem sealLeak (h : Judged i hot a b) : b.sealLeak = a.sealLeak := by rw [h.eq]
theorem lastTrip (h : Judged i hot a b) : b.lastTrip = a.lastTrip := by rw [h.eq]

/-- Running-since, its marker and the watch alone. -/
theorem of_running (i hot : Bool) (a : ProtectedPump) (since : Option Nat) (armed : Bool) (w : Watch) :
    Judged i hot a { a with runningSince := since, armed := armed, watch := w } :=
  ⟨rfl, rfl, fun _ => ⟨rfl, rfl⟩, fun _ => rfl⟩

end ProtectedPump.Judged

/-- Every pump's protection is judged at most, under the inputs and the settings of the first state. -/
def AllJudged (s t : State) : Prop :=
  ∀ p, ProtectedPump.Judged (s.pumpIn p) (s.inputs.overtemp.get p) (s.ppr.get p) (t.ppr.get p)

theorem AllJudged.refl (s : State) : AllJudged s s := fun _ => .refl _ _ _

theorem AllJudged.of_ppr {s t : State} (h : t.ppr = s.ppr) : AllJudged s t := fun p => by
  rw [h]
  exact .refl _ _ _

theorem AllJudged.of_only {s t : State} {bs : List Block} (h : OnlyIn bs s t) (n : Block.ppr ∉ bs) : AllJudged s t :=
  .of_ppr (h .ppr n)

/-- The inputs and the settings are those of the first state all along. -/
theorem AllJudged.trans {s t u : State} {bs : List Block} (o : OnlyIn bs s t) (hi : Block.inputs ∉ bs)
    (hc : Block.cfg ∉ bs) (h : AllJudged s t) (k : AllJudged t u) : AllJudged s u := fun p => by
  have ei : t.inputs = s.inputs := o .inputs hi
  have ec : t.cfg = s.cfg := o .cfg hc
  have kp := k p
  simp only [State.pumpIn, State.img, ei, ec] at kp
  exact (h p).trans kp

theorem judged_modProt (s : State) (p : Pump) (f : ProtectedPump → ProtectedPump)
    (h : ProtectedPump.Judged (s.pumpIn p) (s.inputs.overtemp.get p) (s.ppr.get p) (f (s.ppr.get p))) :
    AllJudged s (s.modProt p f) := fun q => by
  by_cases e : q = p
  · subst e
    simpa using h
  · simp only [State.modProt_ppr, Quad.get_modify_ne _ _ e]
    exact .refl _ _ _

theorem State.judgeFaults_ppr (s : State) (p : Pump) :
    (s.judgeFaults p).ppr =
      if s.pumpIn p && (s.ppr.get p).protection.watched then
        s.ppr.modify p fun r =>
          { r with
            faults := s.faultTimersNow p
            protection := if (s.faultTimersNow p).anyRuns then .alert else .healthy }
      else s.ppr := by
  unfold State.judgeFaults
  dsimp only
  split
  · exact only_reportIf _ _ _ .ppr (by decide)
  · rfl

theorem State.judgeFaults_ppr_ne (s : State) {p q : Pump} (h : q ≠ p) : (s.judgeFaults p).ppr.get q = s.ppr.get q := by
  rw [State.judgeFaults_ppr]
  split
  · simp [h]
  · rfl

/-- The OVERTEMP timer of a judged pump follows its contact. -/
theorem State.faultTimersNow_overtemp (s : State) (p : Pump) :
    (s.faultTimersNow p).overtemp =
      if s.inputs.overtemp.get p then some (((s.ppr.get p).faults.overtemp).getD s.uptime) else none := by
  simp only [State.faultTimersNow, State.faultTimerNow, State.faultPresent, FaultTimers.get]
  cases (s.ppr.get p).faults.overtemp <;> rfl

theorem judged_judgeFaults (s : State) (p : Pump) : AllJudged s (s.judgeFaults p) := by
  intro q
  by_cases e : q = p
  · subst e
    rw [State.judgeFaults_ppr]
    by_cases w : (s.pumpIn q && (s.ppr.get q).protection.watched) = true
    · have wt : (s.ppr.get q).protection.watched = true := by simp_all
      rw [if_pos w, Quad.get_modify_self]
      refine ⟨rfl, ?_, fun n => absurd (w.symm.trans n) (by decide), fun n => ?_⟩
      · rw [wt]
        dsimp only
        split <;> rfl
      · simp only [State.faultTimersNow_overtemp]
        cases o : (s.ppr.get q).faults.overtemp <;> simp_all
    · rw [if_neg w]
      exact .refl _ _ _
  · rw [s.judgeFaults_ppr_ne e]
    exact .refl _ _ _

theorem State.setWatch_ppr (s : State) (p : Pump) (w : Watch) :
    (s.setWatch p w).ppr = s.ppr.modify p fun r => { r with watch := w } := only_setCondition _ _ _ .ppr (by decide)

theorem judged_setWatch (s : State) (p : Pump) (w : Watch) : AllJudged s (s.setWatch p w) := by
  have h := judged_modProt s p (fun r => { r with watch := w }) (.of_running _ _ _ _ _ w)
  intro q
  rw [State.setWatch_ppr]
  exact h q

theorem points_setWatch (s : State) (p : Pump) (w : Watch) : OnlyPoints {.pump p .runMismatch} s (s.setWatch p w) :=
  (OnlyPoints.of_only (only_modProt s p _) (by decide)).trans (points_setCondition _ _ _)

theorem points_judgeFaults {A : Set AlarmPoint} (s : State) (p : Pump) : OnlyPoints A s (s.judgeFaults p) :=
  .when _ ((OnlyPoints.of_only (only_modProt s p _) (by decide)).trans (points_reportIf _ _ _))

/-! ### A run command going off -/

/-- A pump as it stands once its run command has gone off (R30). -/
def DutyPump.dropped (d : DutyPump) (minOff : Timer) : DutyPump :=
  { d with
    run := .stopped, startTime := none, minRun := none, minOff := minOff, rampNext := none, speedRef := 0, pendingDuty := 0 }

/-- The run command of a pump gone off, before the watch and the conditions are judged. -/
def State.cutPump (s : State) (p : Pump) : State :=
  ((s.modDuty p fun d =>
    { d with startTime := none, minRun := none, minOff := s.timer s.img.duty.minOffS, rampNext := none,
             speedRef := 0, pendingDuty := 0 }).setRun p .stopped).modProt p fun r =>
    { r with runningSince := none, armed := false }

theorem State.dropPump_eq (s : State) (p : Pump) :
    s.dropPump p =
      (if (s.cutPump p).inAuto p && (s.cutPump p).runFb p then (s.cutPump p).setWatch p (.stopWatch (some (s.cutPump p).uptime))
      else s.cutPump p).judgeFaults p := rfl

theorem only_cutPump (s : State) (p : Pump) : OnlyIn [.dsq, .ppr, .fbl, .alm] s (s.cutPump p) :=
  ((only_modDuty s p _).next (cs := [.dsq, .fbl, .alm]) (only_setRun _ _ _)).next (only_modProt _ _ _)

theorem State.inAuto_cutPump (s : State) (p q : Pump) : (s.cutPump p).inAuto q = s.inAuto q :=
  State.inAuto_congr (only_cutPump s p .inputs (by decide)) (only_cutPump s p .cfg (by decide)) q

theorem State.cutPump_dsq (s : State) (p : Pump) :
    (s.cutPump p).dsq = { s.dsq with pumps := s.dsq.pumps.modify p (·.dropped (s.timer s.img.duty.minOffS)) } := by
  simp only [State.cutPump, State.modProt_dsq, State.setRun_dsq, State.modDuty_dsq]
  cases p <;> rfl

theorem State.cutPump_fbl (s : State) (p : Pump) :
    (s.cutPump p).fbl = { s.fbl with silence := (s.cutPump p).fbl.silence } := by
  simp only [State.cutPump, State.modProt_fbl]
  exact State.setRun_fbl _ _ _

theorem State.cutPump_ppr (s : State) (p : Pump) :
    (s.cutPump p).ppr = s.ppr.modify p fun r => { r with runningSince := none, armed := false } := by
  simp only [State.cutPump, State.modProt_ppr, State.setRun_ppr, State.modDuty_ppr]

theorem judged_cutPump (s : State) (p : Pump) : AllJudged s (s.cutPump p) := by
  have h := judged_modProt s p (fun r => { r with runningSince := none, armed := false }) (.of_running _ _ _ _ _ _)
  intro q
  rw [State.cutPump_ppr]
  exact h q

theorem points_cutPump {A : Set AlarmPoint} (s : State) (p : Pump) : OnlyPoints A s (s.cutPump p) :=
  ((OnlyPoints.of_only (only_modDuty s p _) (by decide)).trans (points_setRun _ _ _)).trans
    (.of_only (only_modProt _ _ _) (by decide))

/-- The watch of a pump whose command goes off begins in AUTO with feedback alone (R81). -/
theorem State.dropPump_cases (s : State) (p : Pump) :
    s.dropPump p = ((s.cutPump p).setWatch p (.stopWatch (some (s.cutPump p).uptime))).judgeFaults p ∧ s.inAuto p = true ∨
    s.dropPump p = (s.cutPump p).judgeFaults p := by
  rw [State.dropPump_eq]
  by_cases h : ((s.cutPump p).inAuto p && (s.cutPump p).runFb p) = true
  · rw [if_pos h]
    refine .inl ⟨rfl, ?_⟩
    rw [← s.inAuto_cutPump p p]
    simp_all
  · rw [if_neg h]
    exact .inr rfl

theorem State.dropPump_dsq (s : State) (p : Pump) :
    (s.dropPump p).dsq = { s.dsq with pumps := s.dsq.pumps.modify p (·.dropped (s.timer s.img.duty.minOffS)) } := by
  rw [← State.cutPump_dsq]
  rcases s.dropPump_cases p with ⟨e, _⟩ | e <;> rw [e]
  · exact (only_judgeFaults _ _ .dsq (by decide)).trans (only_setWatch _ _ _ .dsq (by decide))
  · exact only_judgeFaults _ _ .dsq (by decide)

theorem State.dropPump_fbl (s : State) (p : Pump) :
    (s.dropPump p).fbl = { s.fbl with silence := (s.dropPump p).fbl.silence } := by
  have e : (s.dropPump p).fbl = (s.cutPump p).fbl := by
    rcases s.dropPump_cases p with ⟨e, _⟩ | e <;> rw [e]
    · exact (only_judgeFaults _ _ .fbl (by decide)).trans (only_setWatch _ _ _ .fbl (by decide))
    · exact only_judgeFaults _ _ .fbl (by decide)
  rw [e]
  exact s.cutPump_fbl p

theorem judged_dropPump (s : State) (p : Pump) : AllJudged s (s.dropPump p) := by
  have c := only_cutPump s p
  rcases s.dropPump_cases p with ⟨e, _⟩ | e <;> rw [e]
  · exact .trans (c.trans ((only_setWatch _ _ _).mono (by decide))) (by decide) (by decide)
      (.trans c (by decide) (by decide) (judged_cutPump s p) (judged_setWatch _ _ _)) (judged_judgeFaults _ _)
  · exact .trans c (by decide) (by decide) (judged_cutPump s p) (judged_judgeFaults _ _)

theorem State.cutPump_ppr_ne (s : State) {p q : Pump} (h : q ≠ p) : (s.cutPump p).ppr.get q = s.ppr.get q := by
  simp [State.cutPump_ppr, h]

theorem State.dropPump_ppr_ne (s : State) {p q : Pump} (h : q ≠ p) : (s.dropPump p).ppr.get q = s.ppr.get q := by
  rcases s.dropPump_cases p with ⟨e, _⟩ | e <;> rw [e, State.judgeFaults_ppr_ne _ h]
  · simp [State.setWatch_ppr, h, s.cutPump_ppr_ne h]
  · exact s.cutPump_ppr_ne h

theorem points_dropPump (s : State) (p : Pump) : OnlyPoints {.pump p .runMismatch} s (s.dropPump p) := by
  rcases s.dropPump_cases p with ⟨e, _⟩ | e <;> rw [e]
  · exact ((points_cutPump s p).trans (points_setWatch _ _ _)).trans (points_judgeFaults _ _)
  · exact (points_cutPump s p).trans (points_judgeFaults _ _)

theorem State.judgeFaults_watch (s : State) (p q : Pump) : ((s.judgeFaults p).ppr.get q).watch = (s.ppr.get q).watch := by
  rw [State.judgeFaults_ppr]
  split
  · cases p <;> cases q <;> rfl
  · rfl

theorem State.cutPump_watch (s : State) (p q : Pump) : ((s.cutPump p).ppr.get q).watch = (s.ppr.get q).watch := by
  rw [State.cutPump_ppr]
  cases p <;> cases q <;> rfl

/-- Outside AUTO no watch begins when a run command goes off. -/
theorem State.dropPump_outside_auto (s : State) {p : Pump} (h : s.inAuto p = false) {A : Set AlarmPoint} :
    OnlyPoints A s (s.dropPump p) ∧ ((s.dropPump p).ppr.get p).watch = (s.ppr.get p).watch := by
  rcases s.dropPump_cases p with ⟨_, k⟩ | e
  · rw [h] at k
    cases k
  · rw [e, State.judgeFaults_watch, State.cutPump_watch]
    exact ⟨(points_cutPump s p).trans (points_judgeFaults _ _), rfl⟩

end Sys2Proof.Machine
end

section
/-! A grant to a pump and to a screen, and the moves that re-form the run set (R28, R39 to R42, R61, R93). -/

namespace Sys2Proof.Machine

/-! ### Grants -/

/-- The run command of a pump granted, before the conditions are judged (R28). -/
def State.commandPump (s : State) (p : Pump) : State :=
  (((s.modDuty p fun d =>
    let d := { d with
      startTime := some s.uptime
      history := addStartEntry d.history s.upSeconds
      minRun := s.timer s.img.duty.minRunS
      minOff := none }
    if s.img.drive p then { d.setRef s.img.duty.minSpeed with rampNext := some (s.uptime + 1000) } else d).setRun p
      .starting).credit (·.addStart p)).setWatch p .idle

theorem State.grantPump_eq (s : State) (p : Pump) :
    s.grantPump p =
      if (s.commandPump p).runFb p then (s.commandPump p).startConfirm p else (s.commandPump p).judgeFaults p := rfl

theorem only_commandPump (s : State) (p : Pump) : OnlyIn [.dsq, .ppr, .fbl, .alm, .src] s (s.commandPump p) :=
  (((only_modDuty s p _).next (cs := [.dsq, .fbl, .alm]) (only_setRun _ _ _)).next (cs := [.dsq, .fbl, .alm, .src])
    (only_credit _ _)).next (only_setWatch _ _ _)

theorem State.commandPump_ppr (s : State) (p : Pump) :
    (s.commandPump p).ppr = s.ppr.modify p fun r => { r with watch := .idle } := by
  simp only [State.commandPump, State.setWatch_ppr, State.credit_ppr, State.setRun_ppr, State.modDuty_ppr]

theorem State.startConfirm_eq (s : State) (p : Pump) :
    s.startConfirm p =
      ((s.setRun p .running).modProt p fun r => { r with runningSince := some s.uptime, armed := false }).judgeFaults p := rfl

theorem judged_startConfirm (s : State) (p : Pump) : AllJudged s (s.startConfirm p) := by
  have o : OnlyIn [.dsq, .fbl, .alm] s (s.setRun p .running) := only_setRun s p _
  have o' : OnlyIn [.dsq, .ppr, .fbl, .alm] s
      ((s.setRun p .running).modProt p fun r => { r with runningSince := some s.uptime, armed := false }) :=
    o.next (only_modProt _ _ _)
  exact .trans o' (by decide) (by decide)
    (.trans o (by decide) (by decide) (.of_only o (by decide)) (judged_modProt _ _ _ (.of_running _ _ _ _ _ _)))
    (judged_judgeFaults _ _)

theorem judged_grantPump (s : State) (p : Pump) : AllJudged s (s.grantPump p) := by
  have w : AllJudged s (s.commandPump p) := by
    have h := judged_modProt s p (fun r => { r with watch := .idle }) (.of_running _ _ _ _ _ _)
    intro q
    rw [State.commandPump_ppr]
    exact h q
  rw [State.grantPump_eq]
  split
  · exact .trans (only_commandPump s p) (by decide) (by decide) w (judged_startConfirm _ _)
  · exact .trans (only_commandPump s p) (by decide) (by decide) w (judged_judgeFaults _ _)

theorem State.startConfirm_ppr_ne (s : State) {p q : Pump} (h : q ≠ p) : (s.startConfirm p).ppr.get q = s.ppr.get q := by
  rw [State.startConfirm_eq, State.judgeFaults_ppr_ne _ h]
  simp [State.setRun_ppr, h]

theorem State.grantPump_ppr_ne (s : State) {p q : Pump} (h : q ≠ p) : (s.grantPump p).ppr.get q = s.ppr.get q := by
  have w : (s.commandPump p).ppr.get q = s.ppr.get q := by simp [State.commandPump_ppr, h]
  rw [State.grantPump_eq]
  split
  · rw [State.startConfirm_ppr_ne _ h, w]
  · rw [State.judgeFaults_ppr_ne _ h, w]

theorem points_startConfirm {A : Set AlarmPoint} (s : State) (p : Pump) : OnlyPoints A s (s.startConfirm p) :=
  ((points_setRun s p _).trans (.of_only (only_modProt _ _ _) (by decide))).trans (points_judgeFaults _ _)

theorem points_grantPump (s : State) (p : Pump) : OnlyPoints {.pump p .runMismatch} s (s.grantPump p) := by
  have w : OnlyPoints {.pump p .runMismatch} s (s.commandPump p) :=
    (((OnlyPoints.of_only (only_modDuty s p _) (by decide)).trans (points_setRun _ _ _)).trans
      (.of_only (only_credit _ _) (by decide))).trans (points_setWatch _ _ _)
  rw [State.grantPump_eq]
  exact .choose _ (w.trans (points_startConfirm _ _)) (w.trans (points_judgeFaults _ _))

theorem State.startConfirm_dsq (s : State) (p : Pump) :
    (s.startConfirm p).dsq = { s.dsq with pumps := s.dsq.pumps.modify p fun d => { d with run := .running } } := by
  rw [State.startConfirm_eq]
  exact (only_judgeFaults _ _ .dsq (by decide)).trans (by simp [State.setRun_dsq])

/-- Of the Duty Sequencer a grant moves that pump alone. -/
theorem State.grantPump_dsq (s : State) (p : Pump) :
    ∃ f, (s.grantPump p).dsq = { s.dsq with pumps := s.dsq.pumps.modify p f } := by
  have w : ∃ f, (s.commandPump p).dsq = { s.dsq with pumps := s.dsq.pumps.modify p f } := by
    refine ⟨(fun d => { d with run := .starting }) ∘ (fun d =>
      let d := { d with
        startTime := some s.uptime
        history := addStartEntry d.history s.upSeconds
        minRun := s.timer s.img.duty.minRunS
        minOff := none }
      if s.img.drive p then { d.setRef s.img.duty.minSpeed with rampNext := some (s.uptime + 1000) } else d), ?_⟩
    refine (only_setWatch _ _ _ .dsq (by decide)).trans ?_
    simp only [State.credit_dsq, State.setRun_dsq, State.modDuty_dsq]
    cases p <;> rfl
  obtain ⟨f, w⟩ := w
  rw [State.grantPump_eq]
  split
  · refine ⟨(fun d => { d with run := .running }) ∘ f, ?_⟩
    rw [State.startConfirm_dsq, w]
    cases p <;> rfl
  · exact ⟨f, (only_judgeFaults _ _ .dsq (by decide)).trans w⟩

theorem State.startConfirm_fbl (s : State) (p : Pump) :
    (s.startConfirm p).fbl = { s.fbl with silence := (s.startConfirm p).fbl.silence } := by
  have e : (s.startConfirm p).fbl = (s.setRun p .running).fbl := by
    rw [State.startConfirm_eq]
    exact only_judgeFaults _ _ .fbl (by decide)
  rw [e]
  exact s.setRun_fbl p _

theorem State.grantPump_fbl (s : State) (p : Pump) :
    (s.grantPump p).fbl = { s.fbl with silence := (s.grantPump p).fbl.silence } := by
  have w : (s.commandPump p).fbl = { s.fbl with silence := (s.commandPump p).fbl.silence } := by
    have e : ∀ f, ((((s.modDuty p f).setRun p .starting).credit (·.addStart p)).setWatch p .idle).fbl =
        ((s.modDuty p f).setRun p .starting).fbl := fun f => only_setWatch _ _ _ .fbl (by decide)
    rw [State.commandPump, e]
    exact State.setRun_fbl _ p _
  rw [State.grantPump_eq]
  split
  · rw [State.startConfirm_fbl, w]
  · rw [show ((s.commandPump p).judgeFaults p).fbl = (s.commandPump p).fbl from only_judgeFaults _ _ .fbl (by decide)]
    exact w

/-- A grant credits a start and appends nothing. -/
theorem State.grantPump_src (s : State) (p : Pump) :
    (s.grantPump p).src = { s.src with acc := (s.grantPump p).src.acc } := by
  have w : (s.commandPump p).src = { s.src with acc := s.src.acc.addStart p } := by
    refine (only_setWatch _ _ _ .src (by decide)).trans ?_
    rw [State.credit_src, show ∀ f, ((s.modDuty p f).setRun p .starting).src = s.src from
      fun f => only_setRun _ _ _ .src (by decide)]
  rw [State.grantPump_eq]
  split
  · rw [show ((s.commandPump p).startConfirm p).src = (s.commandPump p).src from only_startConfirm _ _ .src (by decide), w]
  · rw [show ((s.commandPump p).judgeFaults p).src = (s.commandPump p).src from only_judgeFaults _ _ .src (by decide), w]

/-- A change of a rake state moves that screen's record alone, and no alarm point. -/
theorem State.setRake_screens_ne (s : State) {sc x : Screen} (k : RakeState) (h : x ≠ sc) :
    (s.setRake sc k).scr.screens.get x = s.scr.screens.get x := by
  simp [State.setRake_scr, h]

theorem State.setRake_blinded (s : State) (sc : Screen) (k : RakeState) :
    (s.setRake sc k).scr.blinded = s.scr.blinded := by
  simp [State.setRake_scr]

@[simp] theorem State.setRake_screens_self (s : State) (sc : Screen) (k : RakeState) :
    (s.setRake sc k).scr.screens.get sc = (s.scr.screens.get sc).map fun r => { r with rake := k } := by
  simp [State.setRake_scr]

theorem points_setRake {A : Set AlarmPoint} (s : State) (sc : Screen) (k : RakeState) : OnlyPoints A s (s.setRake sc k) := by
  unfold State.setRake
  split
  · exact (OnlyPoints.of_only (only_modScreen s sc _) (by decide)).trans (points_reportIf _ _ _)
  · exact .refl _ _

theorem points_jam {A : Set AlarmPoint} (s : State) (sc : Screen) : OnlyPoints A s (s.jam sc) :=
  (OnlyPoints.of_only (only_modScreen s sc _) (by decide)).trans (points_setRake _ _ _)

theorem points_grantScreen {A : Set AlarmPoint} (s : State) (sc : Screen) : OnlyPoints A s (s.grantScreen sc) := by
  have w : ∀ f, OnlyPoints A s ((s.modScreen sc f).setRake sc .forward) := fun f =>
    (OnlyPoints.of_only (only_modScreen s sc f) (by decide)).trans (points_setRake _ _ _)
  exact .choose _ ((w _).trans (points_jam _ _)) (w _)

theorem State.jam_screens_ne (s : State) {sc x : Screen} (h : x ≠ sc) :
    (s.jam sc).scr.screens.get x = s.scr.screens.get x := by
  simp [State.jam, State.setRake_screens_ne _ _ h, h]

theorem State.grantScreen_screens_ne (s : State) {sc x : Screen} (h : x ≠ sc) :
    (s.grantScreen sc).scr.screens.get x = s.scr.screens.get x := by
  unfold State.grantScreen
  dsimp only
  split
  · rw [State.jam_screens_ne _ h, State.setRake_screens_ne _ _ h]
    simp [h]
  · rw [State.setRake_screens_ne _ _ h]
    simp [h]

theorem State.jam_blinded (s : State) (sc : Screen) : (s.jam sc).scr.blinded = s.scr.blinded := by
  simp [State.jam, State.setRake_blinded]

theorem State.grantScreen_blinded (s : State) (sc : Screen) : (s.grantScreen sc).scr.blinded = s.scr.blinded := by
  unfold State.grantScreen
  dsimp only
  split <;> simp [State.jam_blinded, State.setRake_blinded]

/-! ### Requests -/

theorem State.requestOf_who {s : State} {w : Requester} {r : Request} (h : s.requestOf w = some r) : r.who = w := by
  have k := List.find?_some h
  simpa using k

/-- A ranked request is that of a pump in the queue, or that of a screen that waits (R57). -/
theorem State.mem_ranked {s : State} {r : Request} (h : r ∈ s.ranked) :
    (∃ p, r.who = .pump p ∧ p ∈ s.dsq.queue) ∨ ∃ sc, r.who = .screen sc ∧ s.requestOf (.screen sc) = some r := by
  have pump : r ∈ s.waitingPumps → ∃ p, r.who = .pump p ∧ p ∈ s.dsq.queue := by
    intro m
    obtain ⟨p, hp, e⟩ := List.mem_filterMap.mp m
    exact ⟨p, State.requestOf_who e, hp⟩
  have screen : r ∈ s.waitingScreens → ∃ sc, r.who = .screen sc ∧ s.requestOf (.screen sc) = some r := by
    intro m
    have k : s.requestOf (.screen .n1) = some r ∨ s.requestOf (.screen .n2) = some r := by
      unfold State.waitingScreens at m
      split at m
      · split at m <;> simp_all <;> tauto
      · simp_all
      · simp_all
      · simp at m
    rcases k with k | k
    · exact ⟨_, State.requestOf_who k, k⟩
    · exact ⟨_, State.requestOf_who k, k⟩
  simp only [State.ranked, List.mem_append, List.mem_filter] at h
  rcases h with (⟨m, _⟩ | ⟨m, _⟩) | m
  · exact .inl (pump m)
  · exact .inl (pump m)
  · exact .inr (screen m)

theorem State.requestOf_withdraw_ne (s : State) {w x : Requester} (h : x ≠ w) :
    (s.withdraw w).requestOf x = s.requestOf x := by
  simp only [State.requestOf, State.withdraw_spm, List.find?_filter]
  congr 1
  funext r
  by_cases e : r.who = x <;> simp [e, h]

theorem State.requestOf_withdraw_self (s : State) (w : Requester) : (s.withdraw w).requestOf w = none := by
  simp [State.requestOf]

theorem State.requestOf_join_ne (s : State) {w x : Requester} (h : x ≠ w) : (s.join w).requestOf x = s.requestOf x := by
  simp only [State.requestOf, State.join_spm, List.find?_append]
  cases s.spm.waiting.find? fun r => r.who == x <;> simp [Ne.symm h]

theorem State.requestOf_join_self (s : State) {w : Requester} (h : s.requestOf w = none) :
    (s.join w).requestOf w = some ⟨w, s.uptime⟩ := by
  simp only [State.requestOf] at h
  simp [State.requestOf, List.find?_append, h]

theorem State.requestOf_congr {s t : State} (h : t.spm = s.spm) (w : Requester) : t.requestOf w = s.requestOf w := by
  simp only [State.requestOf, h]

end Sys2Proof.Machine
end

section
/-! The moves of one duty event as a relation, that the re-formation and the requeueing are made of them, and what they keep (R23 to
R25, R39 to R42). -/

namespace Sys2Proof.Machine

/-- One move of the Duty Sequencer. While `asks` is false no request is made and none is granted, as when pumps leave the queue; a
queue is set to the pumps it holds, or to all members. -/
inductive DutyMove : Bool → State → State → Prop
  | drop {asks : Bool} (s : State) (p : Pump) (on : s.runCmd p = true) : DutyMove asks s (s.dropPump p)
  | unwait {asks : Bool} (s : State) (p : Pump) (off : s.runCmd p = false) : DutyMove asks s (s.unwait p)
  | uncommand {asks : Bool} (s : State) (p : Pump) : DutyMove asks s (s.setOverride p none)
  | queue {asks : Bool} (s : State) (q : List Pump)
      (same : (∀ p, p ∈ q ↔ p ∈ s.dsq.queue) ∨ ∀ p, p ∈ q ↔ s.member p = true) : DutyMove asks s (s.setQueue q)
  | runSet {asks : Bool} (s : State) (m : List Pump) (c : Bool) :
      DutyMove asks s (({ s with dsq := { s.dsq with runSet := m } }).reportIf c .pumps)
  | ask (s : State) (p : Pump) (queued : p ∈ s.dsq.queue) : DutyMove true s ((s.setRun p .waiting).join (.pump p))
  | grant (s : State) (r : Request) (ranked : r ∈ s.ranked) (opened : s.spm.permit = .opened) :
      DutyMove true s ((s.recordGrant r.who).grantTo r.who)

/-- A run of moves. -/
def DutyMoves (asks : Bool) : State → State → Prop := Relation.ReflTransGen (DutyMove asks)

namespace DutyMoves
variable {asks : Bool} {s t u : State}

theorem refl (s : State) : DutyMoves asks s s := Relation.ReflTransGen.refl

theorem of (h : DutyMove asks s t) : DutyMoves asks s t := .single h

theorem trans (h : DutyMoves asks s t) (k : DutyMoves asks t u) : DutyMoves asks s u := Relation.ReflTransGen.trans h k

/-- A property that every move keeps holds along a run of moves. -/
theorem keeps {P : State → Prop} (h : DutyMoves asks s t) (step : ∀ a b, DutyMove asks a b → P a → P b) (k : P s) : P t := by
  induction h with
  | refl => exact k
  | tail _ m ih => exact step _ _ m ih

/-- A figure that no move changes is the same after a run of moves. -/
theorem same {α : Type} (f : State → α) (h : DutyMoves asks s t) (step : ∀ a b, DutyMove asks a b → f b = f a) : f t = f s :=
  h.keeps (P := fun u => f u = f s) (fun _ _ m k => (step _ _ m).trans k) rfl

theorem each {α : Type} {f : State → α → State} (h : ∀ s a, DutyMoves asks s (f s a)) (xs : List α) (s : State) :
    DutyMoves asks s (s.each xs f) := by
  induction xs generalizing s with
  | nil => exact .refl _
  | cons a rest ih => exact (h s a).trans (ih _)

end DutyMoves

/-! ### The re-formation and the requeueing are runs of moves -/

theorem mem_rotate (q : List Pump) (p : Pump) : p ∈ rotate q ↔ p ∈ q := by
  cases q with
  | nil => rfl
  | cons a rest => simp [rotate, or_comm]

theorem moves_alternate {asks : Bool} (s : State) (n : Nat) : DutyMoves asks s (s.alternate n) := by
  unfold State.alternate
  split
  · exact .of (.queue _ _ (.inl (mem_rotate _)))
  · exact .refl _

theorem moves_stopPump {asks : Bool} (s : State) (p : Pump) (h : s.runCmd p = true) : DutyMoves asks s (s.stopPump p) :=
  (DutyMoves.of (.drop s p h)).trans (moves_alternate _ _)

theorem State.runCmd_of_waiting {s : State} {p : Pump} (h : s.runState p = .waiting) : s.runCmd p = false := by
  simp [State.runCmd, h, RunState.commanded]

theorem State.runState_unwait_ne (s : State) {p q : Pump} (h : q ≠ p) : (s.unwait p).runState q = s.runState q :=
  s.runState_setRun_ne _ h

/-- The WAITING pumps of a list without repeats go back to STOPPED one after another. -/
theorem moves_unwaits {asks : Bool} (ps : List Pump) (nodup : ps.Nodup) (s : State)
    (h : ∀ p ∈ ps, s.runState p = .waiting) : DutyMoves asks s (s.each ps State.unwait) := by
  induction ps generalizing s with
  | nil => exact .refl _
  | cons p rest ih =>
    obtain ⟨fresh, nodup⟩ := List.nodup_cons.mp nodup
    refine (DutyMoves.of (.unwait s p (State.runCmd_of_waiting (h p (by simp))))).trans (ih nodup _ fun q hq => ?_)
    have ne : q ≠ p := fun e => fresh (e ▸ hq)
    rw [s.runState_unwait_ne ne]
    exact h q (by simp [hq])

theorem No4.all_nodup : No4.all.Nodup := by decide

theorem No4.mem_all (p : No4) : p ∈ No4.all := by cases p <;> decide

theorem No2.mem_all (k : No2) : k ∈ No2.all := by cases k <;> decide

theorem State.setRun_queue (s : State) (p : Pump) (r : RunState) : (s.setRun p r).dsq.queue = s.dsq.queue := by
  simp [State.setRun_dsq]

theorem State.each_keeps {α β : Type} (f : State → α → State) (g : State → β) (h : ∀ s a, g (f s a) = g s) (xs : List α)
    (s : State) : g (s.each xs f) = g s := by
  induction xs generalizing s with
  | nil => rfl
  | cons a rest ih => exact (ih _).trans (h s a)

theorem State.unwait_queue (s : State) (p : Pump) : (s.unwait p).dsq.queue = s.dsq.queue := s.setRun_queue p _

/-- STOPPED members of a list drawn from the queue ask the permit one after another. -/
theorem moves_asks (ps : List Pump) (s : State) (h : ∀ p ∈ ps, p ∈ s.dsq.queue) :
    DutyMoves true s (s.each ps fun v p => (v.setRun p .waiting).join (.pump p)) := by
  induction ps generalizing s with
  | nil => exact .refl _
  | cons p rest ih =>
    refine (DutyMoves.of (.ask s p (h p (by simp)))).trans (ih _ fun q hq => ?_)
    rw [State.join_dsq, State.setRun_queue]
    exact h q (by simp [hq])

theorem moves_settleRunSet (s : State) (m : List Pump) (h : ∀ p ∈ m, p ∈ s.dsq.queue) :
    DutyMoves true s (s.settleRunSet m) := by
  unfold State.settleRunSet
  dsimp only
  refine (moves_unwaits _ (No4.all_nodup.filter _) s fun p hp => ?_).trans
    ((DutyMoves.of (.runSet _ m _)).trans (moves_asks _ _ fun p hp => ?_))
  · have := (List.mem_filter.mp hp).2
    simp_all
  · rw [show ∀ (v : State) c, (v.reportIf c .pumps).dsq = v.dsq from fun v c => only_reportIf v c _ .dsq (by decide),
      State.each_keeps State.unwait (·.dsq.queue) State.unwait_queue]
    exact h p (List.mem_filter.mp hp).1

/-- The members of a formation come from the queue (R39). -/
theorem State.wanted_subset (s : State) : ∀ p ∈ s.wanted, p ∈ s.dsq.queue := by
  intro p hp
  unfold State.wanted at hp
  split at hp
  · simp at hp
  · simp only [List.mem_append, List.mem_filter] at hp
    rcases hp with ⟨⟨q, _⟩, _⟩ | hp
    · exact q
    · exact (List.mem_filter.mp (List.mem_filter.mp (List.mem_of_mem_take hp)).1).1

theorem dropLast_subset (f : Pump → Bool) (m : List Pump) : dropLast f m ⊆ m := by
  unfold dropLast
  split
  · exact List.filter_subset_self _
  · exact List.Subset.refl _

theorem State.fitUpTo_subset (s : State) (out n : Nat) (m : List Pump) : s.fitUpTo out n m ⊆ m := by
  induction n generalizing m with
  | zero => exact List.Subset.refl _
  | succ n ih =>
    unfold State.fitUpTo
    split
    · exact List.Subset.trans (ih _) (dropLast_subset _ _)
    · exact List.Subset.refl _

theorem State.mustStop_commanded {s : State} {m : List Pump} {p : Pump} (h : s.mustStop m = some p) : s.runCmd p = true := by
  have k := (List.mem_filter.mp (List.mem_of_find?_eq_some h)).2
  simp_all

/-- A fold that at each element keeps what it has or takes the element ends with one of the elements. -/
theorem foldl_picks {α : Type} {P : α → Prop} (g : Option α → α → Option α) (pick : ∀ b q, g b q = b ∨ g b q = some q)
    (xs : List α) (hx : ∀ q ∈ xs, P q) (best : Option α) (hb : ∀ q, best = some q → P q) :
    ∀ q, xs.foldl g best = some q → P q := by
  induction xs generalizing best with
  | nil => exact hb
  | cons x rest ih =>
    refine ih (fun q hq => hx q (by simp [hq])) (g best x) fun q e => ?_
    rcases pick best x with i | i <;> rw [i] at e
    · exact hb q e
    · cases e
      exact hx x (by simp)

theorem State.latestStarted_commanded {s : State} {p : Pump} (h : s.latestStarted = some p) : s.runCmd p = true := by
  refine foldl_picks (P := fun p => s.runCmd p = true) _ (fun b q => ?_) _ (fun q hq => (List.mem_filter.mp hq).2) none
    (fun q e => by cases e) p h
  cases b with
  | none => exact .inr rfl
  | some x =>
    dsimp only
    split
    · exact .inr rfl
    · exact .inl rfl

theorem moves_grantFirst (s : State) (h : s.spm.permit = .opened) : DutyMoves true s s.grantFirst := by
  unfold State.grantFirst
  split
  · rename_i r e
    exact .of (.grant s r (List.mem_of_mem_head? e) h)
  · exact .refl _

theorem moves_reformUpTo (n : Nat) (s : State) : DutyMoves true s (s.reformUpTo n) := by
  induction n generalizing s with
  | zero => exact .refl _
  | succ n ih =>
    have settle : DutyMoves true s (s.settleRunSet (s.fit s.wanted)) :=
      moves_settleRunSet s _ fun p hp => s.wanted_subset p (s.fitUpTo_subset _ _ _ hp)
    unfold State.reformUpTo
    dsimp only
    split
    · rename_i p e
      exact (moves_stopPump s p (State.mustStop_commanded e)).trans (ih _)
    · split
      · split
        · rename_i p e
          exact (moves_stopPump s p (State.latestStarted_commanded e)).trans (ih _)
        · exact settle
      · split
        · rename_i o
          split
          · exact settle
          · exact settle.trans ((moves_grantFirst _ o).trans (ih _))
        · exact settle

theorem moves_reform (s : State) : DutyMoves true s s.reform := moves_reformUpTo 10 s

theorem State.setOverride_dsq (s : State) (p : Pump) (o : Option Override) :
    (s.setOverride p o).dsq = { s.dsq with pumps := s.dsq.pumps.modify p fun d => { d with override := o } } :=
  only_reportIf _ _ _ .dsq (by decide)

theorem State.runState_setOverride (s : State) (p q : Pump) (o : Option Override) :
    (s.setOverride p o).runState q = s.runState q := by
  simp only [State.runState, State.setOverride_dsq]
  cases p <;> cases q <;> rfl

theorem moves_leaveQueue {asks : Bool} (s : State) (p : Pump) : DutyMoves asks s (s.leaveQueue p) := by
  have o : DutyMoves asks s (s.setOverride p none) := .of (.uncommand s p)
  unfold State.leaveQueue
  dsimp only
  split
  · rename_i k
    exact o.trans (.of (.unwait _ p (State.runCmd_of_waiting k)))
  · rename_i k
    exact o.trans (.of (.drop _ p (by simp [State.runCmd, k, RunState.commanded])))
  · rename_i k
    exact o.trans (.of (.drop _ p (by simp [State.runCmd, k, RunState.commanded])))
  · exact o

/-- The queue after the leavers have gone is set to the members. -/
theorem mem_requeued (s : State) (p : Pump) :
    p ∈ s.dsq.queue.filter s.member ++ No4.all.filter (fun p => s.member p && !s.dsq.queue.contains p) ↔
      s.member p = true := by
  simp only [List.mem_append, List.mem_filter, No4.mem_all, true_and, Bool.and_eq_true, Bool.not_eq_true',
    List.contains_eq_mem, decide_eq_false_iff_not]
  tauto

/-- The state in which the leavers have gone from the queue (R24). -/
def State.leavers (s : State) : State := s.each (s.dsq.queue.filter fun p => !s.member p) State.leaveQueue

/-- The queue of the members, the joiners at its tail (R23). -/
def State.members (s : State) : List Pump :=
  s.dsq.queue.filter s.member ++ No4.all.filter fun p => s.member p && !s.dsq.queue.contains p

theorem moves_leavers {asks : Bool} (s : State) : DutyMoves asks s s.leavers := .each moves_leaveQueue _ s

theorem moves_requeue {asks : Bool} (s : State) (n : Nat) : DutyMoves asks s (s.requeue n) :=
  ((moves_leavers s).trans (.of (.queue _ _ (.inr (mem_requeued _))))).trans (moves_alternate _ _)

theorem moves_dutyEvent (s : State) (n : Nat) : DutyMoves true s (s.dutyEvent n) :=
  (moves_requeue s n).trans (moves_reform _)

end Sys2Proof.Machine
end

section
/-! What the moves of a duty event keep. -/

namespace Sys2Proof.Machine

variable {asks : Bool} {s t : State}

theorem DutyMove.only (h : DutyMove asks s t) : OnlyIn reformParts s t := by
  cases h with
  | drop _ p on => exact (only_dropPump s p).mono (by decide)
  | unwait _ p off => exact (only_unwait s p).mono (by decide)
  | uncommand _ p => exact (only_setOverride s p _).mono (by decide)
  | queue _ q same => exact (only_setQueue s q).mono (by decide)
  | runSet _ m c => exact (only_dsq s _).next (only_reportIf _ _ _)
  | ask _ p queued => exact (only_setRun s p _).next (only_join _ _)
  | grant _ r ranked opened => exact (only_recordGrant s _).next (only_grantTo _ _)

theorem DutyMoves.only (h : DutyMoves asks s t) : OnlyIn reformParts s t :=
  h.keeps (P := OnlyIn reformParts s) (fun _ _ m k => k.trans m.only) (.refl _ _)

/-- Of the conditions, the moves touch RUN_MISMATCH alone. -/
theorem DutyMove.points (h : DutyMove asks s t) : OnlyPoints mismatchPoints s t := by
  have one : ∀ p, ({.pump p .runMismatch} : Set AlarmPoint) ⊆ mismatchPoints := by
    rintro p a rfl
    exact ⟨p, rfl⟩
  cases h with
  | drop _ p on => exact (points_dropPump s p).mono (one p)
  | unwait _ p off => exact (points_setRun s p _).trans (.of_only (only_withdraw _ _) (by decide))
  | uncommand _ p => exact (OnlyPoints.of_only (only_modDuty s p _) (by decide)).trans (points_reportIf _ _ _)
  | queue _ q same => exact (OnlyPoints.of_only (only_dsq s _) (by decide)).trans (points_reportIf _ _ _)
  | runSet _ m c => exact (OnlyPoints.of_only (only_dsq s _) (by decide)).trans (points_reportIf _ _ _)
  | ask _ p queued => exact (points_setRun s p _).trans (.of_only (only_join _ _) (by decide))
  | grant _ r ranked opened =>
    refine (OnlyPoints.of_only (only_recordGrant s r.who) (by decide)).trans ?_
    cases r.who with
    | pump p => exact (points_grantPump _ p).mono (one p)
    | screen sc => exact points_grantScreen _ sc

theorem DutyMoves.points (h : DutyMoves asks s t) : OnlyPoints mismatchPoints s t :=
  h.keeps (P := OnlyPoints mismatchPoints s) (fun _ _ m k => k.trans m.points) (.refl _ _)

/-- A condition other than RUN_MISMATCH stands through the moves. -/
theorem DutyMoves.condition (h : DutyMoves asks s t) {a : AlarmPoint} (n : ∀ p, a ≠ .pump p .runMismatch) :
    t.condition a = s.condition a :=
  h.points.condition fun ⟨p, e⟩ => n p e.symm

/-- A grant leaves the queue, the calls, the latch, the stage and the run set as they were. -/
theorem State.grantTo_dsq (s : State) (w : Requester) :
    (s.grantTo w).dsq = { s.dsq with pumps := (s.grantTo w).dsq.pumps } := by
  cases w with
  | pump p =>
    obtain ⟨f, e⟩ := s.grantPump_dsq p
    simp only [State.grantTo, e]
  | screen sc => rw [show (s.grantTo (.screen sc)).dsq = s.dsq from only_grantScreen s sc .dsq (by decide)]

/-- The moves leave the calls, the latch and the speed stage alone. -/
theorem DutyMoves.calls (h : DutyMoves asks s t) :
    t.dsq.calls = s.dsq.calls ∧ t.dsq.latch = s.dsq.latch ∧ t.dsq.stage = s.dsq.stage := by
  have k := h.same (fun u => (u.dsq.calls, u.dsq.latch, u.dsq.stage)) fun a b m => by
    cases m with
    | drop _ p on => simp [State.dropPump_dsq]
    | unwait _ p off => simp [State.unwait, State.setRun_dsq]
    | uncommand _ p => simp [State.setOverride_dsq]
    | queue _ q same =>
      rw [show (a.setQueue q).dsq = { a.dsq with queue := q } from only_reportIf _ _ _ .dsq (by decide)]
    | runSet _ m c =>
      rw [show ∀ v : State, (v.reportIf c .pumps).dsq = v.dsq from fun v => only_reportIf v c _ .dsq (by decide)]
    | ask _ p queued => simp [State.setRun_dsq]
    | grant _ r ranked opened => rw [State.grantTo_dsq, State.recordGrant_dsq]
  simpa using k

theorem DutyMove.judged (h : DutyMove asks s t) : AllJudged s t := by
  cases h with
  | drop _ p on => exact judged_dropPump s p
  | unwait _ p off => exact .of_only (only_unwait s p) (by decide)
  | uncommand _ p => exact .of_only (only_setOverride s p _) (by decide)
  | queue _ q same => exact .of_only (only_setQueue s q) (by decide)
  | runSet _ m c =>
    exact .of_only (bs := [.dsq, .alm]) ((only_dsq s _).next (only_reportIf _ _ _)) (by decide)
  | ask _ p queued => exact .of_only (bs := [.dsq, .spm, .fbl, .alm]) ((only_setRun s p _).next (only_join _ _)) (by decide)
  | grant _ r ranked opened =>
    refine .trans (only_recordGrant s r.who) (by decide) (by decide) (.of_only (only_recordGrant s r.who) (by decide)) ?_
    cases r.who with
    | pump p => exact judged_grantPump _ p
    | screen sc => exact .of_only (only_grantScreen _ sc) (by decide)

/-- Of a pump's protection the moves touch what a judgement does (R65, R66, R81). -/
theorem DutyMoves.judged (h : DutyMoves asks s t) : AllJudged s t := by
  have k := h.keeps (P := fun u => AllJudged s u ∧ OnlyIn reformParts s u)
    (fun _ _ m ⟨j, o⟩ => ⟨.trans o (by decide) (by decide) j m.judged, o.trans m.only⟩) ⟨.refl _, .refl _ _⟩
  exact k.1

theorem DutyMove.member (h : DutyMove asks s t) (p : Pump) : t.member p = s.member p := by
  have a := State.inAuto_congr (h.only .inputs (by decide)) (h.only .cfg (by decide)) p
  simp only [State.member, a, (h.judged p).watched]

theorem DutyMoves.member (h : DutyMoves asks s t) (p : Pump) : t.member p = s.member p :=
  h.same (State.member · p) fun _ _ m => m.member p

/-- Of Flow Balance the moves touch the silence timer alone (R127). -/
theorem DutyMoves.fbl (h : DutyMoves asks s t) : t.fbl = { s.fbl with silence := t.fbl.silence } := by
  refine h.keeps (P := fun u => u.fbl = { s.fbl with silence := u.fbl.silence }) (fun a b m k => ?_) rfl
  have e : b.fbl = { a.fbl with silence := b.fbl.silence } := by
    cases m with
    | drop _ p on => exact a.dropPump_fbl p
    | unwait _ p off => exact a.setRun_fbl p _
    | uncommand _ p => rw [show (a.setOverride p none).fbl = a.fbl from only_setOverride a p _ .fbl (by decide)]
    | queue _ q same => rw [show (a.setQueue q).fbl = a.fbl from only_setQueue a q .fbl (by decide)]
    | runSet _ m c =>
      rw [show ∀ v : State, (v.reportIf c .pumps).fbl = v.fbl from fun v => only_reportIf v c _ .fbl (by decide)]
    | ask _ p queued => exact a.setRun_fbl p _
    | grant _ r ranked opened =>
      cases r.who with
      | pump p =>
        have g := (a.recordGrant (.pump p)).grantPump_fbl p
        rwa [State.recordGrant_fbl] at g
      | screen sc =>
        rw [show ((a.recordGrant (.screen sc)).grantTo (.screen sc)).fbl = a.fbl from
          only_grantScreen _ sc .fbl (by decide)]
  rw [e, k]

/-- A move that is no grant stays inside the Duty Sequencer, Pump Protection, the waiting list, Flow Balance and the reports. -/
theorem DutyMove.inside_or_grant (h : DutyMove asks s t) :
    OnlyIn [.dsq, .spm, .ppr, .fbl, .alm] s t ∧ t.spm = { s.spm with waiting := t.spm.waiting } ∧
        (∀ sc, t.requestOf (.screen sc) = s.requestOf (.screen sc)) ∨
      asks = true ∧ s.spm.permit = .opened ∧ ∃ r ∈ s.ranked, t = (s.recordGrant r.who).grantTo r.who := by
  have still : ∀ {bs : List Block} {u : State}, OnlyIn bs s u → Block.spm ∉ bs → bs ⊆ [.dsq, .spm, .ppr, .fbl, .alm] →
      OnlyIn [.dsq, .spm, .ppr, .fbl, .alm] s u ∧ u.spm = { s.spm with waiting := u.spm.waiting } ∧
        ∀ sc, u.requestOf (.screen sc) = s.requestOf (.screen sc) := by
    intro bs u o n k
    have e : u.spm = s.spm := o .spm n
    exact ⟨o.mono k, by rw [e], fun sc => State.requestOf_congr e _⟩
  have run : ∀ p r, (s.setRun p r).spm = s.spm := fun p r => only_setRun s p r .spm (by decide)
  cases h with
  | drop _ p on => exact .inl (still (only_dropPump s p) (by decide) (by decide))
  | unwait _ p off =>
    refine .inl ⟨(only_unwait s p).mono (by decide), ?_, fun sc => ?_⟩
    · simp only [State.unwait, State.withdraw_spm, run]
    · rw [State.unwait, State.requestOf_withdraw_ne _ (by simp)]
      exact State.requestOf_congr (run p _) _
  | uncommand _ p => exact .inl (still (only_setOverride s p _) (by decide) (by decide))
  | queue _ q same => exact .inl (still (only_setQueue s q) (by decide) (by decide))
  | runSet _ m c =>
    exact .inl (still (bs := [.dsq, .alm]) ((only_dsq s _).next (only_reportIf _ _ _)) (by decide) (by decide))
  | ask _ p queued =>
    refine .inl ⟨((only_setRun s p _).next (cs := [.dsq, .spm, .fbl, .alm]) (only_join _ _)).mono (by decide), ?_,
      fun sc => ?_⟩
    · simp only [State.join_spm, run]
    · rw [State.requestOf_join_ne _ (by simp)]
      exact State.requestOf_congr (run p _) _
  | grant _ r ranked opened => exact .inr ⟨rfl, opened, r, ranked, rfl⟩

/-- Of the Station Record the moves touch the accumulators alone. -/
theorem DutyMoves.src (h : DutyMoves asks s t) : t.src = { s.src with acc := t.src.acc } := by
  refine h.keeps (P := fun u => u.src = { s.src with acc := u.src.acc }) (fun a b m k => ?_) rfl
  have e : b.src = { a.src with acc := b.src.acc } := by
    rcases m.inside_or_grant with ⟨o, _⟩ | ⟨_, _, r, _, rfl⟩
    · rw [show b.src = a.src from o .src (by decide)]
    · cases r.who with
      | pump p =>
        have g := (a.recordGrant (.pump p)).grantPump_src p
        rwa [State.recordGrant_src] at g
      | screen sc =>
        rw [show ((a.recordGrant (.screen sc)).grantTo (.screen sc)).src = a.src from
          only_grantScreen _ sc .src (by decide)]
  rw [e, k]

/-- In SPACING the moves touch the waiting list alone (R58). -/
theorem DutyMoves.spacing (h : DutyMoves asks s t) (k : s.spm.permit = .spacing) :
    t.spm = { s.spm with waiting := t.spm.waiting } := by
  refine h.keeps (P := fun u => u.spm = { s.spm with waiting := u.spm.waiting }) (fun a b m e => ?_) rfl
  rcases m.inside_or_grant with ⟨_, i, _⟩ | ⟨_, o, _⟩
  · rw [i, e]
  · rw [e] at o
    exact absurd (k.symm.trans o) (by decide)

theorem State.requestOf_recordGrant_ne (s : State) {w x : Requester} (h : x ≠ w) :
    (s.recordGrant w).requestOf x = s.requestOf x := s.requestOf_withdraw_ne h

/-- Only a granted screen has its request gone and its record moved (R61, R93). -/
theorem DutyMove.screens (h : DutyMove asks s t) (sc : Screen) (n : s.requestOf (.screen sc) = none) :
    t.requestOf (.screen sc) = none ∧ t.scr.screens.get sc = s.scr.screens.get sc := by
  rcases h.inside_or_grant with ⟨o, _, q⟩ | ⟨_, _, r, ranked, rfl⟩
  · exact ⟨(q sc).trans n, by rw [show t.scr = s.scr from o .scr (by decide)]⟩
  have other : .screen sc ≠ r.who := by
    intro e
    rcases State.mem_ranked ranked with ⟨p, k, _⟩ | ⟨x, k, q⟩ <;> rw [k] at e <;> cases e
    rw [n] at q
    cases q
  refine ⟨(State.requestOf_congr (only_grantTo _ r.who .spm (by decide)) _).trans
    ((s.requestOf_recordGrant_ne other).trans n), ?_⟩
  revert other
  cases r.who with
  | pump p =>
    intro _
    rw [show ((s.recordGrant (.pump p)).grantTo (.pump p)).scr = s.scr from only_grantPump _ p .scr (by decide)]
  | screen x =>
    intro other
    exact State.grantScreen_screens_ne _ fun e => other (by rw [e])

/-- A screen with no request is left alone. -/
theorem DutyMoves.screens (h : DutyMoves asks s t) (sc : Screen) (n : s.requestOf (.screen sc) = none) :
    t.requestOf (.screen sc) = none ∧ t.scr.screens.get sc = s.scr.screens.get sc :=
  h.keeps (P := fun u => u.requestOf (.screen sc) = none ∧ u.scr.screens.get sc = s.scr.screens.get sc)
    (fun _ _ m ⟨r, e⟩ => ⟨(m.screens sc r).1, (m.screens sc r).2.trans e⟩) ⟨n, rfl⟩

theorem DutyMoves.blinded (h : DutyMoves asks s t) : t.scr.blinded = s.scr.blinded := by
  refine h.same (·.scr.blinded) fun a b m => ?_
  rcases m.inside_or_grant with ⟨o, _⟩ | ⟨_, _, r, _, rfl⟩
  · rw [show b.scr = a.scr from o .scr (by decide)]
  · cases r.who with
    | pump p => rw [show ((a.recordGrant (.pump p)).grantTo (.pump p)).scr = a.scr from only_grantPump _ p .scr (by decide)]
    | screen sc => exact State.grantScreen_blinded _ sc

/-! ### A pump that the moves cannot reach -/

/-- No grant can come to a pump: none is made, or the permit is in SPACING, or the pump is neither in the queue nor a member of it. -/
def OutOfReach (asks : Bool) (p : Pump) (s : State) : Prop :=
  asks = true → s.spm.permit = .spacing ∨ p ∉ s.dsq.queue ∧ s.member p = false

theorem DutyMove.queue_subset (h : DutyMove asks s t) {p : Pump} (k : p ∉ s.dsq.queue) (n : s.member p = false) :
    p ∉ t.dsq.queue := by
  cases h with
  | drop _ p on => simpa [State.dropPump_dsq] using k
  | unwait _ p off => simpa [State.unwait_queue] using k
  | uncommand _ p => simpa [State.setOverride_dsq] using k
  | queue _ q same =>
    rw [show (s.setQueue q).dsq = { s.dsq with queue := q } from only_reportIf _ _ _ .dsq (by decide)]
    rcases same with e | e
    · exact fun h => k ((e p).mp h)
    · exact fun h => Bool.false_ne_true (n.symm.trans ((e p).mp h))
  | runSet _ m c =>
    rw [show ∀ v : State, (v.reportIf c .pumps).dsq = v.dsq from fun v => only_reportIf v c _ .dsq (by decide)]
    exact k
  | ask _ q queued => simpa [State.setRun_queue] using k
  | grant _ r ranked opened => rwa [State.grantTo_dsq, State.recordGrant_dsq]

theorem DutyMove.outOfReach (h : DutyMove asks s t) {p : Pump} (k : OutOfReach asks p s) : OutOfReach asks p t := by
  intro e
  rcases k e with sp | ⟨q, m⟩
  · have := (DutyMoves.of h).spacing sp
    exact .inl (by rw [this]; exact sp)
  · exact .inr ⟨h.queue_subset q m, (h.member p).trans m⟩

/-- The pump that a grant reaches is in the queue. -/
theorem OutOfReach.not_granted {p : Pump} (k : OutOfReach true p s) {r : Request} (ranked : r ∈ s.ranked)
    (opened : s.spm.permit = .opened) : r.who ≠ .pump p := by
  intro e
  rcases k rfl with sp | ⟨q, _⟩
  · exact absurd (sp.symm.trans opened) (by decide)
  · rcases State.mem_ranked ranked with ⟨x, w, m⟩ | ⟨x, w, _⟩ <;> rw [w] at e <;> cases e
    exact q m

/-- What a grant to another requester leaves of a pump. -/
theorem State.grantTo_other (s : State) {w : Requester} {p : Pump} (h : w ≠ .pump p) :
    (s.grantTo w).runState p = s.runState p ∧ (s.grantTo w).ppr.get p = s.ppr.get p ∧
      (s.grantTo w).point (.pump p .runMismatch) = s.point (.pump p .runMismatch) := by
  cases w with
  | pump q =>
    have ne : p ≠ q := fun e => h (by rw [e])
    obtain ⟨f, e⟩ := s.grantPump_dsq q
    refine ⟨?_, s.grantPump_ppr_ne ne, points_grantPump s q _ (by simpa using ne)⟩
    simp only [State.runState, State.grantTo, e]
    rw [Quad.get_modify_ne _ _ ne]
  | screen sc =>
    exact ⟨by simp only [State.runState, State.grantTo, show (s.grantScreen sc).dsq = s.dsq from
        only_grantScreen s sc .dsq (by decide)],
      by rw [show (s.grantTo (.screen sc)).ppr = s.ppr from only_grantScreen s sc .ppr (by decide)],
      points_grantScreen (A := ∅) s sc _ (by simp)⟩

/-- The watch of a pump out of reach and its RUN_MISMATCH move only as its own run command goes off. -/
theorem DutyMove.watch (h : DutyMove asks s t) {p : Pump} (k : OutOfReach asks p s) :
    s.runCmd p = true ∧ t = s.dropPump p ∨
      (t.ppr.get p).watch = (s.ppr.get p).watch ∧ t.point (.pump p .runMismatch) = s.point (.pump p .runMismatch) := by
  have still : t.ppr = s.ppr → OnlyPoints ∅ s t → (t.ppr.get p).watch = (s.ppr.get p).watch ∧
      t.point (.pump p .runMismatch) = s.point (.pump p .runMismatch) := fun e x => ⟨by rw [e], x _ (by simp)⟩
  cases h with
  | drop _ q on =>
    by_cases e : q = p
    · subst e
      exact .inl ⟨on, rfl⟩
    · have ne : p ≠ q := fun k => e k.symm
      exact .inr ⟨by rw [s.dropPump_ppr_ne ne], points_dropPump s q _ (by simpa using ne)⟩
  | unwait _ q off' =>
    exact .inr (still (only_unwait s q .ppr (by decide)) ((points_setRun s q _).trans (.of_only (only_withdraw _ _) (by decide))))
  | uncommand _ q =>
    exact .inr (still (only_setOverride s q _ .ppr (by decide))
      ((OnlyPoints.of_only (only_modDuty s q _) (by decide)).trans (points_reportIf _ _ _)))
  | queue _ q same =>
    exact .inr (still (only_setQueue s q .ppr (by decide))
      ((OnlyPoints.of_only (only_dsq s _) (by decide)).trans (points_reportIf _ _ _)))
  | runSet _ m c =>
    exact .inr (still (only_reportIf _ c _ .ppr (by decide))
      ((OnlyPoints.of_only (only_dsq s _) (by decide)).trans (points_reportIf _ _ _)))
  | ask _ q queued => exact .inr (still (s.setRun_ppr q _) (points_setRun s q _))
  | grant _ r ranked opened =>
    obtain ⟨_, w, x⟩ := (s.recordGrant r.who).grantTo_other (k.not_granted ranked opened)
    exact .inr ⟨by rw [w]; rfl, x⟩

/-- A pump out of reach that is not commanded stays so; one that is STOPPED and not in the queue stays STOPPED. -/
theorem DutyMove.off (h : DutyMove asks s t) {p : Pump} (k : OutOfReach asks p s) (off : s.runCmd p = false) :
    t.runCmd p = false ∧ (s.runState p = .stopped → p ∉ s.dsq.queue → t.runState p = .stopped) := by
  have quiet : ∀ {u : State}, u.runState p = s.runState p →
      u.runCmd p = false ∧ (s.runState p = .stopped → p ∉ s.dsq.queue → u.runState p = .stopped) := fun e =>
    ⟨by rw [State.runCmd, e]; exact off, fun st _ => e.trans st⟩
  cases h with
  | drop _ q on =>
    have ne : p ≠ q := by
      rintro rfl
      rw [off] at on
      cases on
    exact quiet (by simp [State.runState, State.dropPump_dsq, ne])
  | unwait _ q off' =>
    by_cases ne : p = q
    · subst ne
      have st : (s.unwait p).runState p = .stopped := State.runState_setRun_self s p _
      exact ⟨by rw [State.runCmd, st]; rfl, fun _ _ => st⟩
    · exact quiet (s.runState_unwait_ne ne)
  | uncommand _ q => exact quiet (s.runState_setOverride q p _)
  | queue _ q same =>
    refine quiet ?_
    rw [State.runState, show (s.setQueue q).dsq = { s.dsq with queue := q } from only_reportIf _ _ _ .dsq (by decide)]
    rfl
  | runSet _ m c =>
    refine quiet ?_
    rw [State.runState,
      show ∀ v : State, (v.reportIf c .pumps).dsq = v.dsq from fun v => only_reportIf v c _ .dsq (by decide)]
    rfl
  | ask _ q queued =>
    by_cases ne : p = q
    · subst ne
      have st : ((s.setRun p .waiting).join (.pump p)).runState p = .waiting := State.runState_setRun_self s p _
      exact ⟨by rw [State.runCmd, st]; rfl, fun _ n => absurd queued n⟩
    · exact quiet (s.runState_setRun_ne _ ne)
  | grant _ r ranked opened =>
    exact quiet ((s.recordGrant r.who).grantTo_other (k.not_granted ranked opened)).1

/-- Along the moves a pump out of reach that is not commanded stays so, its watch and RUN_MISMATCH as they were. -/
theorem DutyMoves.off (h : DutyMoves asks s t) {p : Pump} (k : OutOfReach asks p s) (off : s.runCmd p = false) :
    t.runCmd p = false ∧ (t.ppr.get p).watch = (s.ppr.get p).watch ∧
      t.point (.pump p .runMismatch) = s.point (.pump p .runMismatch) := by
  have i := h.keeps
    (P := fun u => OutOfReach asks p u ∧ u.runCmd p = false ∧ (u.ppr.get p).watch = (s.ppr.get p).watch ∧
      u.point (.pump p .runMismatch) = s.point (.pump p .runMismatch))
    (fun a b m ⟨r, o, w, x⟩ => by
      refine ⟨m.outOfReach r, (m.off r o).1, ?_⟩
      rcases m.watch r with ⟨on, _⟩ | ⟨w', x'⟩
      · rw [o] at on
        cases on
      · exact ⟨w'.trans w, x'.trans x⟩) ⟨k, off, rfl, rfl⟩
  exact i.2

/-- A STOPPED pump that is neither in the queue nor to join it stays STOPPED. -/
theorem DutyMoves.stopped (h : DutyMoves asks s t) {p : Pump} (q : p ∉ s.dsq.queue) (n : s.member p = false)
    (st : s.runState p = .stopped) : t.runState p = .stopped := by
  have i := h.keeps (P := fun u => p ∉ u.dsq.queue ∧ u.member p = false ∧ u.runState p = .stopped)
    (fun a b m ⟨q, n, st⟩ => by
      have off : a.runCmd p = false := by simp [State.runCmd, st, RunState.commanded]
      exact ⟨m.queue_subset q n, (m.member p).trans n, (m.off (fun _ => .inr ⟨q, n⟩) off).2 st q⟩) ⟨q, n, st⟩
  exact i.2.2

/-- Outside AUTO and out of reach of a grant, a pump's watch and its RUN_MISMATCH stand whatever its run command does (R81). -/
theorem DutyMoves.outside_auto (h : DutyMoves asks s t) {p : Pump} (auto : s.inAuto p = false) (k : OutOfReach asks p s) :
    (t.ppr.get p).watch = (s.ppr.get p).watch ∧ t.point (.pump p .runMismatch) = s.point (.pump p .runMismatch) := by
  have i := h.keeps
    (P := fun u => (OutOfReach asks p u ∧ u.inAuto p = false) ∧ (u.ppr.get p).watch = (s.ppr.get p).watch ∧
      u.point (.pump p .runMismatch) = s.point (.pump p .runMismatch))
    (fun a b m ⟨⟨r, n⟩, w, x⟩ => by
      refine ⟨⟨m.outOfReach r, (State.inAuto_congr (m.only .inputs (by decide)) (m.only .cfg (by decide)) p).trans n⟩, ?_⟩
      rcases m.watch r with ⟨_, rfl⟩ | ⟨w', x'⟩
      · obtain ⟨x', w'⟩ := a.dropPump_outside_auto n (A := ∅)
        exact ⟨w'.trans w, (x' _ (by simp)).trans x⟩
      · exact ⟨w'.trans w, x'.trans x⟩) ⟨⟨k, auto⟩, rfl, rfl⟩
  exact i.2

end Sys2Proof.Machine
end

section
/-! What the Level Unit's judgements read and what they leave: the channel records and the disagreement state decide the control
level, its source and the level mode (R13, R131). -/

namespace Sys2Proof.Machine

/-- The same channel records and the same disagreement state, from which R13 and R131 read the control level and its source, with
the rotation where it was. -/
structure SameLevels (s t : State) : Prop where
  chan : ∀ ch, t.chan ch = s.chan ch
  disagreement : t.lvu.disagreement = s.lvu.disagreement
  scanNext : t.lvu.scanNext = s.lvu.scanNext

namespace SameLevels
variable {s t u : State}

theorem trans (h : SameLevels s t) (k : SameLevels t u) : SameLevels s u :=
  ⟨fun ch => (k.chan ch).trans (h.chan ch), k.disagreement.trans h.disagreement, k.scanNext.trans h.scanNext⟩

theorem of_lvu (h : t.lvu = s.lvu) : SameLevels s t := ⟨fun ch => by simp only [State.chan, h], by rw [h], by rw [h]⟩

theorem of_only {bs : List Block} (h : OnlyIn bs s t) (n : Block.lvu ∉ bs) : SameLevels s t := .of_lvu (h .lvu n)

theorem chanState (h : SameLevels s t) (ch : Channel) : t.chanState ch = s.chanState ch := by
  simp only [State.chanState, h.chan]

theorem serving (h : SameLevels s t) (ch : Channel) : t.serving ch = s.serving ch := by
  simp only [State.serving, h.chanState]

theorem level (h : SameLevels s t) (ch : Channel) : t.level ch = s.level ch := by
  simp only [State.level, h.chan]

theorem controlLevel (h : SameLevels s t) : t.controlLevel = s.controlLevel := by
  simp only [State.controlLevel, h.serving, h.level, h.disagreement]

theorem source (h : SameLevels s t) : t.source = s.source := by
  simp only [State.source, h.controlLevel, h.serving, h.disagreement]

end SameLevels

/-- HIGH_LEVEL after a judgement (R19): by the limit at a valid control level, kept while it is invalid. -/
def State.highLevelNow (s : State) : Bool :=
  match s.controlLevel with
  | some v =>
    if s.img.level.highAlarm ≤ v then true else if v + 100 < s.img.level.highAlarm then false else s.lvu.highLevel
  | none => s.lvu.highLevel

theorem State.judgeHighLevel_lvu (s : State) : s.judgeHighLevel.lvu = { s.lvu with highLevel := s.highLevelNow } := by
  unfold State.judgeHighLevel State.highLevelNow
  cases s.controlLevel with
  | none => rfl
  | some v => exact only_setCondition _ _ _ .lvu (by decide)

theorem State.judgeHighLevel_condition (s : State) :
    s.judgeHighLevel.condition .highLevel =
      if s.controlLevel.isSome then s.highLevelNow else s.condition .highLevel := by
  unfold State.judgeHighLevel State.highLevelNow
  cases s.controlLevel with
  | none => rfl
  | some v => exact State.condition_setCondition_self _ _ _

theorem levels_judgeHighLevel (s : State) : SameLevels s s.judgeHighLevel :=
  ⟨fun ch => by
    rw [State.chan, State.judgeHighLevel_lvu]
    cases ch <;> rfl, by rw [State.judgeHighLevel_lvu], by rw [State.judgeHighLevel_lvu]⟩

/-- What a judgement of the floats comes to (R18): the float check begins, or check and condition end, or all stands. -/
theorem State.judgeFloats_lvu (s : State) :
    s.judgeFloats.lvu =
      { s.lvu with floatCheck := s.judgeFloats.lvu.floatCheck, floatDisagree := s.judgeFloats.lvu.floatDisagree } := by
  unfold State.judgeFloats
  split
  · split <;> rfl
  · rw [show ∀ v : State, (v.setCondition .floatDisagree false).lvu = v.lvu from fun v => only_setCondition v _ _ .lvu (by decide)]

theorem levels_judgeFloats (s : State) : SameLevels s s.judgeFloats :=
  ⟨fun ch => by
    rw [State.chan, State.judgeFloats_lvu]
    cases ch <;> rfl, by rw [State.judgeFloats_lvu], by rw [State.judgeFloats_lvu]⟩

theorem points_judgeFloats (s : State) : OnlyPoints {.floatDisagree} s s.judgeFloats :=
  .choose _ (.when _ (.of_only (only_lvu s _) (by decide)))
    ((OnlyPoints.of_only (only_lvu s _) (by decide)).trans (points_setCondition _ _ _))

theorem points_judgeHighLevel (s : State) : OnlyPoints {.highLevel} s s.judgeHighLevel := by
  unfold State.judgeHighLevel
  split
  · exact (OnlyPoints.of_only (only_lvu s _) (by decide)).trans (points_setCondition _ _ _)
  · exact .refl _ _

/-! ### FLOAT_CHANGE -/

theorem State.floatMoved_latch (s : State) (f : FloatSwitch) (a : Bool) :
    (s.floatMoved f a).dsq.latch =
      match f, a with
      | .high, true => true
      | .lowLow, true => false
      | _, _ => s.dsq.latch := by
  have k : ∀ (v : State) x b, (v.setCondition x b).dsq = v.dsq := fun v x b => only_setCondition v x b .dsq (by decide)
  cases f <;> cases a <;> simp [State.floatMoved, k]

theorem only_floatMoved (s : State) (f : FloatSwitch) (a : Bool) : OnlyIn [.dsq, .alm] s (s.floatMoved f a) := by
  cases f with
  | lowLow => exact (only_dsq s _).next (only_setCondition _ _ _)
  | high => exact (only_dsq s _).mono (by decide)
  | highHigh => exact (only_setCondition s _ _).mono (by decide)

theorem State.floatMoved_highHigh (s : State) (f : FloatSwitch) (a : Bool) :
    (s.floatMoved f a).condition .highHighFloat = if f = .highHigh then a else s.condition .highHighFloat := by
  cases f with
  | lowLow => exact State.condition_setCondition_ne _ _ (by decide)
  | high => rfl
  | highHigh => exact State.condition_setCondition_self _ _ _

theorem State.floatMoved_lowLow (s : State) (f : FloatSwitch) (a : Bool) :
    (s.floatMoved f a).condition .lowLowFloat = if f = .lowLow then a else s.condition .lowLowFloat := by
  cases f with
  | lowLow => exact State.condition_setCondition_self _ _ _
  | high => rfl
  | highHigh => exact State.condition_setCondition_ne _ _ (by decide)

/-- Settles O6: the float moves its latch and its condition, and the judgement of the floats and the re-formation that follow touch
neither. -/
theorem floatChange : Obligations.FloatChange := by
  intro s f a run before
  have moved : s.inputs.getFloat f ≠ a := by rw [before]; cases a <;> decide
  refine ⟨_, rfl, ?_⟩
  rw [State.onChange_running _ _ _ moved run]
  generalize e : ({ s with inputs := s.inputs.setFloat f a } : State) = u
  have first : OnlyIn [.inputs] s u := e ▸ only_inputs s _
  have float := only_floatMoved u f a
  have judged := only_judgeFloats (u.floatMoved f a)
  have duty := moves_reform (u.floatMoved f a).judgeFloats
  have all : OnlyIn [.inputs, .lvu, .dsq, .spm, .ppr, .scr, .fbl, .alm, .src] s
      (u.floatMoved f a).judgeFloats.reform :=
    ((first.mono (by decide)).trans (float.mono (by decide))).trans
      ((judged.mono (by decide)).trans (duty.only.mono (by decide)))
  refine ⟨?_, ?_, ?_, ?_, fun ch => ?_, all⟩
  · have h : (u.floatMoved f a).judgeFloats.reform.inputs = u.inputs :=
      (duty.only .inputs (by decide)).trans ((judged .inputs (by decide)).trans (float .inputs (by decide)))
    rw [h, ← e]
  · have latch := u.floatMoved_latch f a
    rw [show u.dsq = s.dsq from first .dsq (by decide)] at latch
    exact (duty.calls.2.1.trans (congrArg DutySequencer.latch (judged .dsq (by decide)))).trans latch
  · rw [duty.condition (by simp), (points_judgeFloats _).condition (by simp), State.floatMoved_highHigh, ← e]
    rfl
  · rw [duty.condition (by simp), (points_judgeFloats _).condition (by simp), State.floatMoved_lowLow, ← e]
    rfl
  · have same : SameLevels s (u.floatMoved f a).judgeFloats.reform :=
      (((SameLevels.of_only first (by decide)).trans (.of_only float (by decide))).trans (levels_judgeFloats _)).trans
        (.of_only duty.only (by decide))
    exact same.chan ch

end Sys2Proof.Machine
end

section
/-! The moves of one overflow point's episode (R110 to R119), and what a moved control level brings about (R13, R19, R20, R131). -/

namespace Sys2Proof.Machine

/-! ### Moves of a point -/

/-- One move of a point's episode: its record, a credit, a record of the log, its condition, or the prediction made again. -/
inductive PointMove (pt : Point) : State → State → Prop
  | record (s : State) (f : PointRec → PointRec) : PointMove pt s (s.modPoint pt f)
  | credit (s : State) (f : Accumulators → Accumulators) : PointMove pt s (s.credit f)
  | append (s : State) (b : RecordBody) : PointMove pt s (s.append b)
  | told (s : State) (c : Bool) : PointMove pt s (s.setCondition (.overflow pt) c)
  | predict (s : State) : PointMove pt s s.predict

/-- A run of moves of a point. -/
def PointMoves (pt : Point) : State → State → Prop := Relation.ReflTransGen (PointMove pt)

namespace PointMoves
variable {pt : Point} {s t u : State}

theorem refl (s : State) : PointMoves pt s s := Relation.ReflTransGen.refl

theorem of (h : PointMove pt s t) : PointMoves pt s t := .single h

theorem trans (h : PointMoves pt s t) (k : PointMoves pt t u) : PointMoves pt s u := Relation.ReflTransGen.trans h k

theorem next (h : PointMoves pt s t) (k : PointMove pt t u) : PointMoves pt s u := .tail h k

theorem choose (c : Prop) [Decidable c] (h : PointMoves pt s t) (k : PointMoves pt s u) :
    PointMoves pt s (if c then t else u) := by
  split
  · exact h
  · exact k

theorem when (c : Prop) [Decidable c] (h : PointMoves pt s t) : PointMoves pt s (if c then t else s) :=
  .choose c h (.refl s)

/-- A figure that no move changes is the same after a run of moves. -/
theorem same {α : Type} (f : State → α) (h : PointMoves pt s t) (step : ∀ a b, PointMove pt a b → f b = f a) : f t = f s := by
  induction h with
  | refl => rfl
  | tail _ m ih => exact (step _ _ m).trans ih

theorem only (h : PointMoves pt s t) : OnlyIn episodeParts s t := by
  induction h with
  | refl => exact .refl _ _
  | tail _ m ih =>
    refine ih.trans ?_
    cases m with
    | record f => exact (only_modPoint _ pt f).mono (by decide)
    | credit f => exact (only_credit _ f).mono (by decide)
    | append b => exact (only_append _ b).mono (by decide)
    | told c => exact (only_setCondition _ _ c).mono (by decide)
    | predict => exact (only_predict _).mono (by decide)

end PointMoves

/-! ### The prediction -/

/-- A judgement of PREDICTED_OVERFLOW writes the prediction alone. -/
theorem State.judgePredicted_fbl (s : State) : s.judgePredicted.fbl = { s.fbl with predicted := s.predictedNow } :=
  only_setCondition _ _ _ .fbl (by decide)

theorem State.judgePredicted_condition (s : State) : s.judgePredicted.condition .predictedOverflow = s.predictedNow :=
  State.condition_setCondition_self _ _ _

/-- The prediction made again writes the time to overflow and the prediction. -/
theorem State.predict_fbl (s : State) :
    s.predict.fbl = { s.fbl with overflowIn := s.timeToOverflow, predicted := s.predict.fbl.predicted } := by
  simp only [State.predict, State.judgePredicted_fbl, State.modFbl_fbl]

theorem points_judgePredicted (s : State) : OnlyPoints {.predictedOverflow} s s.judgePredicted :=
  (OnlyPoints.of_only (only_modFbl s _) (by decide)).trans (points_setCondition _ _ _)

theorem points_predict (s : State) : OnlyPoints {.predictedOverflow} s s.predict :=
  (OnlyPoints.of_only (only_modFbl s _) (by decide)).trans (points_judgePredicted _)

/-! ### What the moves of a point keep -/

namespace PointMoves
variable {pt : Point} {s t : State}

theorem points (h : PointMoves pt s t) : OnlyPoints {.overflow pt, .predictedOverflow} s t := by
  induction h with
  | refl => exact .refl _ _
  | tail _ m ih =>
    refine ih.trans ?_
    cases m with
    | record f => exact .of_only (only_modPoint _ pt f) (by decide)
    | credit f => exact .of_only (only_credit _ f) (by decide)
    | append b => exact points_append _ b
    | told c => exact (points_setCondition _ _ c).mono (by simp)
    | predict => exact (points_predict _).mono (by simp)

/-- Of Flow Balance they touch the time to overflow and the prediction alone. -/
theorem fbl (h : PointMoves pt s t) :
    t.fbl = { s.fbl with overflowIn := t.fbl.overflowIn, predicted := t.fbl.predicted } := by
  induction h with
  | refl => rfl
  | @tail a b _ m ih =>
    have e : b.fbl = { a.fbl with overflowIn := b.fbl.overflowIn, predicted := b.fbl.predicted } := by
      cases m with
      | record f => rfl
      | credit f => rfl
      | append b => rfl
      | told c =>
        rw [show (a.setCondition (.overflow pt) c).fbl = a.fbl from only_setCondition _ _ _ .fbl (by decide)]
      | predict => rw [State.predict_fbl]
    rw [e, ih]

/-- The other point's record stands. -/
theorem others (h : PointMoves pt s t) {x : Point} (n : x ≠ pt) : t.ovm.points.get x = s.ovm.points.get x := by
  refine h.same (·.ovm.points.get x) fun a b m => ?_
  cases m with
  | record f => simp [n]
  | credit f => rfl
  | append b => rfl
  | told c => rw [show (a.setCondition (.overflow pt) c).ovm = a.ovm from only_setCondition _ _ _ .ovm (by decide)]
  | predict => rw [show a.predict.ovm = a.ovm from only_predict a .ovm (by decide)]

end PointMoves

/-! ### The operations of a point are runs of its moves -/

section
variable (s : State) (pt : Point)

theorem moves_followOpen (b : Bool) : PointMoves pt s (s.followOpen b) := by
  unfold State.followOpen
  split
  · exact .refl s
  · exact .of (.predict s)

theorem moves_closeEpisode (w : Stamp) (d : Nat) (why : EndReason) : PointMoves pt s (s.closeEpisode pt w d why) := by
  unfold State.closeEpisode
  split
  · exact (((PointMoves.of (.append s _)).next (.record _ _)).next (.told _ false)).trans (moves_followOpen _ pt _)
  · exact .refl s

theorem moves_endNormally : PointMoves pt s (s.endNormally pt) := by
  unfold State.endNormally
  repeat' (first | exact moves_closeEpisode s pt _ _ _ | exact .refl s | split)

theorem moves_endLost : PointMoves pt s (s.endLost pt) := by
  unfold State.endLost
  repeat' (first | exact moves_closeEpisode s pt _ _ _ | exact .refl s | split)

theorem moves_creditSpill (n : Nat) : PointMoves pt s (s.creditSpill pt n) :=
  (PointMoves.of (.credit s _)).next (.record _ _)

theorem moves_openEpisode : PointMoves pt s (s.openEpisode pt) := by
  unfold State.openEpisode
  split
  · split
    · exact (((((PointMoves.of (.record s _)).trans (moves_creditSpill _ pt _)).next (.credit _ _)).next
        (.append _ _)).next (.told _ true)).trans (moves_followOpen _ pt _)
    · exact .refl s
  · exact .refl s

theorem moves_candidate (h : Int) : PointMoves pt s (s.candidate pt h) := by
  unfold State.candidate
  dsimp only
  split
  · exact (PointMoves.of (.record s _)).trans (moves_openEpisode _ pt)
  · exact .of (.record s _)

theorem moves_startEnd : PointMoves pt s (s.startEnd pt) := by
  unfold State.startEnd
  dsimp only
  split
  · exact (PointMoves.of (.record s _)).trans (moves_endNormally _ pt)
  · exact .of (.record s _)

theorem moves_resumeEnd (e : Nat) : PointMoves pt s (s.resumeEnd pt e) := by
  unfold State.resumeEnd
  dsimp only
  split
  · exact (PointMoves.of (.record s _)).trans (moves_endNormally _ pt)
  · exact .of (.record s _)

theorem moves_loseLevel : PointMoves pt s (s.loseLevel pt) := by
  unfold State.loseLevel
  dsimp only
  split
  · exact (PointMoves.of (.record s _)).trans (moves_endLost _ pt)
  · exact .of (.record s _)

theorem moves_judgePoint : PointMoves pt s (s.judgePoint pt) := by
  unfold State.judgePoint
  split
  · exact .refl s
  split
  · split
    · exact .refl s
    · exact .of (.record s _)
    all_goals exact .when _ (moves_loseLevel s pt)
  rename_i h _
  refine (PointMoves.of (.record s fun r => r.see h)).trans ?_
  split
  · exact .when _ (moves_candidate _ pt _)
  · exact .when _ (.of (.record _ _))
  · exact .when _ (moves_startEnd _ pt)
  refine .choose _ (.of (.record _ _)) (.choose _ ?_ ?_)
  · split
    · exact .refl _
    all_goals exact .of (.record _ _)
  · split
    · exact .refl _
    · exact moves_resumeEnd _ pt _
    · exact moves_startEnd _ pt

end

/-! ### A control level that may have moved -/

/-- The conditions on the control level judged (R15, R18, R19). -/
def State.levelJudged (s : State) : State :=
  (s.setCondition .levelDisagree s.lvu.disagreement.present).judgeHighLevel.judgeFloats

/-- What a moved control level is told to (R20, R33, R47, R107). -/
def State.levelTold (s : State) : State := s.offerPeak.judgeCalls.judgeStage.judgePoint .n1

theorem State.settleLevel_eq (s old : State) :
    s.settleLevel old =
      let moved : Bool := s.levelJudged.controlLevel != old.controlLevel
      let u := (if moved then s.levelJudged.levelTold else s.levelJudged).followSource old.source
      (if moved then u.predict else u).reform := rfl

theorem only_levelJudged (s : State) : OnlyIn [.lvu, .alm] s s.levelJudged :=
  (((only_setCondition s _ _).mono (by decide)).trans (only_judgeHighLevel _)).trans (only_judgeFloats _)

theorem levels_levelJudged (s : State) : SameLevels s s.levelJudged :=
  ((SameLevels.of_only (only_setCondition s _ _) (by decide)).trans (levels_judgeHighLevel _)).trans (levels_judgeFloats _)

theorem State.highLevelNow_congr {s t : State} (h : t.lvu = s.lvu) (c : t.cfg = s.cfg) : t.highLevelNow = s.highLevelNow := by
  cases s; cases t; cases h; cases c; rfl

theorem State.levelJudged_highLevel (s : State) : s.levelJudged.lvu.highLevel = s.highLevelNow := by
  unfold State.levelJudged
  rw [State.judgeFloats_lvu, State.judgeHighLevel_lvu]
  exact State.highLevelNow_congr (only_setCondition s _ _ .lvu (by decide)) (only_setCondition s _ _ .cfg (by decide))

theorem State.levelJudged_highLevel_condition (s : State) :
    s.levelJudged.condition .highLevel = if s.controlLevel.isSome then s.highLevelNow else s.condition .highLevel := by
  have lvu : (s.setCondition .levelDisagree s.lvu.disagreement.present).lvu = s.lvu := only_setCondition s _ _ .lvu (by decide)
  unfold State.levelJudged
  rw [(points_judgeFloats _).condition (by simp), State.judgeHighLevel_condition,
    State.highLevelNow_congr lvu (only_setCondition s _ _ .cfg (by decide)), (SameLevels.of_lvu lvu).controlLevel,
    State.condition_setCondition_ne _ _ (by decide)]

theorem State.levelJudged_disagree_condition (s : State) :
    s.levelJudged.condition .levelDisagree = s.lvu.disagreement.present := by
  unfold State.levelJudged
  rw [(points_judgeFloats _).condition (by simp), (points_judgeHighLevel _).condition (by simp),
    State.condition_setCondition_self]

/-- What is told of a moved level changes neither the Level Unit nor a condition but those of point 1 and of the prediction, and marks
nothing in Flow Balance. -/
structure LevelNews (s t : State) : Prop where
  only : OnlyIn [.dsq, .ovm, .fbl, .alm, .src] s t
  points : OnlyPoints {.overflow .n1, .predictedOverflow} s t
  rescaled : t.fbl.rescaled = s.fbl.rescaled
  discontinuity : t.fbl.discontinuity = s.fbl.discontinuity

theorem news_levelTold (s : State) : LevelNews s s.levelTold := by
  have o : OnlyIn [.dsq, .src] s s.offerPeak.judgeCalls.judgeStage :=
    (((only_offerPeak s).mono (by decide)).trans ((only_judgeCalls _).mono (by decide))).trans
      ((only_judgeStage _).mono (by decide))
  have m := moves_judgePoint s.offerPeak.judgeCalls.judgeStage .n1
  have f : s.offerPeak.judgeCalls.judgeStage.fbl = s.fbl := o .fbl (by decide)
  exact ⟨(o.mono (by decide)).trans (m.only.mono (by decide)), (OnlyPoints.of_only o (by decide)).trans m.points,
    by rw [State.levelTold, m.fbl, f], by rw [State.levelTold, m.fbl, f]⟩

theorem State.followSource_fbl (s : State) (before : Source) :
    (s.followSource before).fbl =
      { s.fbl with discontinuity := s.fbl.discontinuity || decide (s.source ≠ before) } := by
  unfold State.followSource
  split
  · rename_i h
    simp [h]
  · rename_i h
    simp [h]

/-- The whole of what a well event leaves once it is settled (R13, R15, R19, R131). -/
structure LevelSettled (s old t : State) : Prop where
  levels : SameLevels s t
  highLevel : t.lvu.highLevel = s.highLevelNow
  highCondition : t.condition .highLevel = if s.controlLevel.isSome then s.highLevelNow else s.condition .highLevel
  disagree : t.condition .levelDisagree = s.lvu.disagreement.present
  rescaled : t.fbl.rescaled = s.fbl.rescaled
  discontinuity : t.fbl.discontinuity = (s.fbl.discontinuity || decide (s.source ≠ old.source))

/-- The last steps of a settled level: the prediction made again where the level moved, and the re-formation. -/
theorem State.settleLevel_stages (s old : State) :
    ∃ a b, (a = s.levelJudged ∨ a = s.levelJudged.levelTold) ∧
      (b = a.followSource old.source ∨ b = (a.followSource old.source).predict) ∧ s.settleLevel old = b.reform := by
  rw [State.settleLevel_eq]
  dsimp only
  split
  · exact ⟨_, _, .inr rfl, .inr rfl, rfl⟩
  · exact ⟨_, _, .inl rfl, .inl rfl, rfl⟩

theorem settled_settleLevel (s old : State) : LevelSettled s old (s.settleLevel old) := by
  obtain ⟨a, b, ha, hb, e⟩ := s.settleLevel_stages old
  rw [e]
  have judged := only_levelJudged s
  have news : LevelNews s.levelJudged a := by
    rcases ha with rfl | rfl
    · exact ⟨.refl _ _, .refl _ _, rfl, rfl⟩
    · exact news_levelTold _
  have sourced := only_followSource a old.source
  have same : SameLevels s a := (levels_levelJudged s).trans (.of_only news.only (by decide))
  have last : OnlyIn [.fbl, .alm] a b ∧ OnlyPoints {.predictedOverflow} a b ∧
      b.fbl.rescaled = (a.followSource old.source).fbl.rescaled ∧
      b.fbl.discontinuity = (a.followSource old.source).fbl.discontinuity := by
    rcases hb with rfl | rfl
    · exact ⟨sourced.mono (by decide), .of_only sourced (by decide), rfl, rfl⟩
    · exact ⟨(sourced.mono (by decide)).trans (only_predict _), (OnlyPoints.of_only sourced (by decide)).trans (points_predict _),
        by rw [State.predict_fbl], by rw [State.predict_fbl]⟩
  obtain ⟨lastOnly, lastPoints, lastRescaled, lastMark⟩ := last
  have duty := moves_reform b
  have lvu : b.reform.lvu = s.levelJudged.lvu :=
    (duty.only .lvu (by decide)).trans ((lastOnly .lvu (by decide)).trans (news.only .lvu (by decide)))
  have fbl : s.levelJudged.fbl = s.fbl := judged .fbl (by decide)
  have told : OnlyPoints (mismatchPoints ∪ {.overflow .n1, .predictedOverflow}) s.levelJudged b.reform :=
    ((news.points.trans (lastPoints.mono (by simp))).mono Set.subset_union_right).trans
      (duty.points.mono Set.subset_union_left)
  have high : AlarmPoint.highLevel ∉ mismatchPoints ∪ {.overflow .n1, .predictedOverflow} := by simp [mismatchPoints]
  have apart : AlarmPoint.levelDisagree ∉ mismatchPoints ∪ {.overflow .n1, .predictedOverflow} := by simp [mismatchPoints]
  refine ⟨(levels_levelJudged s).trans (.of_lvu lvu), by rw [lvu, s.levelJudged_highLevel], ?_, ?_, ?_, ?_⟩
  · rw [told.condition high, s.levelJudged_highLevel_condition]
  · rw [told.condition apart, s.levelJudged_disagree_condition]
  · rw [duty.fbl, lastRescaled, State.followSource_fbl, news.rescaled, fbl]
  · rw [duty.fbl, lastMark, State.followSource_fbl, news.discontinuity, fbl, same.source]

/-! ### The three timers of the Level Unit -/

theorem State.serving_of_level {s : State} {ch : Channel} {v : Nat} (h : s.level ch = some v) : s.serving ch = true := by
  unfold State.level ChannelRec.value at h
  unfold State.serving State.chanState
  cases k : s.chan ch with
  | none => simp [k] at h
  | some r => cases e : r.state <;> simp_all

/-- The control level with both well channels in service (R13). -/
theorem State.controlLevel_of_both {s : State} {a b : Nat} (ha : s.level .wellPri = some a) (hb : s.level .wellSec = some b) :
    s.controlLevel = some (if s.lvu.disagreement.present then max a b else a) := by
  simp only [State.controlLevel, State.serving_of_level ha, State.serving_of_level hb, ha, hb]
  split <;> rfl

/-- An ended disagreement timer leaves the state it moves to, the channels as they were. -/
theorem State.endDisagreement_levels (s : State) :
    (∀ ch, s.endDisagreement.chan ch = s.chan ch) ∧ s.endDisagreement.lvu.disagreement = s.lvu.disagreement.expired ∧
      s.endDisagreement.condition .levelDisagree = s.lvu.disagreement.expired.present := by
  have h := settled_settleLevel { s with lvu := { s.lvu with disagreement := s.lvu.disagreement.expired } } s
  exact ⟨fun ch => (h.levels.chan ch).trans (by cases ch <;> rfl), h.levels.disagreement, h.disagree⟩

theorem only_endDisagreement (s : State) : OnlyIn levelParts s s.endDisagreement :=
  ((only_lvu s _).mono (by decide)).trans (only_settleLevel _ _)

/-- DISAGREE_TIMER_EXPIRY with both well channels in service (R13, R15). -/
theorem disagreeTimerExpiry_gives (s : State) (a b t0 : Nat) (run : s.isHeld = false) (ha : s.level .wellPri = some a)
    (hb : s.level .wellSec = some b) (ht : s.lvu.disagreement.timer = some t0) :
    Gives .disagreeTimerExpiry s fun t =>
      t.lvu.disagreement = s.lvu.disagreement.expired ∧
      t.controlLevel = some (if s.lvu.disagreement.expired.present then max a b else a) ∧
      t.condition .levelDisagree = s.lvu.disagreement.expired.present ∧
      OnlyIn [.uptime, .lvu, .dsq, .spm, .ppr, .scr, .ovm, .fbl, .alm, .src] s t := by
  refine ⟨_, rfl, ?_⟩
  rw [ht, State.onExpiry_some _ _ _ _ run]
  generalize e : s.reach (deadline t0 s.img.level.disagreeS) = u
  have reached : OnlyIn [.uptime, .src] s u := e ▸ only_reach s _
  have lvu : u.lvu = s.lvu := reached .lvu (by decide)
  obtain ⟨chan, moved, told⟩ := u.endDisagreement_levels
  rw [lvu] at moved told
  have level : ∀ ch, u.endDisagreement.level ch = s.level ch := fun ch => by
    rw [State.level, chan, State.chan, lvu]
    rfl
  refine ⟨moved, ?_, told, (reached.mono (by decide)).trans ((only_endDisagreement u).mono (by decide))⟩
  rw [State.controlLevel_of_both ((level _).trans ha) ((level _).trans hb), moved]

/-- Settles O5: the check timer and the float check are their own effects; the disagreement timer is the settled level. -/
theorem levelTimers : Obligations.LevelTimers := by
  intro s ch r t0 a b run
  refine ⟨fun hr ht => ⟨_, rfl, ?_⟩, fun ht => ⟨_, rfl, ?_⟩, fun ha hb hd => ?_, fun ha hb hd => ?_⟩
  · rw [hr]
    dsimp only
    rw [ht, State.onExpiry_some _ _ _ _ run]
    exact ⟨State.chan_setChan_self _ _ _, fun other ne => State.chan_setChan_ne _ _ ne, only_setChan _ _ _⟩
  · rw [ht, State.onExpiry_some _ _ _ _ run]
    exact ⟨only_setCondition _ _ _ .lvu (by decide), State.condition_setCondition_self _ _ _,
      (only_lvu _ _).next (only_setCondition _ _ _)⟩
  · simpa [hd, Disagreement.expired, Disagreement.present] using
      disagreeTimerExpiry_gives s a b t0 run ha hb (by rw [hd]; rfl)
  · simpa [hd, Disagreement.expired, Disagreement.present] using
      disagreeTimerExpiry_gives s a b t0 run ha hb (by rw [hd]; rfl)

end Sys2Proof.Machine
end

section
/-! SAMPLE: what a moved channel record leaves of the channels, of HIGH_LEVEL and of the marks of Flow Balance (R5 to R10, R19,
R131). -/

namespace Sys2Proof.Machine

/-! ### The readings of the well -/

/-- The readings from which R13 and R131 take the control level and its source, where the records themselves may differ. -/
structure SameReadings (s t : State) : Prop where
  serving : ∀ ch, (Channel.well? ch).isSome → t.serving ch = s.serving ch
  level : ∀ ch, (Channel.well? ch).isSome → t.level ch = s.level ch
  disagreement : t.lvu.disagreement = s.lvu.disagreement

namespace SameReadings
variable {s t : State}

theorem controlLevel (h : SameReadings s t) : t.controlLevel = s.controlLevel := by
  simp only [State.controlLevel, h.serving .wellPri rfl, h.serving .wellSec rfl, h.level .wellPri rfl,
    h.level .wellSec rfl, h.disagreement]

theorem source (h : SameReadings s t) : t.source = s.source := by
  simp only [State.source, h.controlLevel, h.serving .wellPri rfl, h.disagreement]

end SameReadings

/-- A written channel record that shows the same state and value, or is no well channel's, moves no reading of the well. -/
theorem readings_setChan (s : State) (ch : Channel) (r : ChannelRec)
    (h : (Channel.well? ch).isSome → (s.setChan ch r).chanState ch = s.chanState ch ∧ (s.setChan ch r).level ch = s.level ch) :
    SameReadings s (s.setChan ch r) := by
  have k : ∀ x, (Channel.well? x).isSome →
      (s.setChan ch r).chanState x = s.chanState x ∧ (s.setChan ch r).level x = s.level x := by
    intro x wx
    by_cases e : x = ch
    · subst e
      exact h wx
    · have c : (s.setChan ch r).chan x = s.chan x := State.chan_setChan_ne s r e
      exact ⟨by simp only [State.chanState, c], by simp only [State.level, c]⟩
  exact ⟨fun x wx => by simp only [State.serving, (k x wx).1], fun x wx => (k x wx).2, by cases ch <;> rfl⟩

/-! ### A well channel's record has moved -/

theorem only_levelModeJudged (s old : State) : OnlyIn [.lvu, .alm, .src] s (s.judgeDisagreement.judgeLevelMode old) :=
  ((only_judgeDisagreement s).mono (by decide)).trans (only_judgeLevelMode _ _)

theorem State.judgeLevelMode_lvu (s old : State) :
    (s.judgeLevelMode old).lvu = { s.lvu with floatBackup := (s.judgeLevelMode old).lvu.floatBackup } := by
  have r : ∀ c, (s.reportIf c .levels).lvu = s.lvu := fun c => only_reportIf s c _ .lvu (by decide)
  have k : ∀ (v : State) x b, (v.setCondition x b).lvu = v.lvu := fun v x b => only_setCondition v x b .lvu (by decide)
  have a : ∀ (v : State) b, (v.append b).lvu = v.lvu := fun v b => only_append v b .lvu (by decide)
  unfold State.judgeLevelMode
  dsimp only
  split
  · rw [r]
  · simp only [a, k, r]

theorem points_judgeLevelMode (s old : State) : OnlyPoints {.floatBackup} s (s.judgeLevelMode old) := by
  unfold State.judgeLevelMode
  dsimp only
  split
  · exact points_reportIf s _ _
  · exact (((points_reportIf s _ _).trans (.of_only (only_lvu _ _) (by decide))).trans (points_setCondition _ _ _)).trans
      (points_append _ _)

/-- What a moved channel leaves, seen from the state before the event. -/
structure ChannelSettled (old u w : State) : Prop where
  chan : ∀ ch, w.chan ch = u.chan ch
  scanNext : w.lvu.scanNext = u.lvu.scanNext
  high : ∀ v, w.controlLevel = some v → old.controlLevel ≠ some v →
    w.lvu.highLevel =
        (if old.img.level.highAlarm ≤ v then true
        else if v + 100 < old.img.level.highAlarm then false else old.lvu.highLevel) ∧
      w.condition .highLevel = w.lvu.highLevel
  kept : w.controlLevel = none → w.lvu.highLevel = old.lvu.highLevel ∧ w.condition .highLevel = old.condition .highLevel
  rescaled : w.fbl.rescaled = old.fbl.rescaled
  discontinuity : w.fbl.discontinuity = (old.fbl.discontinuity || decide (w.source ≠ old.source))

/-- An event that moves no reading of the well settles nothing of it. -/
theorem ChannelSettled.of_readings {old u w : State} (e : w.lvu = u.lvu) (h : SameReadings old u)
    (highLevel : u.lvu.highLevel = old.lvu.highLevel) (told : w.condition .highLevel = old.condition .highLevel)
    (rescaled : w.fbl.rescaled = old.fbl.rescaled) (mark : w.fbl.discontinuity = old.fbl.discontinuity) :
    ChannelSettled old u w where
  chan ch := by simp only [State.chan, e]
  scanNext := by rw [e]
  high v k n := absurd ((h.controlLevel.symm.trans ((SameLevels.of_lvu e).controlLevel.symm)).trans k) n
  kept _ := ⟨by rw [e, highLevel], told⟩
  rescaled := rescaled
  discontinuity := by simp [mark, (SameLevels.of_lvu e).source, h.source]

/-- What is told of a channel before its readers act: LEVELS and its fault condition (R12). -/
def State.channelTold (s old : State) (ch : Channel) : State :=
  let st := s.chanState ch
  let s := s.reportIf (st != old.chanState ch) .levels
  match Channel.faultPoint ch with
  | some a => if st.isSome then s.setCondition a ((st.map ChannelState.isFault).getD false) else s.clearPoint a
  | none => s

theorem only_channelTold (s old : State) (ch : Channel) : OnlyIn [.alm] s (s.channelTold old ch) := by
  have r : ∀ c, OnlyIn [.alm] s (s.reportIf c .levels) := fun c => only_reportIf s c _
  unfold State.channelTold
  dsimp only
  split
  · exact .choose _ ((r _).trans (only_setCondition _ _ _)) ((r _).trans (only_clearPoint _ _))
  · exact r _

theorem State.channelTold_highLevel (s old : State) (ch : Channel) :
    (s.channelTold old ch).condition .highLevel = s.condition .highLevel := by
  have n : ∀ a, Channel.faultPoint ch = some a → AlarmPoint.highLevel ≠ a := by
    intro a h e
    subst e
    cases ch <;> cases h
  have r : ∀ c A, OnlyPoints A s (s.reportIf c .levels) := fun c A => points_reportIf s c _
  unfold State.channelTold
  dsimp only
  split
  · rename_i a e
    have k : OnlyPoints {a} s _ := .choose ((s.chanState ch).isSome = true)
      ((r (s.chanState ch != old.chanState ch) _).trans (points_setCondition _ a (((s.chanState ch).map ChannelState.isFault).getD false)))
      ((r (s.chanState ch != old.chanState ch) _).trans (points_clearPoint _ a))
    exact k.condition (n a e)
  · exact (r _ ∅).condition (by simp)

/-- The part of a channel's readers in what follows (R12, R13, R20, R70, R87, R107). -/
def State.readersAct (s old : State) (ch : Channel) (levelMoved : Bool) : State :=
  match ch with
  | .wellPri | .wellSec => s.wellMoved old
  | .inlet => (if levelMoved then s.judgePoint .n2 else s).diffMoved old.diffHigh
  | .screenOut => s.diffMoved old.diffHigh
  | .cur p => s.judgeFaults p

theorem State.channelMoved_eq (s old : State) (ch : Channel) :
    s.channelMoved old ch =
      if s.chanState ch = old.chanState ch ∧ s.level ch = old.level ch then s
      else (s.channelTold old ch).readersAct old ch ((s.channelTold old ch).level ch != old.level ch) := by
  cases ch <;> rfl

theorem settled_wellMoved (old u v : State) (o : OnlyIn [.alm] u v) (uo : OnlyIn [.lvu] old u)
    (high : u.lvu.highLevel = old.lvu.highLevel) (told : v.condition .highLevel = old.condition .highLevel) :
    ChannelSettled old u (v.wellMoved old) := by
  generalize e : v.judgeDisagreement.judgeLevelMode old = y
  have oy : OnlyIn [.lvu, .alm, .src] v y := e ▸ only_levelModeJudged v old
  have lvu : ∃ d b, y.lvu = { u.lvu with disagreement := d, floatBackup := b } := by
    refine ⟨v.judgeDisagreement.lvu.disagreement, y.lvu.floatBackup, ?_⟩
    rw [← e, State.judgeLevelMode_lvu]
    have vu : v.lvu = u.lvu := o .lvu (by decide)
    simp only [State.judgeDisagreement, vu]
  obtain ⟨d, b, lvu⟩ := lvu
  have img : y.img = old.img := by
    have c : y.cfg = old.cfg := (oy .cfg (by decide)).trans ((o .cfg (by decide)).trans (uo .cfg (by decide)))
    rw [State.img, c]
    rfl
  have fbl : y.fbl = old.fbl := (oy .fbl (by decide)).trans ((o .fbl (by decide)).trans (uo .fbl (by decide)))
  have cond : y.condition .highLevel = old.condition .highLevel := by
    rw [← e, (points_judgeLevelMode _ _).condition (by simp), ← told]
    rfl
  have hl : y.lvu.highLevel = old.lvu.highLevel := by rw [lvu, ← high]
  have s := settled_settleLevel y old
  rw [State.wellMoved, e]
  refine ⟨fun ch => ?_, ?_, fun w k _ => ?_, fun k => ?_, by rw [s.rescaled, fbl], ?_⟩
  · rw [s.levels.chan, State.chan, lvu]
    cases ch <;> rfl
  · rw [s.levels.scanNext, lvu]
  · rw [s.levels.controlLevel] at k
    rw [s.highLevel, s.highCondition, State.highLevelNow, k, img, hl]
    exact ⟨rfl, rfl⟩
  · rw [s.levels.controlLevel] at k
    rw [s.highLevel, s.highCondition, State.highLevelNow, k, hl, cond]
    exact ⟨rfl, rfl⟩
  · rw [s.discontinuity, fbl, s.levels.source]

/-! ### The differential (R90, R101) -/

theorem points_setBlinded (s : State) (b : Blinded) : OnlyPoints {.screenBlinded} s (s.setBlinded b) :=
  ((OnlyPoints.of_only (only_scr s _) (by decide)).trans (points_reportIf _ _ _)).trans (points_setCondition _ _ _)

theorem points_judgeBlinded (s : State) : OnlyPoints {.screenBlinded} s s.judgeBlinded := by
  unfold State.judgeBlinded
  split
  · split
    · exact points_setBlinded s _
    all_goals exact .refl _ s
  · dsimp only
    split
    · exact .when _ (points_setBlinded s _)
    · refine .choose _ (.choose _ (points_setBlinded s _) ?_) (points_setBlinded s _)
      split
      · exact .refl _ s
      · exact points_setBlinded s _
    · exact .when _ (points_setBlinded s _)

theorem points_askScreen {A : Set AlarmPoint} (s : State) (sc : Screen) : OnlyPoints A s (s.askScreen sc) := by
  unfold State.askScreen
  dsimp only
  split
  · exact ((points_setRake s sc _).trans (.of_only (only_recordGrant _ _) (by decide))).trans (points_grantScreen _ _)
  · exact (points_setRake s sc _).trans (.of_only (only_join _ _) (by decide))

theorem points_failScreen (s : State) (sc : Screen) (c : RakeCause) :
    OnlyPoints {.rakeFailed sc} s (s.failScreen sc c) :=
  (((OnlyPoints.of_only (only_modScreen s sc _) (by decide)).trans (points_setRake _ _ _)).trans
    (.of_only (only_withdraw _ _) (by decide))).trans (points_setCondition _ _ _)

/-- The points of RAKE_FAILED. -/
def failedPoints : Set AlarmPoint := Set.range AlarmPoint.rakeFailed

theorem points_fireUpTo (n : Nat) (s : State) : OnlyPoints failedPoints s (s.fireUpTo n) := by
  induction n generalizing s with
  | zero => exact .refl _ s
  | succ n ih =>
    unfold State.fireUpTo
    refine .when _ ?_
    split
    · rename_i sc _
      exact .choose _ (((points_failScreen s sc _).mono (by rintro a rfl; exact ⟨sc, rfl⟩)).trans (ih _)) (points_askScreen s sc)
    · exact .refl _ s

theorem points_fire (s : State) : OnlyPoints failedPoints s s.fire := points_fireUpTo 2 s

theorem points_diffMoved (s : State) (b : Bool) :
    OnlyPoints (({.screenBlinded} ∪ mismatchPoints) ∪ failedPoints) s (s.diffMoved b) := by
  unfold State.diffMoved
  exact ((points_judgeBlinded s).next (moves_reform _).points).next (.when _ (points_fire _))

/-- Of Flow Balance a moved differential touches the silence timer alone. -/
theorem State.diffMoved_fbl (s : State) (b : Bool) :
    (s.diffMoved b).fbl = { s.fbl with silence := (s.diffMoved b).fbl.silence } := by
  have fired : (s.diffMoved b).fbl = s.judgeBlinded.reform.fbl :=
    OnlyIn.when _ (only_fire s.judgeBlinded.reform) .fbl (by decide)
  have k := (moves_reform s.judgeBlinded).fbl
  rw [show s.judgeBlinded.fbl = s.fbl from only_judgeBlinded s .fbl (by decide)] at k
  rw [fired]
  exact k

/-! ### SAMPLE -/

theorem settled_channelMoved (old : State) (ch : Channel) (r : ChannelRec) :
    ChannelSettled old (old.setChan ch r) ((old.setChan ch r).channelMoved old ch) := by
  generalize e : old.setChan ch r = u
  have uo : OnlyIn [.lvu] old u := e ▸ only_setChan old ch r
  have high : u.lvu.highLevel = old.lvu.highLevel := by
    subst e
    cases ch <;> rfl
  have fbl : u.fbl = old.fbl := uo .fbl (by decide)
  have cond : u.condition .highLevel = old.condition .highLevel := by
    subst e
    rfl
  rw [State.channelMoved_eq]
  split
  · rename_i same
    refine .of_readings rfl ?_ high cond (by rw [fbl]) (by rw [fbl])
    subst e
    exact readings_setChan old ch r fun _ => same
  generalize ev : u.channelTold old ch = v
  have o : OnlyIn [.alm] u v := ev ▸ only_channelTold u old ch
  have told : v.condition .highLevel = old.condition .highLevel := by
    rw [← ev, State.channelTold_highLevel, cond]
  have vl : v.lvu = u.lvu := o .lvu (by decide)
  have vf : v.fbl = old.fbl := (o .fbl (by decide)).trans fbl
  -- A channel outside the well: its readers leave the Level Unit and the marks alone.
  have aside : Channel.well? ch = none → ∀ {w : State} {A : Set AlarmPoint}, w.lvu = v.lvu → OnlyPoints A v w →
      AlarmPoint.highLevel ∉ A → w.fbl.rescaled = v.fbl.rescaled → w.fbl.discontinuity = v.fbl.discontinuity →
      ChannelSettled old u w := by
    intro nw w A l p n rs dc
    refine .of_readings (l.trans vl) ?_ high ((p.condition n).trans told) (by rw [rs, vf]) (by rw [dc, vf])
    subst e
    exact readings_setChan old ch r fun h => by simp [nw] at h
  have hp : AlarmPoint.highLevel ∉ ({.screenBlinded} ∪ mismatchPoints) ∪ failedPoints := by simp [mismatchPoints, failedPoints]
  cases ch with
  | wellPri => exact settled_wellMoved old u v o uo high told
  | wellSec => exact settled_wellMoved old u v o uo high told
  | inlet =>
    have m : PointMoves .n2 v (if (v.level .inlet != old.level .inlet) = true then v.judgePoint .n2 else v) :=
      .when _ (moves_judgePoint v .n2)
    refine aside rfl ((only_diffMoved _ _ .lvu (by decide)).trans (m.only .lvu (by decide)))
      (m.points.next (points_diffMoved _ _)) ?_ ?_ ?_
    · simp [mismatchPoints, failedPoints]
    · rw [State.readersAct, State.diffMoved_fbl, m.fbl]
    · rw [State.readersAct, State.diffMoved_fbl, m.fbl]
  | screenOut =>
    exact aside rfl (only_diffMoved v _ .lvu (by decide)) (points_diffMoved v _) hp
      (by rw [State.readersAct, State.diffMoved_fbl]) (by rw [State.readersAct, State.diffMoved_fbl])
  | cur p =>
    have f : (v.judgeFaults p).fbl = v.fbl := only_judgeFaults v p .fbl (by decide)
    exact aside rfl (only_judgeFaults v p .lvu (by decide)) (points_judgeFaults (A := ∅) v p) (by simp)
      (by rw [State.readersAct, f]) (by rw [State.readersAct, f])

theorem Image.classify_isSome (m : Image) (ch : Channel) (c : Nat) : (m.classify ch c).isSome = decide (736 < c) := by
  unfold Image.classify
  split <;> simp <;> omega

/-- The sample of an installed channel on a running controller. -/
theorem execSample_installed (s : State) (ch : Channel) (counts : BitVec 12) (run : s.isHeld = false) (r : ChannelRec)
    (h : s.chan ch = some r) :
    ∃ w, exec (.sample ch counts) s = .next (if decide (736 < counts.toNat) then w.seeRescaled ch else w) ∧
      OnlyIn levelParts s w ∧
      ChannelSettled { s with lvu := { s.lvu with scanNext := Channel.following ch } }
        (({ s with lvu := { s.lvu with scanNext := Channel.following ch } } : State).setChan ch
          (r.sample s.img.level.initLimit s.uptime (s.img.classify ch counts.toNat))) w := by
  generalize e : ({ s with lvu := { s.lvu with scanNext := Channel.following ch } } : State) = t
  have o : OnlyIn [.lvu] s t := e ▸ only_lvu s _
  have hc : t.chan ch = some r := by
    rw [← h, ← e]
    cases ch <;> rfl
  have img : t.img = s.img := by rw [← e]; rfl
  refine ⟨_, ?_, (o.mono (by decide)).trans (((only_setChan t ch _).mono (by decide)).trans (only_channelMoved _ t ch)),
    settled_channelMoved t ch _⟩
  rw [show exec (.sample ch counts) s = execSample ch counts s from rfl, execSample, State.live_running _ _ run]
  dsimp only
  rw [e, hc]
  dsimp only
  rw [Image.classify_isSome, img]

/-- The look-out of R131 as the last step of a sample: a valid one, of a well channel that is looked out for, ends the look-out and
marks a discontinuity at a valid control level. -/
theorem lookOut (w : State) (ch : Channel) (valid : Bool) :
    let t := if valid then w.seeRescaled ch else w
    let first : Bool := valid && ((Channel.well? ch).map w.fbl.rescaled.get).getD false
    OnlyIn [.fbl] w t ∧
      (∀ x, t.fbl.rescaled.get x = (w.fbl.rescaled.get x && !(first && Channel.well? ch == some x))) ∧
      t.fbl.discontinuity = (w.fbl.discontinuity || (first && w.controlLevel.isSome)) := by
  refine ⟨.when _ (only_seeRescaled w ch), ?_⟩
  cases valid with
  | false => simp
  | true =>
    cases k : Channel.well? ch with
    | none => simp [w.seeRescaled_of_not_well k]
    | some x =>
      simp only [if_true, w.seeRescaled_fbl k, Option.map_some, Option.getD_some, Bool.true_and, and_true]
      intro y
      by_cases e : y = x
      · subst e
        cases w.fbl.rescaled.get y <;> simp
      · simp [e, Ne.symm e]

/-- Settles O3: the sample reaches its record, what follows is settled, and the look-out of R131 is the last step. -/
theorem sampleReachesItsRecord : Obligations.SampleReachesItsRecord := by
  intro s ch counts run
  have moved : ∀ x, ({ s with lvu := { s.lvu with scanNext := Channel.following ch } } : State).chan x = s.chan x :=
    fun x => by cases x <;> rfl
  cases h : s.chan ch with
  | none =>
    have e := (moved ch).trans h
    refine ⟨{ s with lvu := { s.lvu with scanNext := Channel.following ch } }, ?_, ?_⟩
    · rw [show exec (.sample ch counts) s = execSample ch counts s from rfl, execSample, State.live_running _ _ run]
      dsimp only
      rw [e]
    have same : SameReadings s { s with lvu := { s.lvu with scanNext := Channel.following ch } } :=
      ⟨fun _ _ => rfl, fun _ _ => rfl, rfl⟩
    exact ⟨rfl, e, fun other _ => moved other, fun _ => rfl, fun v k n => absurd (same.controlLevel.symm.trans k) n,
      fun _ => ⟨rfl, rfl⟩, ⟨fun w => by simp, by simp [same.source]⟩, (only_lvu s _).mono (by decide)⟩
  | some r =>
    obtain ⟨w, step, only, settled⟩ := execSample_installed s ch counts run r h
    obtain ⟨look, rescaled, mark⟩ := lookOut w ch (decide (736 < counts.toNat))
    refine ⟨_, step, ?_⟩
    revert look rescaled mark
    dsimp only
    generalize (if decide (736 < counts.toNat) = true then w.seeRescaled ch else w) = t
    intro look rescaled mark
    have lvu : t.lvu = w.lvu := look .lvu (by decide)
    have level : t.controlLevel = w.controlLevel := (SameLevels.of_lvu lvu).controlLevel
    have cond : t.condition .highLevel = w.condition .highLevel :=
      (OnlyPoints.of_only look (by decide) : OnlyPoints ∅ w t).condition (by simp)
    have source : t.source = w.source := (SameLevels.of_lvu lvu).source
    refine ⟨by rw [lvu, settled.scanNext]; cases ch <;> rfl, ?_, fun other ne => ?_, fun k => (by cases k), fun v k n => ?_,
      fun k => ?_, ⟨fun x => ?_, ?_⟩, only.trans (look.mono (by decide))⟩
    · rw [State.chan, lvu, ← State.chan, settled.chan, State.chan_setChan_self]
      rfl
    · rw [State.chan, lvu, ← State.chan, settled.chan, State.chan_setChan_ne _ _ ne, moved]
    · rw [lvu, cond]
      exact settled.high v (level.symm.trans k) n
    · rw [lvu, cond]
      exact settled.kept (level.symm.trans k)
    · rw [rescaled, settled.rescaled]
      simp
    · rw [mark, settled.discontinuity, settled.rescaled, source, level]
      simp
      rfl

end Sys2Proof.Machine
end

section
/-! ACCRUAL_SECOND, block by block: run seconds, the points, and Flow Balance's part (R14, R53, R109, R115, R116, R127, R128). -/

namespace Sys2Proof.Machine

/-! ### Run seconds -/

/-- A pump's day after a second in which its run command is as given (R53). -/
def PumpDay.ran (d : PumpDay) (on : Bool) : PumpDay :=
  if on then { d with runSeconds := holdAdd d.runSeconds 1 } else d

theorem PumpDay.ran_eq (d : PumpDay) (on : Bool) :
    d.ran on = { d with runSeconds := if on then min (d.runSeconds + 1) max32 else d.runSeconds } := by
  cases on <;> rfl

theorem State.credit_when (s : State) (c : Bool) (f : Accumulators → Accumulators) :
    (if c then s.credit f else s) = s.credit fun a => if c then f a else a := by
  cases c <;> rfl

theorem State.runCmd_credit (s : State) (f : Accumulators → Accumulators) (p : Pump) :
    (s.credit f).runCmd p = s.runCmd p := rfl

/-- The accrual second credits every pump by its own run command. -/
theorem State.creditRuns_eq (s : State) :
    s.creditRuns = s.credit fun a =>
      { a with
        pumps :=
          ⟨a.pumps.v1.ran (s.runCmd .n1), a.pumps.v2.ran (s.runCmd .n2), a.pumps.v3.ran (s.runCmd .n3),
            a.pumps.v4.ran (s.runCmd .n4)⟩ } := by
  have one : ∀ (a : Accumulators) p c,
      (if c then a.addRun p else a) = { a with pumps := a.pumps.modify p (·.ran c) } := by
    intro a p c
    cases c <;> cases p <;> rfl
  simp only [State.creditRuns, No4.all, State.each_cons, State.each_nil, State.credit_when, State.runCmd_credit, one]
  rfl

/-! ### The points -/

/-- The spill flow of a point at a positive head, none at a head of 0 or less or unknown (R108, R109). -/
def State.flowing (s : State) (pt : Point) : Option Nat :=
  match s.head pt with
  | some h => if h ≤ 0 then none else some (spillFlow (s.img.rating.get pt) h)
  | none => none

/-- A point's record a second older (R115). -/
def PointRec.aged (r : PointRec) : PointRec :=
  { r with episode := r.episode.map fun e => { e with age := countAdd .age max32 e.age 1 } }

/-- A point's record with a second's spill, by its state (R116). -/
def PointRec.spilt (r : PointRec) (f : Nat) : PointRec :=
  match r.state with
  | .dry => r
  | .confirming => { r with pending := some (r.pending.getD 0 + f) }
  | .spilling | .ending =>
    { r with
      episode := r.episode.map fun e => { e with volume := e.volume + f }
      spillCount := countAdd .spill max64 r.spillCount f }

/-- A point's record after an accrual second with the given flow (R115, R116). -/
def PointRec.accrued (r : PointRec) : Option Nat → PointRec
  | none => r.aged
  | some f => r.aged.spilt f

/-- A point's day after an accrual second: an open episode's spill alone counts (R116, R164). -/
def PointDay.accrued (d : PointDay) : Option PointRec → Option Nat → PointDay
  | some r, some f => if r.state.opened then { d with spill := countAdd .spill max64 d.spill f } else d
  | _, _ => d

/-- A point with a new record and a new day. -/
def State.setAccrual (s : State) (pt : Point) (r : Option PointRec) (d : PointDay) : State :=
  { s with
    ovm := { s.ovm with points := s.ovm.points.set pt r }
    src := { s.src with acc := { s.src.acc with points := s.src.acc.points.set pt d } } }

theorem State.modPoint_eq (s : State) (pt : Point) (f : PointRec → PointRec) :
    s.modPoint pt f = s.setAccrual pt ((s.ovm.points.get pt).map f) (s.src.acc.points.get pt) := by
  cases pt <;> rfl

theorem State.creditSpill_eq (s : State) (pt : Point) (n : Nat) :
    s.creditSpill pt n =
      s.setAccrual pt ((s.ovm.points.get pt).map fun r => { r with spillCount := countAdd .spill max64 r.spillCount n })
        { s.src.acc.points.get pt with spill := countAdd .spill max64 (s.src.acc.points.get pt).spill n } := by
  cases pt <;> rfl

theorem State.setAccrual_setAccrual (s : State) (pt : Point) (q r : Option PointRec) (c d : PointDay) :
    (s.setAccrual pt q c).setAccrual pt r d = s.setAccrual pt r d := by cases pt <;> rfl

theorem State.record_setAccrual (s : State) (pt : Point) (r : Option PointRec) (d : PointDay) :
    (s.setAccrual pt r d).ovm.points.get pt = r := by cases pt <;> rfl

theorem State.day_setAccrual (s : State) (pt : Point) (r : Option PointRec) (d : PointDay) :
    (s.setAccrual pt r d).src.acc.points.get pt = d := by cases pt <;> rfl

theorem State.head_setAccrual (s : State) (pt q : Point) (r : Option PointRec) (d : PointDay) :
    (s.setAccrual pt r d).head q = s.head q := by cases q <;> rfl

/-- What the accrual of a point writes: its record and its day, and nothing else. -/
theorem State.accrue_eq (s : State) (pt : Point) :
    s.accrue pt =
      s.setAccrual pt ((s.ovm.points.get pt).map (·.accrued (s.flowing pt)))
        ((s.src.acc.points.get pt).accrued (s.ovm.points.get pt) (s.flowing pt)) := by
  unfold State.accrue State.flowing
  simp only [State.modPoint_eq, State.creditSpill_eq, State.setAccrual_setAccrual, State.record_setAccrual,
    State.day_setAccrual, State.head_setAccrual]
  cases k : s.ovm.points.get pt with
  | none => rfl
  | some r =>
    cases s.head pt with
    | none => rfl
    | some h =>
      simp only [Option.map_some]
      by_cases low : h ≤ 0
      · simp only [low, if_true]
        rfl
      · simp only [low, if_false]
        rcases r with ⟨_ | _ | _ | _, _⟩ <;> rfl

/-- The accrual of both points: each point by its own head, record and day. -/
theorem State.accrueAll_eq (s : State) :
    s.each No2.all State.accrue =
      (s.setAccrual .n1 ((s.ovm.points.get .n1).map (·.accrued (s.flowing .n1)))
        ((s.src.acc.points.get .n1).accrued (s.ovm.points.get .n1) (s.flowing .n1))).setAccrual .n2
        ((s.ovm.points.get .n2).map (·.accrued (s.flowing .n2)))
        ((s.src.acc.points.get .n2).accrued (s.ovm.points.get .n2) (s.flowing .n2)) := by
  simp only [No2.all, State.each_cons, State.each_nil, State.accrue_eq]
  rfl

/-! ### The records by state -/

theorem countAdd_of_le (c : Counter) {top a n : Nat} (h : a + n ≤ top) : countAdd c top a n = a + n := if_pos h

/-- An accrual second makes the episode record one second older. -/
theorem PointRec.aged_of_episode (r : PointRec) (e : Episode) (he : r.episode = some e) (age : e.age < max32) :
    r.aged = { r with episode := some { e with age := e.age + 1 } } := by
  simp only [PointRec.aged, he, Option.map_some, countAdd_of_le .age (show e.age + 1 ≤ max32 from age)]

theorem PointRec.accrued_confirming (r : PointRec) (e : Episode) (flow : Option Nat) (k : r.state = .confirming)
    (he : r.episode = some e) (age : e.age < max32) :
    ∃ q, r.accrued flow = q ∧ q = { r with episode := some { e with age := e.age + 1 }, pending := q.pending } ∧
      q.pending.getD 0 = r.pending.getD 0 + flow.getD 0 := by
  refine ⟨_, rfl, ?_⟩
  cases flow <;> simp [PointRec.accrued, PointRec.spilt, r.aged_of_episode e he age, k]

theorem PointRec.accrued_opened (r : PointRec) (e : Episode) (flow : Option Nat)
    (k : r.state = .spilling ∨ r.state = .ending) (he : r.episode = some e) (age : e.age < max32)
    (room : r.spillCount + flow.getD 0 ≤ max64) :
    r.accrued flow =
      { r with
        episode := some { e with age := e.age + 1, volume := e.volume + flow.getD 0 }
        spillCount := r.spillCount + flow.getD 0 } := by
  cases flow with
  | none => exact r.aged_of_episode e he age
  | some f =>
    have sum : countAdd .spill max64 r.spillCount f = r.spillCount + f := countAdd_of_le _ room
    rcases k with k | k <;> simp [PointRec.accrued, PointRec.spilt, r.aged_of_episode e he age, k, sum]

theorem PointRec.accrued_dry (r : PointRec) (flow : Option Nat) (k : r.state = .dry) (he : r.episode = none) :
    r.accrued flow = r := by
  obtain ⟨state, confirm, endTimer, lossTimer, pending, episode, spillCount⟩ := r
  cases k
  cases he
  cases flow <;> rfl

theorem PointDay.accrued_closed (d : PointDay) (r : PointRec) (flow : Option Nat) (k : r.state.opened = false) :
    d.accrued (some r) flow = d := by
  cases flow <;> simp [PointDay.accrued, k]

theorem PointDay.accrued_opened (d : PointDay) (r : PointRec) (flow : Option Nat) (k : r.state.opened = true)
    (room : d.spill + flow.getD 0 ≤ max64) :
    d.accrued (some r) flow = { d with spill := d.spill + flow.getD 0 } := by
  cases flow with
  | none => rfl
  | some f =>
    have sum : countAdd .spill max64 d.spill f = d.spill + f := countAdd_of_le _ room
    simp [PointDay.accrued, k, sum]

/-! ### Flow Balance's part -/

/-- A silent second that no close has taken credits the estimate (R127, R128). -/
theorem State.balancePart_silent (s : State) (silent : (s.fbl.meterSilent && !s.fbl.ahead) = true) :
    s.balancePart = (s.credit (·.addSilent)).addPumped s.estimate := by
  obtain ⟨silent, ahead⟩ : s.fbl.meterSilent = true ∧ s.fbl.ahead = false := by simpa using silent
  simp only [State.balancePart, State.balanceSecond, silent, ahead, Bool.false_eq_true, if_true, if_false]

/-- Any other second only takes the marker of a close back (R130). -/
theorem State.balancePart_other (s : State) (other : (s.fbl.meterSilent && !s.fbl.ahead) = false) :
    s.balancePart = s.modFbl fun b => { b with ahead := false } := by
  cases ahead : s.fbl.ahead with
  | true => simp only [State.balancePart, ahead, if_true]
  | false =>
    have loud : s.fbl.meterSilent = false := by simpa [ahead] using other
    simp only [State.balancePart, State.balanceSecond, ahead, loud, Bool.false_eq_true, if_false]
    obtain ⟨⟩ := s
    simp only [State.modFbl, ← ahead]

/-- Flow Balance's part writes its own block and two figures of the day. -/
theorem State.balancePart_keeps (s : State) :
    ∃ b litres silent,
      s.balancePart =
        { s with
          fbl := b
          src :=
            { s.src with
              acc := { s.src.acc with pumpedLitres := litres, meterSilentSeconds := silent } } } := by
  cases silent : s.fbl.meterSilent && !s.fbl.ahead with
  | true => exact ⟨_, _, _, s.balancePart_silent silent⟩
  | false => exact ⟨_, s.src.acc.pumpedLitres, s.src.acc.meterSilentSeconds, s.balancePart_other silent⟩

/-! ### The second -/

/-- The state at an accrual second before the points and Flow Balance have their part: the time, the count of seconds,
the backup second and the run seconds. -/
def State.secondBegun (s : State) : State :=
  ((s.reach (seconds (s.fbl.seconds + 1))).modFbl fun b => { b with seconds := b.seconds + 1 }).credit fun a =>
    { a with
      floatBackupSeconds := if s.lvu.floatBackup then holdAdd a.floatBackupSeconds 1 else a.floatBackupSeconds
      pumps :=
        ⟨a.pumps.v1.ran (s.runCmd .n1), a.pumps.v2.ran (s.runCmd .n2), a.pumps.v3.ran (s.runCmd .n3),
          a.pumps.v4.ran (s.runCmd .n4)⟩ }

theorem execAccrualSecond_eq (s : State) (run : s.isHeld = false) :
    execAccrualSecond s = .next (s.secondBegun.each No2.all State.accrue).balancePart := by
  have backup : ∀ u : State, (if u.lvu.floatBackup then u.credit (·.addBackup) else u).creditRuns =
      u.credit fun a =>
        { a with
          floatBackupSeconds := if u.lvu.floatBackup then holdAdd a.floatBackupSeconds 1 else a.floatBackupSeconds
          pumps :=
            ⟨a.pumps.v1.ran (u.runCmd .n1), a.pumps.v2.ran (u.runCmd .n2), a.pumps.v3.ran (u.runCmd .n3),
              a.pumps.v4.ran (u.runCmd .n4)⟩ } := by
    intro u
    cases u.lvu.floatBackup with
    | true => exact State.creditRuns_eq _
    | false => exact State.creditRuns_eq _
  rw [execAccrualSecond, State.live_running _ _ run]
  simp only [backup]
  rfl

theorem State.flowing_secondBegun (s : State) (pt : Point) : s.secondBegun.flowing pt = s.flowing pt := by
  cases pt <;> rfl

theorem State.flowing_getD (s : State) (pt : Point) :
    (s.flowing pt).getD 0 =
      match s.head pt with
      | some h => if 0 < h then spillFlow (s.img.rating.get pt) h else 0
      | none => 0 := by
  unfold State.flowing
  cases s.head pt with
  | none => rfl
  | some h => by_cases low : h ≤ 0 <;> simp [low, not_lt.mpr, not_le.mp]

theorem accrualSecond_points (s : State) (pt : Point) :
    (s.secondBegun.each No2.all State.accrue).ovm.points.get pt =
        (s.ovm.points.get pt).map (·.accrued (s.flowing pt)) ∧
      (s.secondBegun.each No2.all State.accrue).src.acc.points.get pt =
        (s.src.acc.points.get pt).accrued (s.ovm.points.get pt) (s.flowing pt) := by
  simp only [State.accrueAll_eq, State.flowing_secondBegun]
  cases pt <;> exact ⟨rfl, rfl⟩

/-- The accruals of the points write the points' figures of the day and no other part of the Station Record. -/
theorem accrualSecond_src (s : State) :
    (s.secondBegun.each No2.all State.accrue).src =
      { s.secondBegun.src with
        acc :=
          { s.secondBegun.src.acc with
            points := (s.secondBegun.each No2.all State.accrue).src.acc.points } } := by
  rw [State.accrueAll_eq]
  rfl

theorem only_secondBegun (s : State) : OnlyIn [.uptime, .fbl, .src] s s.secondBegun :=
  ((only_reach s _).next (cs := [.uptime, .fbl, .src]) (only_modFbl _ _)).next (only_credit _ _)

/-- Settles O27: the second's parts write different figures, so each one is read off the part that writes it. -/
theorem accrualSecond : Obligations.AccrualSecond := by
  intro s run second flow silent
  have flow_eq : ∀ pt, flow pt = (s.flowing pt).getD 0 := fun pt => (s.flowing_getD pt).symm
  clear_value flow
  refine ⟨_, execAccrualSecond_eq s run, ?_⟩
  have record := fun pt => (accrualSecond_points s pt).1
  have day := fun pt => (accrualSecond_points s pt).2
  have src := accrualSecond_src s
  have begun := only_secondBegun s
  have both : OnlyIn [.uptime, .ovm, .fbl, .src] s (s.secondBegun.each No2.all State.accrue) :=
    (begun.mono (by decide)).trans ((OnlyIn.each only_accrue _ _).mono (by decide))
  have fbl : (s.secondBegun.each No2.all State.accrue).fbl = { s.fbl with seconds := s.fbl.seconds + 1 } :=
    OnlyIn.each only_accrue _ _ .fbl (by decide)
  have time : (s.secondBegun.each No2.all State.accrue).uptime = max s.uptime ((s.fbl.seconds + 1) * 1000) := by
    refine (OnlyIn.each only_accrue _ _ .uptime (by decide) : _ = s.secondBegun.uptime).trans ?_
    change s.uptime + ((s.fbl.seconds + 1) * 1000 - s.uptime) = _
    omega
  have estimate : (s.secondBegun.each No2.all State.accrue).estimate = s.estimate := by
    rw [State.accrueAll_eq]
    rfl
  generalize s.secondBegun.each No2.all State.accrue = u at *
  have silent_eq : (u.fbl.meterSilent && !u.fbl.ahead) = silent := by rw [fbl]
  obtain ⟨b, litres, silentSeconds, part⟩ := u.balancePart_keeps
  have only : OnlyIn [.uptime, .ovm, .fbl, .src] s u.balancePart :=
    both.trans (OnlyIn.mono (as := [.fbl, .src]) (fun k hk => by rw [part]; cases k <;> first | rfl | exact absurd hk (by decide)) (by decide))
  have record : ∀ pt, u.balancePart.ovm.points.get pt = (s.ovm.points.get pt).map (·.accrued (s.flowing pt)) :=
    fun pt => by rw [part]; exact record pt
  have day : ∀ pt, u.balancePart.src.acc.points.get pt =
      (s.src.acc.points.get pt).accrued (s.ovm.points.get pt) (s.flowing pt) :=
    fun pt => by rw [part]; exact day pt
  refine ⟨fun p => ?_, ?_, ?_, fun on room => ?_, fun off => ?_, fun pt r e hr he age room dayRoom => ⟨fun k => ?_, fun k => ?_⟩,
    fun pt => ⟨fun hr => ?_, fun r hr k he => ?_⟩, ?_, ?_, ?_, ?_, ?_, ?_, ?_, ?_, only⟩
  · rw [part]
    change u.src.acc.pumps.get p = _
    rw [src]
    cases p <;> exact PumpDay.ran_eq _ _
  · rw [part]
    change u.src.acc.floatBackupSeconds = _
    rw [src]
    rfl
  · cases k : silent with
    | true =>
      rw [u.balancePart_silent (silent_eq.trans k)]
      change second u.src.acc.meterSilentSeconds = _
      rw [src]
      rfl
    | false =>
      rw [u.balancePart_other (silent_eq.trans k)]
      change u.src.acc.meterSilentSeconds = _
      rw [src]
      rfl
  · have sum : countAdd .pumped max64 u.fbl.pumped u.estimate = s.fbl.pumped + s.estimate := by
      rw [fbl, estimate]
      exact countAdd_of_le _ room
    rw [u.balancePart_silent (silent_eq.trans on)]
    refine ⟨?_, ?_⟩
    · change { u.fbl with pumped := countAdd .pumped max64 u.fbl.pumped u.estimate } = _
      rw [sum, fbl]
    · change holdAdd u.src.acc.pumpedLitres
        (countAdd .pumped max64 u.fbl.pumped u.estimate / 10 - u.fbl.pumped / 10) = _
      rw [sum, fbl, src]
      rfl
  · rw [u.balancePart_other (silent_eq.trans off)]
    refine ⟨?_, ?_⟩
    · change { u.fbl with ahead := false } = _
      rw [fbl]
    · change u.src.acc.pumpedLitres = _
      rw [src]
      rfl
  · rw [flow_eq] at room
    rw [record, day, hr, flow_eq]
    exact ⟨(r.accrued_confirming e _ k he age).imp fun q hq => ⟨congrArg some hq.1, hq.2⟩,
      PointDay.accrued_closed _ _ _ (by rw [k]; rfl)⟩
  · rw [flow_eq] at room dayRoom
    rw [record, day, hr, flow_eq]
    exact ⟨congrArg some (r.accrued_opened e _ k he age room),
      PointDay.accrued_opened _ _ _ (by rcases k with k | k <;> rw [k] <;> rfl) dayRoom⟩
  · rw [record, day, hr]
    exact ⟨rfl, rfl⟩
  · rw [record, day, hr]
    exact ⟨congrArg some (r.accrued_dry _ k he), PointDay.accrued_closed _ _ _ (by rw [k]; rfl)⟩
  · rw [part]
    exact (congrArg (·.acc.wellInflow) src).trans rfl
  · rw [part]
    exact (congrArg (·.acc.stationInflow) src).trans rfl
  · rw [part]
    exact (congrArg (·.acc.unknownIntervals) src).trans rfl
  · rw [part]
    exact (congrArg (·.acc.rakeCycles) src).trans rfl
  · rw [part]
    exact (congrArg (·.acc.peak) src).trans rfl
  · rw [part]
    exact (congrArg (·.log) src).trans rfl
  · rw [part]
    exact (congrArg (·.clock) src).trans rfl
  · rw [part]
    exact time

end Sys2Proof.Machine
end

section
/-! What notes an event without moving it: conditions, reports, records and Pump Protection's own figures. A start, a trip and a judgement
of a pump are made of such steps (R73, R77, R142, R151, R156, R189). -/

namespace Sys2Proof.Machine

/-- Pump Protection, the Alarm Unit and the Station Record alone move, the entries of `A` alone among the alarm points; the clock
stands, a full change set stays full, and judged outputs stay judged. -/
structure Noted (A : Set AlarmPoint) (s t : State) : Prop where
  only : OnlyIn [.ppr, .alm, .src] s t
  points : OnlyPoints A s t
  clock : t.src.clock = s.src.clock
  changes : ∀ l, s.alm.changes.get l = .full → t.alm.changes.get l = .full
  outputs : OutputsOk s → OutputsOk t

theorem State.outputNow_congr {s t : State} (points : t.alm.points = s.alm.points) (cfg : t.cfg = s.cfg) (k : No4) :
    t.outputNow k = s.outputNow k := by
  simp only [State.outputNow, State.point, State.img, points, cfg]

namespace Noted
variable {A B : Set AlarmPoint} {s t u : State}

theorem refl (A : Set AlarmPoint) (s : State) : Noted A s s := ⟨.refl _ _, .refl _ _, rfl, fun _ h => h, id⟩

theorem trans (h : Noted A s t) (k : Noted A t u) : Noted A s u :=
  ⟨h.only.trans k.only, h.points.trans k.points, k.clock.trans h.clock, fun l f => k.changes l (h.changes l f),
    fun o => k.outputs (h.outputs o)⟩

theorem mono (h : Noted A s t) (i : A ⊆ B) : Noted B s t := { h with points := h.points.mono i }

theorem choose (c : Prop) [Decidable c] (h : Noted A s t) (k : Noted A s u) : Noted A s (if c then t else u) := by
  split
  · exact h
  · exact k

theorem when (c : Prop) [Decidable c] (h : Noted A s t) : Noted A s (if c then t else s) := .choose c h (.refl _ _)

theorem each {α : Type} {f : State → α → State} (h : ∀ s a, Noted A s (f s a)) (xs : List α) (s : State) :
    Noted A s (s.each xs f) := by
  induction xs generalizing s with
  | nil => exact .refl _ _
  | cons a rest ih => exact (h s a).trans (ih _)

theorem dsq (h : Noted A s t) : t.dsq = s.dsq := h.only .dsq (by decide)

/-- A step that leaves the alarm points, the outputs, the clock and any full change set alone. -/
theorem of_quiet (only : OnlyIn [.ppr, .alm, .src] s t) (points : t.alm.points = s.alm.points)
    (outputs : t.alm.outputs = s.alm.outputs) (clock : t.src.clock = s.src.clock)
    (changes : ∀ l, s.alm.changes.get l = .full → t.alm.changes.get l = .full) : Noted A s t :=
  ⟨only, .of_points points, clock, changes, fun o k => by
    rw [outputs, State.outputNow_congr points (only .cfg (by decide)), o k]⟩

theorem of_ppr (only : OnlyIn [.ppr] s t) : Noted A s t := by
  have alm : t.alm = s.alm := only .alm (by decide)
  exact .of_quiet (only.mono (by decide)) (by rw [alm]) (by rw [alm])
    (congrArg StationRecord.clock (only .src (by decide))) (fun l f => by rw [alm, f])

theorem of_src (only : OnlyIn [.src] s t) (clock : t.src.clock = s.src.clock) : Noted A s t := by
  have alm : t.alm = s.alm := only .alm (by decide)
  exact .of_quiet (only.mono (by decide)) (by rw [alm]) (by rw [alm]) clock (fun l f => by rw [alm, f])

end Noted

/-! ### The single notes -/

theorem only_ppr (s : State) (q : Quad ProtectedPump) : OnlyIn [.ppr] s { s with ppr := q } := by
  intro b hb; cases b <;> first | rfl | simp at hb

theorem ChangeSet.insert_full (k : Category) : ChangeSet.full.insert k = .full := by cases k <;> rfl

theorem noted_report {A : Set AlarmPoint} (s : State) (k : Category) : Noted A s (s.report k) := by
  refine .of_quiet ((only_report s k).mono (by decide)) rfl rfl rfl fun l full => ?_
  have inserted : (s.report k).alm.changes.get l = (s.alm.changes.get l).insert k := by cases l <;> rfl
  rw [inserted, full, ChangeSet.insert_full]

theorem noted_reportIf {A : Set AlarmPoint} (s : State) (c : Bool) (k : Category) : Noted A s (s.reportIf c k) :=
  .when _ (noted_report s k)

theorem outputsOk_judgeOutputs (s : State) : OutputsOk s.judgeOutputs := by
  intro k
  cases k <;> rfl

theorem changes_judgeOutputs (s : State) (l : Link) : s.judgeOutputs.alm.changes.get l = s.alm.changes.get l := rfl

theorem noted_setCondition (s : State) (a : AlarmPoint) (b : Bool) : Noted {a} s (s.setCondition a b) := by
  refine ⟨(only_setCondition s a b).mono (by decide), points_setCondition s a b,
    congrArg StationRecord.clock (only_setCondition s a b .src (by decide)), fun l full => ?_, fun judged => ?_⟩
  · unfold State.setCondition
    split
    · exact full
    · rw [changes_judgeOutputs]
      exact (noted_report (A := ∅) _ .alarms).changes l full
  · unfold State.setCondition
    split
    · exact judged
    · exact outputsOk_judgeOutputs _

theorem StationRecord.wrap_clock (src : StationRecord) : src.wrap.clock = src.clock := by
  unfold StationRecord.wrap
  split <;> rfl

theorem StationRecord.makeRoom_clock (src : StationRecord) : src.makeRoom.clock = src.clock := by
  unfold StationRecord.makeRoom
  split
  · split <;> rfl
  · rfl

theorem State.append_clock (s : State) (b : RecordBody) : (s.append b).src.clock = s.src.clock :=
  (StationRecord.makeRoom_clock _).trans (StationRecord.wrap_clock _)

theorem noted_append {A : Set AlarmPoint} (s : State) (b : RecordBody) : Noted A s (s.append b) :=
  .of_quiet ((only_append s b).mono (by decide)) rfl rfl (s.append_clock b) (noted_report (A := ∅) _ .events).changes

theorem noted_credit {A : Set AlarmPoint} (s : State) (f : Accumulators → Accumulators) : Noted A s (s.credit f) :=
  .of_src (only_credit s f) rfl

theorem noted_modProt {A : Set AlarmPoint} (s : State) (p : Pump) (f : ProtectedPump → ProtectedPump) :
    Noted A s (s.modProt p f) := .of_ppr (only_modProt s p f)

theorem noted_judgeFaults {A : Set AlarmPoint} (s : State) (p : Pump) : Noted A s (s.judgeFaults p) :=
  .when _ ((noted_modProt s p _).trans (noted_reportIf _ _ _))

/-! ### Trips -/

/-- The points of a pump that a trip or a judgement of the whole pump can move. -/
def pumpPoints (p : Pump) : Set AlarmPoint := Set.range (.pump p)

theorem noted_setPumpPoint (s : State) (p : Pump) (k : PumpAlarm) (b : Bool) :
    Noted (pumpPoints p) s (s.setCondition (.pump p k) b) :=
  (noted_setCondition s _ b).mono fun _ h => ⟨k, h.symm⟩

/-- The trip's own figures, once the run command is off (R73, R77). -/
def State.recordTrip (s : State) (p : Pump) (c : FaultCond) (n : Nat) : State :=
  let t := ((s.modProt p fun r =>
    { r with
      faults := .allStopped, protection := .tripped, trips := n, rest := some s.uptime, awaitingCool := false
      forgive := some s.uptime, lastTrip := some (c, s.uptime) }).report .pumps).append (.pumpTrip p c n)
  let t := (t.credit (·.addTrip p)).setCondition (.pump p .trip) true
  if s.img.prot.lockoutTrips ≤ n then t.lockOut p else t

theorem noted_lockOut (s : State) (p : Pump) : Noted (pumpPoints p) s (s.lockOut p) :=
  (((noted_modProt s p _).trans (noted_setPumpPoint _ p .trip false)).trans (noted_append _ _)).trans
    (noted_setPumpPoint _ p .lockout true)

theorem noted_recordTrip (s : State) (p : Pump) (c : FaultCond) (n : Nat) :
    Noted (pumpPoints p) s (s.recordTrip p c n) := by
  have tripped : ∀ f b g,
      Noted (pumpPoints p) s (((((s.modProt p f).report .pumps).append b).credit g).setCondition (.pump p .trip) true) :=
    fun f b g => ((((noted_modProt s p f).trans (noted_report _ _)).trans (noted_append _ b)).trans
      (noted_credit _ g)).trans (noted_setPumpPoint _ p .trip true)
  exact .choose _ ((tripped _ _ _).trans (noted_lockOut _ _)) (tripped _ _ _)

theorem tripPump_eq (s : State) (p : Pump) (c : FaultCond) :
    s.tripPump p c = (if s.runCmd p then s.dropPump p else s).recordTrip p c ((s.ppr.get p).trips + 1) := by
  have img : (if s.runCmd p then s.dropPump p else s).cfg = s.cfg := by
    split
    · exact only_dropPump s p .cfg (by decide)
    · rfl
  have time : (if s.runCmd p then s.dropPump p else s).uptime = s.uptime := by
    split
    · exact only_dropPump s p .uptime (by decide)
    · rfl
  simp only [State.tripPump, State.recordTrip, State.img, img, time]
  exact if_congr Iff.rfl rfl rfl

/-- A pump whose run command is off trips by its figures alone. -/
theorem noted_tripPump_off (s : State) (p : Pump) (c : FaultCond) (off : s.runCmd p = false) :
    Noted (pumpPoints p) s (s.tripPump p c) := by
  rw [tripPump_eq, off]
  exact noted_recordTrip s p c _

theorem noted_overtempAtOnce_off (s : State) (p : Pump) (off : s.runCmd p = false) :
    Noted (pumpPoints p) s (s.overtempAtOnce p) :=
  .when _ (.when _ (noted_tripPump_off s p .overtemp off))

theorem noted_judgePump (s : State) (p : Pump) (w : Watch) : Noted (pumpPoints p) s (s.judgePump p w) :=
  (((noted_modProt s p _).trans (noted_setPumpPoint _ p .lockout _)).trans (noted_setPumpPoint _ p .switchFault _)).trans
    (noted_judgeFaults _ p)

end Sys2Proof.Machine
end

section
/-! START: what the notes of a start leave of the blocks as they are rebuilt (R22, R54, R63, R106, R125, R140, R149, R155,
R184, R189 to R191). -/

namespace Sys2Proof.Machine

/-- The points that the start's work on the pumps can move. -/
def anyPumpPoint : Set AlarmPoint := {a | ∃ p k, a = .pump p k}

theorem pumpPoints_subset (p : Pump) : pumpPoints p ⊆ anyPumpPoint := fun _ ⟨k, e⟩ => ⟨p, k, e.symm⟩

/-! ### The records of a start -/

/-- A change that does not change the record of the point leaves the state alone. -/
theorem State.modPoint_of_fixed (s : State) (pt : Point) (f : PointRec → PointRec)
    (fixed : (s.ovm.points.get pt).map f = s.ovm.points.get pt) : s.modPoint pt f = s := by
  rw [State.modPoint_eq, fixed]
  cases pt <;> rfl

/-- A day's close marks open episodes, so where there is none it leaves the Overflow Monitor alone (R117). -/
theorem State.crossDay_of_no_episode (s : State) (none : ∀ pt r, s.ovm.points.get pt = some r → r.episode = none) :
    s.crossDay = s := by
  simp only [State.crossDay, No2.all, State.each_cons, State.each_nil]
  rw [State.modPoint_of_fixed s .n1, State.modPoint_of_fixed s .n2]
  all_goals
    rw [Option.map_congr (g := id), Option.map_id, id]
    rintro ⟨_, _, _, _, _, _, _⟩ at_point
    cases none _ _ at_point
    rfl

theorem noted_offerPeak {A : Set AlarmPoint} (s : State) : Noted A s s.offerPeak := by
  unfold State.offerPeak
  split
  · exact noted_credit _ _
  · exact .refl _ _

theorem noted_closeDay {A : Set AlarmPoint} (s : State) (next : Date) (changed : Bool)
    (none : ∀ pt r, s.ovm.points.get pt = some r → r.episode = none) : Noted A s (s.closeDay next changed) := by
  have noted : Noted A s ((((s.append (.dailySummary (s.summary (s.src.day.getD next)))).modSrc fun src =>
      { src with day := some next, clockChanged := changed, acc := Accumulators.zero })).offerPeak) :=
    ((noted_append s _).trans (.of_src (only_modSrc _ _) rfl)).trans (noted_offerPeak _)
  unfold State.closeDay
  rw [State.crossDay_of_no_episode _ (fun pt r => ?_)]
  · exact noted
  · rw [noted.only .ovm (by decide)]
    exact none pt r

theorem noted_closeLost {A : Set AlarmPoint} (s : State) (pt : Point) (r : PointRec) : Noted A s (s.closeLost pt r) := by
  unfold State.closeLost
  split
  · exact .when _ (noted_append _ _)
  · exact .refl _ _

theorem noted_recordStart {A : Set AlarmPoint} (s : State) (warm : Bool) (kept : OverflowMonitor)
    (none : ∀ pt r, s.ovm.points.get pt = some r → r.episode = none) : Noted A s (s.recordStart warm kept) := by
  have started := noted_append (A := A) s (.power warm s.inputs.onGenerator)
  have closings : ∀ u, Noted A u (u.closeAllLost kept) := fun u => by
    refine .each (fun t pt => ?_) _ u
    split
    · exact noted_closeLost _ _ _
    · exact .refl _ _
  unfold State.recordStart
  refine .choose _ ((started.trans (closings _)).trans ?_) started
  unfold State.closeOwedDay
  split
  · refine .choose _ (.refl _ _) (noted_closeDay _ _ _ fun pt r => ?_)
    rw [(started.trans (closings _)).only .ovm (by decide)]
    exact none pt r
  · exact .refl _ _

/-! ### The pumps at a start -/

/-- A start's trips need no run command to go off. -/
theorem noted_overtempAll_off (s : State) (ps : List Pump) (off : ∀ p, s.runCmd p = false) :
    Noted anyPumpPoint s (s.each ps State.overtempAtOnce) := by
  induction ps generalizing s with
  | nil => exact .refl _ _
  | cons p rest ih =>
    have first := (noted_overtempAtOnce_off s p (off p)).mono (pumpPoints_subset p)
    refine first.trans (ih _ fun q => ?_)
    rw [State.runCmd, State.runState, first.dsq]
    exact off q

/-- The points whose conditions a start decides (R22, R86, R155, R189). -/
def startPoints : Set AlarmPoint :=
  anyPumpPoint ∪ {.highHighFloat, .lowLowFloat, .onGenerator, .settingsLost, .clockInvalid}

theorem noted_judgeOutputs {A : Set AlarmPoint} (s : State) : Noted A s s.judgeOutputs :=
  ⟨(only_judgeOutputs s).mono (by decide), points_judgeOutputs s, rfl, fun _ f => f, fun _ => outputsOk_judgeOutputs s⟩

/-- The conditions of a start show the inputs, the store and the clock. -/
structure StartJudged (s t : State) : Prop where
  noted : Noted startPoints s t
  outputs : OutputsOk t
  highHigh : t.condition .highHighFloat = s.inputs.floatHighHigh
  lowLow : t.condition .lowLowFloat = s.inputs.floatLowLow
  onGenerator : t.condition .onGenerator = s.inputs.onGenerator
  settingsLost : t.condition .settingsLost = s.cfg.settingsLost
  clockInvalid : t.condition .clockInvalid = s.src.clock.isNone

/-- The judgement of the pumps at a start, in number order. -/
def State.judgePumps (s : State) : State := s.each s.pumpList fun u p => u.judgePump p (.stopWatch (some u.uptime))

theorem noted_judgePumps (s : State) : Noted anyPumpPoint s s.judgePumps :=
  .each (fun v p => (noted_judgePump v p _).mono (pumpPoints_subset p)) _ s

theorem State.condition_judgePumps (s : State) {a : AlarmPoint} (h : a ∉ anyPumpPoint) :
    s.judgePumps.condition a = s.condition a := (noted_judgePumps s).points.condition h

theorem State.inputs_judgePumps (s : State) : s.judgePumps.inputs = s.inputs :=
  (noted_judgePumps s).only .inputs (by decide)

theorem State.cfg_judgePumps (s : State) : s.judgePumps.cfg = s.cfg := (noted_judgePumps s).only .cfg (by decide)

theorem State.inputs_setCondition (s : State) (a : AlarmPoint) (b : Bool) : (s.setCondition a b).inputs = s.inputs :=
  only_setCondition s a b .inputs (by decide)

theorem State.cfg_setCondition (s : State) (a : AlarmPoint) (b : Bool) : (s.setCondition a b).cfg = s.cfg :=
  only_setCondition s a b .cfg (by decide)

theorem State.src_setCondition (s : State) (a : AlarmPoint) (b : Bool) : (s.setCondition a b).src = s.src :=
  only_setCondition s a b .src (by decide)

theorem State.clock_judgePumps (s : State) : s.judgePumps.src.clock = s.src.clock := (noted_judgePumps s).clock

theorem State.judgeStart_eq (s : State) :
    s.judgeStart =
      (((((s.setCondition .highHighFloat s.inputs.floatHighHigh).setCondition .lowLowFloat
        s.inputs.floatLowLow).judgePumps.setCondition .onGenerator s.inputs.onGenerator).setCondition .settingsLost
        s.cfg.settingsLost).setCondition .clockInvalid s.src.clock.isNone).judgeOutputs := by
  have named : ∀ u : State, (u.each u.pumpList fun v p => v.judgePump p (.stopWatch (some v.uptime))) = u.judgePumps :=
    fun _ => rfl
  simp only [State.judgeStart, named, State.inputs_judgePumps, State.cfg_judgePumps, State.clock_judgePumps,
    State.inputs_setCondition, State.cfg_setCondition, State.src_setCondition]

theorem State.condition_judgeOutputs (s : State) (a : AlarmPoint) : s.judgeOutputs.condition a = s.condition a := rfl

theorem judged_judgeStart (s : State) : StartJudged s s.judgeStart := by
  have one : ∀ (u : State) a b, a ∈ startPoints → Noted startPoints u (u.setCondition a b) := fun u a b h =>
    (noted_setCondition u a b).mono (Set.singleton_subset_iff.mpr h)
  rw [State.judgeStart_eq]
  refine ⟨?_, outputsOk_judgeOutputs _, ?_, ?_, ?_, ?_, ?_⟩
  · have floats := (one s .highHighFloat s.inputs.floatHighHigh (by simp [startPoints])).trans
      (one _ .lowLowFloat s.inputs.floatLowLow (by simp [startPoints]))
    have pumps := floats.trans ((noted_judgePumps _).mono Set.subset_union_left)
    exact (((pumps.trans (one _ _ _ (by simp [startPoints]))).trans (one _ _ _ (by simp [startPoints]))).trans
      (one _ _ _ (by simp [startPoints]))).trans (noted_judgeOutputs _)
  all_goals
    simp [State.condition_judgeOutputs, State.condition_setCondition_ne, State.condition_judgePumps, anyPumpPoint]

/-! ### The start as a whole -/

/-- What the notes of a start leave of the restarted blocks, and the alarm points they end at. -/
structure Started (s u : State) : Prop where
  only : OnlyIn [.marker, .dsq, .ppr, .alm, .src] s.restart u
  duty : { u.dsq with queue := [] } = s.restart.dsq
  marker : u.marker = true
  changes : ∀ l, u.alm.changes.get l = .full
  outputs : OutputsOk u
  highHigh : u.condition .highHighFloat = s.inputs.floatHighHigh
  lowLow : u.condition .lowLowFloat = s.inputs.floatLowLow
  onGenerator : u.condition .onGenerator = s.inputs.onGenerator
  settingsLost : u.condition .settingsLost = s.cfg.stored.isNone
  clockInvalid : u.condition .clockInvalid = u.src.clock.isNone
  quiet : ∀ a, a ∉ startPoints → u.condition a = false

theorem State.restart_record (s : State) (pt : Point) :
    s.restart.ovm.points.get pt =
      if pt.toNat ≤ (s.cfg.stored.getD .defaults).units.pointsInstalled then some .atStart else none := by
  cases pt <;> rfl

theorem State.restart_episodeOpen (s : State) (pt : Point) : s.restart.episodeOpen pt = false := by
  unfold State.episodeOpen
  rw [State.restart_record]
  by_cases installed : pt.toNat ≤ (s.cfg.stored.getD .defaults).units.pointsInstalled <;> simp only [installed] <;> rfl

theorem State.restart_condition (s : State) (a : AlarmPoint) : s.restart.condition a = false := by
  have clear : s.restart.point a = .atStart := by simp [State.point, State.restart, AlarmUnit.atStart]
  rw [State.condition, clear]
  rfl

theorem State.restart_runCmd (s : State) (p : Pump) : s.restart.runCmd p = false := by cases p <;> rfl

theorem started_startUp (s : State) (held : s.isHeld = true) : Started s s.startUp := by
  have hold : s.hold = s := by simp only [State.hold, held, if_true]
  have records := noted_recordStart (A := ∅) s.restart s.marker s.ovm fun pt r at_start => by
    rw [State.restart_record] at at_start
    split at at_start
    · cases at_start
      rfl
    · cases at_start
  unfold State.startUp
  simp only [hold]
  generalize s.restart.recordStart s.marker s.ovm = r at records
  have marked : OnlyIn [.marker] r { r with marker := true } := fun b hb => by
    cases b <;> first | rfl | exact absurd (List.mem_singleton_self _) hb
  have on : ({ r with marker := true } : State).marker = true := rfl
  generalize ({ r with marker := true } : State) = v at *
  have judged := judged_judgeStart v
  generalize v.judgeStart = w at *
  have before : OnlyIn [.marker, .ppr, .alm, .src] s.restart w :=
    ((records.only.mono (by decide)).trans (marked.mono (by decide))).trans (judged.noted.only.mono (by decide))
  have trips := noted_overtempAll_off w w.pumpList fun p => by
    rw [State.runCmd, State.runState, before .dsq (by decide)]
    exact s.restart_runCmd p
  generalize w.each w.pumpList State.overtempAtOnce = u at *
  have all : OnlyIn [.marker, .ppr, .alm, .src] s.restart u := before.trans (trips.only.mono (by decide))
  have queued : ∀ kept, OnlyIn [.dsq] u (u.formQueue kept) := fun kept => only_dsq u _
  have points : OnlyPoints startPoints s.restart u :=
    (((records.points.mono (Set.empty_subset _)).trans (.of_only marked (by decide))).trans judged.noted.points).trans
      (trips.points.mono Set.subset_union_left)
  have kept : ∀ a, a ∉ anyPumpPoint → u.condition a = w.condition a := fun a n => trips.points.condition n
  have inputs : v.inputs = s.inputs := (marked .inputs (by decide)).trans (records.only .inputs (by decide))
  have cfg : v.cfg = s.restart.cfg := (marked .cfg (by decide)).trans (records.only .cfg (by decide))
  refine ⟨(all.mono (by decide)).trans ((queued _).mono (by decide)), ?_, ?_, fun l => ?_, ?_, ?_, ?_, ?_, ?_, ?_, fun a n => ?_⟩
  · exact congrArg (fun d : DutySequencer => { d with queue := [] }) (all .dsq (by decide))
  · exact (trips.only .marker (by decide)).trans ((judged.noted.only .marker (by decide)).trans on)
  · refine trips.changes l (judged.noted.changes l ?_)
    rw [show v.alm = r.alm from marked .alm (by decide)]
    exact records.changes l (by cases l <;> rfl)
  · exact trips.outputs judged.outputs
  · exact (kept _ (by simp [anyPumpPoint])).trans (judged.highHigh.trans (by rw [inputs]))
  · exact (kept _ (by simp [anyPumpPoint])).trans (judged.lowLow.trans (by rw [inputs]))
  · exact (kept _ (by simp [anyPumpPoint])).trans (judged.onGenerator.trans (by rw [inputs]))
  · exact (kept _ (by simp [anyPumpPoint])).trans (judged.settingsLost.trans (by rw [cfg]; rfl))
  · refine (kept _ (by simp [anyPumpPoint])).trans (judged.clockInvalid.trans ?_)
    exact congrArg Option.isNone (trips.clock.trans judged.noted.clock).symm
  · exact (points.condition n).trans (s.restart_condition a)

/-- Settles O50: the notes of a start leave the restarted blocks alone, so each part is the restarted one. -/
theorem startRebuilds : Obligations.StartRebuilds := by
  intro s held
  refine ⟨s.startUp, rfl, ?_⟩
  have h := started_startUp s held
  have only := h.only
  generalize s.startUp = t at *
  have lvu : t.lvu = s.restart.lvu := only .lvu (by decide)
  have ovm : t.ovm = s.restart.ovm := only .ovm (by decide)
  have scr : t.scr = s.restart.scr := only .scr (by decide)
  have lnk : t.lnk = s.restart.lnk := only .lnk (by decide)
  have duty : ∀ {α : Type} (f : DutySequencer → α), (∀ d q, f { d with queue := q } = f d) → f t.dsq = f s.restart.dsq :=
    fun f ignores => (ignores t.dsq []).symm.trans (congrArg f h.duty)
  refine ⟨only .isHeld (by decide), h.marker, only .uptime (by decide), only .inputs (by decide), only .pending (by decide),
    only .cfg (by decide), h.settingsLost, h.clockInvalid, h.onGenerator, h.highHigh, h.lowLow, fun a ha => ?_, h.outputs,
    ?_, ?_, fun ch => ?_, ?_, ?_, ?_, ?_, ?_, ?_, fun p => ?_, fun k => ?_, ?_, ?_, ?_, only .spm (by decide), fun sc => ?_,
    ?_, fun pt => ?_, ?_, only .fbl (by decide), fun l => ⟨?_, h.changes l⟩, ?_, ?_⟩
  · refine h.quiet a ?_
    simp only [List.mem_cons, List.not_mem_nil, or_false] at ha
    rcases ha with rfl | rfl | rfl | rfl | rfl | rfl | rfl | rfl | rfl | rfl | rfl | rfl | rfl | rfl | rfl | rfl | rfl <;>
      simp [startPoints, anyPumpPoint]
  · simp only [State.levelMode, State.serving, State.chanState, State.chan, lvu]
    rfl
  · simp only [State.controlLevel, State.serving, State.chanState, State.chan, lvu]
    rfl
  · rw [State.chan, lvu]
    cases ch with
    | cur p => cases p <;> rfl
    | _ => rfl
  · rw [lvu]; rfl
  · rw [lvu]; rfl
  · rw [lvu]; rfl
  · rw [lvu]; rfl
  · rw [lvu]; rfl
  · rw [lvu]; rfl
  · rw [duty (·.pumps) fun _ _ => rfl]
    cases p <;> rfl
  · rw [duty (·.calls) fun _ _ => rfl]
    cases k <;> rfl
  · exact duty (·.latch) fun _ _ => rfl
  · exact duty (·.stage) fun _ _ => rfl
  · exact duty (·.runSet) fun _ _ => rfl
  · rw [scr]
    cases sc <;> rfl
  · rw [scr]; rfl
  · rw [ovm, State.restart_record]; rfl
  · have closed : ∀ pt, t.episodeOpen pt = false := fun pt => by
      rw [State.episodeOpen, ovm]
      exact s.restart_episodeOpen pt
    simp [State.storm, closed]
  · rw [State.link, lnk]
    cases l <;> rfl
  · rw [lnk]; rfl
  · rw [lnk]; rfl

end Sys2Proof.Machine
end

section
/-! An accepted WRITE_SETTING: the payload read back, and the state it leaves as the owning block's work between the arrival and the
answer (R171 to R175, R185). -/

namespace Sys2Proof.Machine

/-! ### The payload -/

theorem figure_append_byte (bs : List Byte) (b : Byte) : figure (bs ++ [b]) = figure bs * 256 + b.toNat := by
  simp [figure]

theorem figure_bytesOf (k n : Nat) : figure (bytesOf k n) = n % 256 ^ k := by
  induction k generalizing n with
  | zero => rw [bytesOf, figure, List.foldl_nil, pow_zero, Nat.mod_one]
  | succ k ih =>
    have low : (BitVec.ofNat 8 n).toNat = n % 256 := BitVec.toNat_ofNat n 8
    rw [bytesOf, figure_append_byte, ih, low, pow_succ', Nat.mod_mul]
    omega

theorem part_first (bs cs : List Byte) (n : Nat) (h : bs.length = n) : part (bs ++ cs) 0 n = figure bs := by
  subst h
  simp [part]

theorem part_last (bs cs : List Byte) (i n : Nat) (h : bs.length = i) (k : cs.length = n) :
    part (bs ++ cs) i n = figure cs := by
  subst h k
  simp [part]

theorem Setting.mem_all (x : Setting) : x ∈ Setting.all := by
  cases x with
  | route j => simp [Setting.all]
  | crest k => cases k <;> simp [Setting.all, No2.all]
  | zeroMm k | spanMm k | curSpan k | startLevel k | stopLevel k | hasDrive k | ocLimit k | ucLimit k | ratedFlow k
    | outMode k => cases k <;> simp [Setting.all, No4.all]
  | _ => simp [Setting.all]

theorem Setting.ofIdent?_ident (x : Setting) : Setting.ofIdent? x.ident = some x := by
  have each : Setting.all.all fun x => Setting.ofIdent? x.ident == some x := by decide
  simpa using List.all_eq_true.mp each x x.mem_all

theorem Setting.ident_lt (x : Setting) : x.ident < 65536 := by
  have each : Setting.all.all fun x => decide (x.ident < 65536) := by decide
  simpa using List.all_eq_true.mp each x x.mem_all

theorem Setting.range_lt (x : Setting) : x.range.2 < 4294967296 := by
  have each : Setting.all.all fun x => decide (x.range.2 < 4294967296) := by decide
  simpa using List.all_eq_true.mp each x x.mem_all

theorem length_bytesOf (k n : Nat) : (bytesOf k n).length = k := by
  induction k generalizing n with
  | zero => rfl
  | succ k ih => rw [bytesOf, List.length_append, ih, List.length_singleton]

theorem part_settingPayload_ident (x : Setting) (v : Nat) : part (settingPayload x v) 0 2 = x.ident := by
  rw [settingPayload, part_first _ _ _ (length_bytesOf 2 _), figure_bytesOf]
  exact Nat.mod_eq_of_lt x.ident_lt

theorem part_settingPayload_value (x : Setting) (v : Nat) (h : v ≤ x.range.2) : part (settingPayload x v) 2 4 = v := by
  rw [settingPayload, part_last _ _ _ _ (length_bytesOf 2 _) (length_bytesOf 4 _), figure_bytesOf]
  exact Nat.mod_eq_of_lt (lt_of_le_of_lt h x.range_lt)

/-! ### The write -/

/-- The state with a request's frame arrived: the Link Interface alone has moved. -/
def State.arrived (s : State) (l : Link) : State := { s with lnk := (s.arrive l).lnk }

theorem State.arrive_eq_arrived (s : State) (l : Link) : s.arrive l = s.arrived l := by
  rw [State.arrived, State.arrive_eq]

/-- The state in which the owning block acts at a write: its frame has arrived, and the live value is replaced. -/
def State.written (s : State) (l : Link) (x : Setting) (v : Nat) : State :=
  { s.arrived l with cfg := { s.cfg with live := s.img.put x v } }

theorem State.put_eq_written (s : State) (l : Link) (x : Setting) (v : Nat) :
    ({ s.arrive l with cfg := { s.cfg with live := s.img.put x v } } : State) = s.written l x v := by
  rw [State.arrive_eq_arrived, State.written]

/-- The end of an accepted write: SETTINGS is reported and the answer DONE formed. -/
def State.confirmWrite (s : State) (l : Link) : State := (s.report .settings).give l 0x30 (.done [])

theorem only_written (s : State) (l : Link) (x : Setting) (v : Nat) : OnlyIn [.lnk, .cfg] s (s.written l x v) :=
  fun b hb => by cases b <;> first | rfl | exact absurd hb (by decide)

theorem only_confirmWrite (s : State) (l : Link) : OnlyIn [.alm, .lnk] s (s.confirmWrite l) :=
  (only_report s _).next (only_sendAnswer _ _ _)

theorem State.dsq_confirmWrite (s : State) (l : Link) : (s.confirmWrite l).dsq = s.dsq := rfl

theorem State.ppr_confirmWrite (s : State) (l : Link) : (s.confirmWrite l).ppr = s.ppr := rfl

/-- What an accepted write of a value not held already leaves (R185). -/
def State.afterWrite (s : State) (l : Link) (x : Setting) (v : Nat) : State :=
  ((s.written l x v).settingMoved (s.arrived l) x).confirmWrite l

/-- The frame of a write: what the owning block's work touches, and what every write touches. -/
theorem only_confirmed {bs cs : List Block} {s t : State} {l : Link} {x : Setting} {v : Nat}
    (h : OnlyIn bs (s.written l x v) t) (i : bs ⊆ cs := by decide) (j : [.alm, .lnk, .cfg] ⊆ cs := by decide) :
    OnlyIn cs s (t.confirmWrite l) :=
  (((only_written s l x v).mono (List.Subset.trans (by decide) j)).trans (h.mono i)).trans
    ((only_confirmWrite _ l).mono (List.Subset.trans (by decide) j))

theorem State.writeSetting_accepted (s : State) (x : Setting) (v : Nat) (h : s.Accepts x v) :
    s.writeSetting (settingPayload x v) = (s.putSetting x v).carryOut := by
  have inRange : ¬(v < x.range.1 ∨ x.range.2 < v) := by
    have := h.range
    omega
  simp only [State.writeSetting, part_settingPayload_ident, part_settingPayload_value x v h.range.2,
    Setting.ofIdent?_ident, inRange, h.conflict, if_false, Bool.not_true, Bool.false_eq_true]

theorem exec_writeSetting (s : State) (l : Link) (x : Setting) (v : Nat) (taking : s.taking l) (seat : s.holds l = true)
    (h : s.Accepts x v) : exec (.writeSetting l (settingPayload x v)) s = .next (s.afterWrite l x v) := by
  have accepts : (s.arrived l).Accepts x v := ⟨h.range, h.conflict, h.changes⟩
  have img : (s.arrived l).img = s.img := rfl
  have six : ((settingPayload x v).length == 6) = true := by
    simp [settingPayload, length_bytesOf]
  change Host.Outcome.next (s.request l 0x30 ((settingPayload x v).length == 6) true fun s =>
    s.writeSetting (settingPayload x v)) = _
  rw [six, s.request_taken l 0x30 true true _ taking (by simp [State.check, seat]), State.arrive_eq_arrived,
    State.writeSetting_accepted _ x v accepts]
  simp only [State.carryOut, State.putSetting, img, h.changes, if_false]
  rfl

/-- A write shown through the state it leaves. -/
theorem gives_write {s : State} {l : Link} {x : Setting} {v : Nat} {P : State → Prop} (taking : s.taking l)
    (seat : s.holds l = true) (h : s.Accepts x v → P (s.afterWrite l x v)) (accepts : s.Accepts x v) :
    Gives (.writeSetting l (settingPayload x v)) s P :=
  ⟨_, exec_writeSetting s l x v taking seat accepts, h accepts⟩

end Sys2Proof.Machine
end

section
/-! What a write of Chapter 2's settings does (R31, R33, R48, R51, R185). -/

namespace Sys2Proof.Machine

/-! ### Durations of the run timers -/

theorem State.kept_eq (s : State) (t : Timer) (secs : Nat) : s.kept t secs = stillRuns t secs s.uptime := by
  cases t with
  | none => rfl
  | some t0 =>
    simp only [State.kept, stillRuns, ran, State.passed, deadline, seconds]
    rfl

/-- The same change of every pump of the Duty Sequencer. -/
def State.mapDuty (s : State) (f : DutyPump → DutyPump) : State :=
  { s with dsq := { s.dsq with pumps := everyOne f s.dsq.pumps } }

theorem State.each_modDuty (s : State) (f : Nat → DutyPump → DutyPump) :
    s.each No4.all (fun t p => t.modDuty p (f t.uptime)) = s.mapDuty (f s.uptime) := rfl

theorem afterWrite_minRunS (s : State) (l : Link) (v : Nat) :
    s.afterWrite l .minRunS v =
      ((s.written l .minRunS v).mapDuty fun d => { d with minRun := stillRuns d.minRun v s.uptime }).reform.confirmWrite l := by
  have moved : s.afterWrite l .minRunS v =
      ((s.written l .minRunS v).each No4.all fun t p =>
        t.modDuty p fun d => { d with minRun := t.kept d.minRun v }).reform.confirmWrite l := rfl
  rw [moved]
  simp only [State.kept_eq]
  exact congrArg (fun u : State => u.reform.confirmWrite l)
    (State.each_modDuty _ fun now d => { d with minRun := stillRuns d.minRun v now })

theorem afterWrite_minOffS (s : State) (l : Link) (v : Nat) :
    s.afterWrite l .minOffS v =
      ((s.written l .minOffS v).mapDuty fun d => { d with minOff := stillRuns d.minOff v s.uptime }).reform.confirmWrite l := by
  have moved : s.afterWrite l .minOffS v =
      ((s.written l .minOffS v).each No4.all fun t p =>
        t.modDuty p fun d => { d with minOff := t.kept d.minOff v }).reform.confirmWrite l := rfl
  rw [moved]
  simp only [State.kept_eq]
  exact congrArg (fun u : State => u.reform.confirmWrite l)
    (State.each_modDuty _ fun now d => { d with minOff := stillRuns d.minOff v now })

/-! ### Start and stop levels -/

theorem State.judgeCalls_get (s : State) (j : No4) :
    s.judgeCalls.dsq.calls.get j =
      match s.controlLevel with
      | some level =>
        if s.img.duty.startLevel.get j ≤ level then true
        else if level ≤ s.img.duty.stopLevel.get j then false else s.dsq.calls.get j
      | none => s.dsq.calls.get j := by
  unfold State.judgeCalls
  cases s.controlLevel with
  | none => rfl
  | some level => cases j <;> rfl

theorem State.judgeStage_calls (s : State) : s.judgeStage.dsq.calls = s.dsq.calls := by
  unfold State.judgeStage
  split <;> rfl

theorem afterWrite_level (s : State) (l : Link) (x : Setting) (v : Nat) (k : No4)
    (h : x = .startLevel k ∨ x = .stopLevel k) :
    s.afterWrite l x v = (s.written l x v).judgeCalls.judgeStage.reform.confirmWrite l := by
  rcases h with rfl | rfl <;> rfl

/-- After a write of a start or stop level the calls meet the control level under the image that the write leaves. -/
theorem afterWrite_level_calls (s : State) (l : Link) (x : Setting) (v : Nat) (k : No4)
    (h : x = .startLevel k ∨ x = .stopLevel k) (j : No4) :
    (s.afterWrite l x v).dsq.calls.get j =
      match s.controlLevel with
      | some level =>
        if (s.afterWrite l x v).img.duty.startLevel.get j ≤ level then true
        else if level ≤ (s.afterWrite l x v).img.duty.stopLevel.get j then false else s.dsq.calls.get j
      | none => s.dsq.calls.get j := by
  have moves := moves_reform (s.written l x v).judgeCalls.judgeStage
  have img : (s.afterWrite l x v).img = (s.written l x v).img := by
    rw [afterWrite_level s l x v k h]
    exact congrArg SettingsStore.live (((moves.only .cfg (by decide)).trans (only_judgeStage _ .cfg (by decide))).trans
      (only_judgeCalls _ .cfg (by decide)))
  have calls : (s.afterWrite l x v).dsq.calls = (s.written l x v).judgeCalls.dsq.calls := by
    rw [afterWrite_level s l x v k h]
    exact moves.calls.1.trans (State.judgeStage_calls _)
  rw [img, calls, State.judgeCalls_get]
  rfl

/-! ### Drives and the lowest speed -/

/-- A pump's record after a write of its `has_drive` (R51). -/
def DutyPump.driven (d : DutyPump) (v least now : Nat) : DutyPump :=
  if v = 0 then { d with speedRef := 0, pendingDuty := 0, dutyInForce := 0, refInForce := 0, rampNext := none }
  else if d.run.commanded then
    { d with speedRef := least, pendingDuty := (least * 255 + 50) / 100, rampNext := some (now + 1000) }
  else d

theorem DutyPump.driven_on (d : DutyPump) (v least now : Nat) (drive : v ≠ 0) (on : d.run.commanded = true) :
    d.driven v least now =
      { d with speedRef := least, pendingDuty := (least * 255 + 50) / 100, rampNext := some (now + 1000) } := by
  simp only [DutyPump.driven, drive, on, if_false, if_true]

theorem DutyPump.driven_off (d : DutyPump) (v least now : Nat) (drive : v ≠ 0) (off : d.run.commanded = false) :
    d.driven v least now = d := by
  simp only [DutyPump.driven, drive, off, Bool.false_eq_true, if_false]

theorem DutyPump.driven_run (d : DutyPump) (v least now : Nat) : (d.driven v least now).run = d.run := by
  unfold DutyPump.driven
  split
  · rfl
  · split <;> rfl

theorem State.modDuty_of_fixed (s : State) (p : Pump) (f : DutyPump → DutyPump)
    (fixed : f (s.dsq.pumps.get p) = s.dsq.pumps.get p) : s.modDuty p f = s := by
  rw [State.modDuty, Quad.modify, fixed]
  cases p <;> rfl

theorem State.modDuty_congr (s : State) (p : Pump) {f g : DutyPump → DutyPump}
    (same : f (s.dsq.pumps.get p) = g (s.dsq.pumps.get p)) : s.modDuty p f = s.modDuty p g := by
  simp only [State.modDuty, Quad.modify, same]

theorem afterWrite_hasDrive (s : State) (l : Link) (p : Pump) (v : Nat) (h : s.Accepts (.hasDrive p) v) :
    s.afterWrite l (.hasDrive p) v =
      ((s.written l (.hasDrive p) v).modDuty p (·.driven v s.img.duty.minSpeed s.uptime)).confirmWrite l := by
  have bit : v = 0 ∨ v = 1 := by
    have := h.range
    simp only [Setting.range] at this
    omega
  have drive : (s.written l (.hasDrive p) v).img.drive p = (v == 1) := by
    simp [State.written, State.img, Image.put, Image.drive]
  rcases bit with rfl | rfl
  · simp only [State.afterWrite, State.settingMoved, drive]
    rfl
  · simp only [State.afterWrite, State.settingMoved, drive, State.driveSet, beq_self_eq_true, if_true]
    refine congrArg (State.confirmWrite · l) ?_
    cases on : (s.written l (.hasDrive p) 1).runCmd p with
    | true => exact State.modDuty_congr _ _ (DutyPump.driven_on _ _ _ _ (by decide) on).symm
    | false => exact (State.modDuty_of_fixed _ _ _ (DutyPump.driven_off _ _ _ _ (by decide) on)).symm

theorem hasDrive_effect (s : State) (l : Link) (p : Pump) (v : Nat) (h : s.Accepts (.hasDrive p) v) :
    let t := s.afterWrite l (.hasDrive p) v
    t.dsq.pumps.get p = (s.dsq.pumps.get p).driven v s.img.duty.minSpeed s.uptime ∧
    (v = 0 → t.speedInForce p = if s.runCmd p then 100 else 0) ∧
    OthersKept p s.dsq.pumps t.dsq.pumps ∧ t.dsq = { s.dsq with pumps := t.dsq.pumps } ∧
    OnlyIn [.dsq, .alm, .lnk, .cfg] s t := by
  have only : OnlyIn [.dsq, .alm, .lnk, .cfg] s (s.afterWrite l (.hasDrive p) v) :=
    afterWrite_hasDrive s l p v h ▸ only_confirmed (only_modDuty _ _ _)
  refine ⟨?_, fun zero => ?_, fun i ne => ?_, ?_, only⟩
  · rw [afterWrite_hasDrive s l p v h, State.dsq_confirmWrite]
    exact Quad.get_modify_self _ _ _
  · rw [afterWrite_hasDrive s l p v h]
    subst zero
    have drive : (s.written l (.hasDrive p) 0).img.drive p = false := by
      simp [State.written, State.img, Image.put, Image.drive]
    have run : ((s.written l (.hasDrive p) 0).modDuty p (·.driven 0 s.img.duty.minSpeed s.uptime)).runCmd p = s.runCmd p :=
      (congrArg (fun d : DutyPump => d.run.commanded) (Quad.get_modify_self _ _ _)).trans
        (congrArg RunState.commanded (DutyPump.driven_run _ _ _ _))
    change (if (s.written l (.hasDrive p) 0).img.drive p then _ else _) = _
    rw [drive]
    change (if ((s.written l (.hasDrive p) 0).modDuty p _).runCmd p then 100 else 0) = _
    rw [run]
  · rw [afterWrite_hasDrive s l p v h, State.dsq_confirmWrite]
    exact Quad.get_modify_ne _ _ ne
  · rw [afterWrite_hasDrive s l p v h]
    rfl

theorem minSpeed_effect (s : State) (l : Link) (v : Nat) :
    let t := s.afterWrite l .minSpeed v
    (∀ p, t.dsq.pumps.get p =
      { s.dsq.pumps.get p with override := (s.dsq.pumps.get p).override.map (·.raise v) }) ∧
    OnlyIn [.dsq, .alm, .lnk, .cfg] s t := by
  have moved : s.afterWrite l .minSpeed v =
      ((s.written l .minSpeed v).each No4.all fun t p =>
        t.modDuty p fun d => { d with override := d.override.map (·.raise v) }).confirmWrite l := rfl
  intro t
  rw [show t = _ from moved]
  exact ⟨fun p => by cases p <;> rfl, only_confirmed (.each (fun t q => only_modDuty t q _) _ _)⟩

end Sys2Proof.Machine
end

section
/-! What a write of the spacing in force does (R58, R59, R61, R185). -/

namespace Sys2Proof.Machine

/-- The permit closes again under a spacing that has not passed; its timer runs from the same moment (R58, R59). -/
theorem State.respace_of_early (s : State) (early : s.passed s.spm.spacingStart s.spacing = false) :
    s.reclose.spacingChanged = { s with spm := { s.spm with permit := .spacing } } := by
  have closed : s.reclose = { s with spm := { s.spm with permit := .spacing } } := by
    unfold State.reclose
    cases k : s.spm.permit with
    | opened => simp only [early, Bool.false_eq_true, if_false]
    | spacing =>
      have same : { s.spm with permit := .spacing } = s.spm := by rw [← k]
      rw [same]
  rw [closed, State.spacingChanged, State.spacingPassed]
  exact if_neg (by rw [Bool.not_eq_true]; exact early)

/-- A permit already OPEN stays so under a spacing that has passed (R58). -/
theorem State.respace_of_opened (s : State) (late : s.passed s.spm.spacingStart s.spacing = true)
    (opened : s.spm.permit = .opened) : s.reclose.spacingChanged = s := by
  have same : s.reclose = s := by simp only [State.reclose, opened, late, if_true]
  have idle : s.spacingPassed = false := by simp only [State.spacingPassed, StartPermit.timer, opened]
  rw [same, State.spacingChanged, idle]
  rfl

/-- A spacing that has passed ends the timer that runs: the first request is granted, or the permit opens (R58). -/
theorem State.respace_of_spacing (s : State) (late : s.passed s.spm.spacingStart s.spacing = true)
    (closed : s.spm.permit = .spacing) : s.reclose.spacingChanged = s.endSpacing := by
  have same : s.reclose = s := by simp only [State.reclose, closed]
  have ended : s.spacingPassed = true := by simp only [State.spacingPassed, StartPermit.timer, closed, late]
  rw [same, State.spacingChanged, ended]
  rfl

theorem State.endSpacing_of_nil (s : State) (none : s.ranked = []) :
    s.endSpacing = { s with spm := { s.spm with permit := .opened } } := by
  simp only [State.endSpacing, State.expireSpacing, none, List.head?_nil]

theorem State.endSpacing_of_cons (s : State) (r : Request) (rest : List Request) (first : s.ranked = r :: rest) :
    s.endSpacing = ((s.recordGrant r.who).grantTo r.who).reform := by
  simp only [State.endSpacing, State.expireSpacing, State.grantFirst, first, List.head?_cons]

/-- A grant and the re-formation that follows it leave the permit as the grant records it (R61). -/
theorem State.grant_reform_spm (s : State) (who : Requester) :
    let t := ((s.recordGrant who).grantTo who).reform
    t.spm.lastGrant = some (who, s.uptime) ∧ t.spm.spacingStart = s.uptime ∧ t.spm.permit = .spacing := by
  have granted : ((s.recordGrant who).grantTo who).spm = (s.recordGrant who).spm :=
    only_grantTo _ who .spm (by decide)
  have closed : ((s.recordGrant who).grantTo who).spm.permit = .spacing := by
    rw [granted]
    rfl
  have kept := (moves_reform ((s.recordGrant who).grantTo who)).spacing closed
  intro t
  change t.spm = _ at kept
  rw [kept, granted]
  exact ⟨rfl, rfl, rfl⟩

theorem settingMoved_spacing (s old : State) (x : Setting) (h : x = .startSpacing ∨ x = .genSpacing) :
    s.settingMoved old x = if s.spacing = old.spacing then s else s.reclose.spacingChanged := by
  rcases h with rfl | rfl <;> rfl

/-- The spacing in force after a write: the value written where it is that of the supply in use. -/
theorem written_spacing (s : State) (l : Link) (x : Setting) (v : Nat) (h : x = .startSpacing ∨ x = .genSpacing) :
    (s.written l x v).spacing =
      if s.inputs.onGenerator = decide (x = .genSpacing) then v else s.spacing := by
  rcases h with rfl | rfl <;> cases on : s.inputs.onGenerator <;>
    simp [State.spacing, State.written, State.arrived, State.img, Image.put, on]

/-- The spacing in force before a write of it is not the value written. -/
theorem State.Accepts.spacing_ne {s : State} {x : Setting} {v : Nat} (accepts : s.Accepts x v)
    (h : x = .startSpacing ∨ x = .genSpacing) (mine : s.inputs.onGenerator = decide (x = .genSpacing)) :
    v ≠ s.spacing := by
  intro e
  refine accepts.changes ?_
  rcases h with rfl | rfl <;> rw [e] <;> simp_all [State.spacing, Image.get]

theorem afterWrite_spacing_other (s : State) (l : Link) (x : Setting) (v : Nat) (h : x = .startSpacing ∨ x = .genSpacing)
    (other : s.inputs.onGenerator ≠ decide (x = .genSpacing)) :
    s.afterWrite l x v = (s.written l x v).confirmWrite l := by
  rw [State.afterWrite, settingMoved_spacing _ _ x h, if_pos]
  rw [written_spacing s l x v h, if_neg other]
  rfl

theorem afterWrite_spacing (s : State) (l : Link) (x : Setting) (v : Nat) (accepts : s.Accepts x v)
    (h : x = .startSpacing ∨ x = .genSpacing) (mine : s.inputs.onGenerator = decide (x = .genSpacing)) :
    s.afterWrite l x v = (s.written l x v).reclose.spacingChanged.confirmWrite l := by
  rw [State.afterWrite, settingMoved_spacing _ _ x h, if_neg]
  rw [written_spacing s l x v h, if_pos mine]
  exact accepts.spacing_ne h mine

theorem only_respace (s : State) : OnlyIn reformParts s s.reclose.spacingChanged := by
  cases late : s.passed s.spm.spacingStart s.spacing with
  | false =>
    rw [s.respace_of_early late]
    exact (only_spm s _).mono (by decide)
  | true =>
    cases closed : s.spm.permit with
    | opened =>
      rw [s.respace_of_opened late closed]
      exact .refl _ _
    | spacing =>
      rw [s.respace_of_spacing late closed]
      cases ranked : s.ranked with
      | nil =>
        rw [s.endSpacing_of_nil ranked]
        exact (only_spm s _).mono (by decide)
      | cons r rest =>
        rw [s.endSpacing_of_cons r rest ranked]
        exact ((only_recordGrant s _).next (cs := reformParts) (only_grantTo _ _)).trans (only_reform _)

theorem State.spacing_congr {s t : State} (inputs : t.inputs = s.inputs) (cfg : t.cfg = s.cfg) : t.spacing = s.spacing := by
  unfold State.spacing State.img
  rw [inputs, cfg]

/-- What the write of the spacing in force does (R58, R59, R61). -/
theorem spacing_effect (s : State) (l : Link) (x : Setting) (v : Nat) (accepts : s.Accepts x v)
    (h : x = .startSpacing ∨ x = .genSpacing) (mine : s.inputs.onGenerator = decide (x = .genSpacing)) :
    let t := s.afterWrite l x v
    t.spacing = v ∧
    (s.uptime < s.spm.spacingStart + v * 1000 →
      t.spm = { s.spm with permit := .spacing } ∧ OnlyIn [.spm, .alm, .lnk, .cfg] s t) ∧
    (s.spm.spacingStart + v * 1000 ≤ s.uptime →
      (s.spm.permit = .opened → t.spm = s.spm) ∧
      (s.spm.permit = .spacing → s.ranked = [] → t.spm = { s.spm with permit := .opened }) ∧
      (∀ r rest, s.spm.permit = .spacing → s.ranked = r :: rest →
        t = ((((s.written l x v).recordGrant r.who).grantTo r.who).reform).confirmWrite l ∧
        t.spm.lastGrant = some (r.who, s.uptime) ∧ t.spm.spacingStart = s.uptime ∧ t.spm.permit = .spacing)) := by
  intro t
  have moved : t = _ := afterWrite_spacing s l x v accepts h mine
  have spacing : (s.written l x v).spacing = v := by rw [written_spacing s l x v h, if_pos mine]
  have passed : (s.written l x v).passed (s.written l x v).spm.spacingStart (s.written l x v).spacing =
      decide (s.spm.spacingStart + v * 1000 ≤ s.uptime) := by
    rw [spacing]
    rfl
  clear_value t
  subst moved
  refine ⟨?_, fun early => ?_, fun late => ⟨fun opened => ?_, fun closed none => ?_, fun r rest closed first => ?_⟩⟩
  · refine (?_ : (s.written l x v).reclose.spacingChanged.spacing = _).trans spacing
    exact State.spacing_congr (only_respace _ .inputs (by decide)) (only_respace _ .cfg (by decide))
  · rw [State.respace_of_early _ (passed.trans (decide_eq_false (by omega)))]
    refine ⟨rfl, ?_⟩
    exact ((only_written s l x v).next (cs := [.spm, .alm, .lnk, .cfg]) (only_spm _ _)).next (only_confirmWrite _ l)
  · rw [State.respace_of_opened _ (passed.trans (decide_eq_true late)) opened]
    rfl
  · rw [State.respace_of_spacing _ (passed.trans (decide_eq_true late)) closed, State.endSpacing_of_nil (s.written l x v) none]
    rfl
  · rw [State.respace_of_spacing _ (passed.trans (decide_eq_true late)) closed, State.endSpacing_of_cons (s.written l x v) r rest first]
    exact ⟨rfl, State.grant_reform_spm _ r.who⟩

end Sys2Proof.Machine
end

section
/-! Trips pump by pump, and the queue after the duty event that follows them (R23, R24, R42, R66, R73, R77). -/

namespace Sys2Proof.Machine

/-! ### One unit after another -/

/-- The turns of other units leave a unit's part alone. -/
theorem State.each_other {ι α : Type} {f : State → ι → State} (own : ι → State → α)
    (other : ∀ s i j, j ≠ i → own j (f s i) = own j s) {xs : List ι} {i : ι} (absent : i ∉ xs) (s : State) :
    own i (s.each xs f) = own i s := by
  induction xs generalizing s with
  | nil => rfl
  | cons x rest ih =>
    obtain ⟨ne, absent⟩ : i ≠ x ∧ i ∉ rest := by simpa using absent
    exact (ih absent (f s x)).trans (other s x i ne)

/-- Where each unit's part moves in its own turn alone, it ends as its own turn leaves it, begun as it stood at first. -/
theorem State.each_turn {ι α : Type} {f : State → ι → State} {bs : List Block} (own : ι → State → α)
    (only : ∀ s i, OnlyIn bs s (f s i)) (other : ∀ s i j, j ≠ i → own j (f s i) = own j s) {xs : List ι} (nodup : xs.Nodup)
    {i : ι} (mem : i ∈ xs) (s : State) :
    ∃ u, OnlyIn bs s u ∧ own i u = own i s ∧ OnlyIn bs (f u i) (s.each xs f) ∧ own i (s.each xs f) = own i (f u i) := by
  induction xs generalizing s with
  | nil => cases mem
  | cons x rest ih =>
    obtain ⟨fresh, nodup⟩ := List.nodup_cons.mp nodup
    by_cases e : i = x
    · subst e
      exact ⟨s, .refl _ _, rfl, .each only rest (f s i), State.each_other own other fresh (f s i)⟩
    · obtain ⟨u, o, same, o', last⟩ := ih nodup ((List.mem_cons.mp mem).resolve_left e) (f s x)
      exact ⟨u, (only s x).trans o, same.trans (other s x i e), o', last⟩

theorem State.lapse_eq (s : State) (t : Timer) (secs : Nat) (f : State → State) :
    s.lapse t secs f = if ran t secs s.uptime then f s else s := by
  cases t <;> rfl

/-- One unit's turn at a changed duration: its timer expires where it has run the duration (R16, R58, R66, R91). -/
def State.lapseOf {ι : Type} (timer : State → ι → Timer) (secs : Nat) (f : State → ι → State) (s : State) (i : ι) : State :=
  s.lapse (timer s i) secs fun t => f t i

theorem State.lapseOf_eq {ι : Type} (timer : State → ι → Timer) (secs : Nat) (f : State → ι → State) (s : State) (i : ι) :
    s.lapseOf timer secs f i = if ran (timer s i) secs s.uptime then f s i else s := s.lapse_eq _ _ _

theorem only_lapseOf {ι : Type} {timer : State → ι → Timer} {secs : Nat} {f : State → ι → State} {bs : List Block}
    (only : ∀ s i, OnlyIn bs s (f s i)) (s : State) (i : ι) : OnlyIn bs s (s.lapseOf timer secs f i) := by
  rw [State.lapseOf_eq]
  exact .when _ (only s i)

/-- A changed duration takes each unit whose timer has run it, and no other, as the unit stood before the write. -/
theorem State.each_lapse {ι α : Type} {timer : State → ι → Timer} {secs : Nat} {f : State → ι → State} {bs : List Block}
    (own : ι → State → α) (only : ∀ s i, OnlyIn bs s (f s i)) (other : ∀ s i j, j ≠ i → own j (f s i) = own j s)
    (timer_own : ∀ s t i, own i t = own i s → timer t i = timer s i) (time : Block.uptime ∉ bs) {xs : List ι}
    (nodup : xs.Nodup) {i : ι} (mem : i ∈ xs) (s : State) :
    (ran (timer s i) secs s.uptime = true →
      ∃ u, OnlyIn bs s u ∧ own i u = own i s ∧ OnlyIn bs (f u i) (s.each xs (State.lapseOf timer secs f)) ∧
        own i (s.each xs (State.lapseOf timer secs f)) = own i (f u i)) ∧
    (ran (timer s i) secs s.uptime = false → own i (s.each xs (State.lapseOf timer secs f)) = own i s) := by
  have other' : ∀ s i j, j ≠ i → own j (s.lapseOf timer secs f i) = own j s := fun s i j ne => by
    rw [State.lapseOf_eq]
    split
    · exact other s i j ne
    · rfl
  obtain ⟨u, o, same, o', turn⟩ := State.each_turn own (only_lapseOf only) other' nodup mem s
  have due : ran (timer u i) secs u.uptime = ran (timer s i) secs s.uptime := by
    rw [timer_own s u i same, o .uptime time]
  rw [State.lapseOf_eq, due] at o' turn
  refine ⟨fun late => ⟨u, o, same, ?_⟩, fun early => ?_⟩
  · rw [late, if_pos rfl] at o' turn
    exact ⟨o', turn⟩
  · rw [early, if_neg Bool.false_ne_true] at turn
    exact turn.trans same

/-! ### A trip -/

/-- A pump's protection after a trip that brings its counter to `n` (R73, R77). -/
def ProtectedPump.tripped (r : ProtectedPump) (c : FaultCond) (n now limit : Nat) : ProtectedPump :=
  { r with
    faults := .allStopped, trips := n, awaitingCool := false, lastTrip := some (c, now)
    protection := if limit ≤ n then .lockedOut else .tripped
    rest := if limit ≤ n then none else some now
    forgive := if limit ≤ n then none else some now }

theorem ProtectedPump.tripped_watched (r : ProtectedPump) (c : FaultCond) (n now limit : Nat) :
    (r.tripped c n now limit).protection.watched = false := by
  unfold ProtectedPump.tripped
  dsimp only
  split <;> rfl

theorem State.lockOut_ppr (s : State) (p : Pump) :
    (s.lockOut p).ppr = s.ppr.modify p fun r => { r with protection := .lockedOut, rest := none, forgive := none } :=
  (only_setCondition _ _ _ .ppr (by decide)).trans ((only_append _ _ .ppr (by decide)).trans
    (only_setCondition _ _ _ .ppr (by decide)))

theorem Quad.modify_modify {α : Type} (q : Quad α) (i : No4) (f g : α → α) :
    (q.modify i f).modify i g = q.modify i (g ∘ f) := by cases i <;> rfl

theorem State.recordTrip_ppr (s : State) (p : Pump) (c : FaultCond) (n : Nat) :
    (s.recordTrip p c n).ppr = s.ppr.modify p (·.tripped c n s.uptime s.img.prot.lockoutTrips) := by
  have set : ∀ f b g,
      (((((s.modProt p f).report .pumps).append b).credit g).setCondition (.pump p .trip) true).ppr = s.ppr.modify p f :=
    fun f b g => only_setCondition _ _ _ .ppr (by decide)
  by_cases lock : s.img.prot.lockoutTrips ≤ n
  · simp only [State.recordTrip, lock, if_true, State.lockOut_ppr, set, Quad.modify_modify, ProtectedPump.tripped]
    rfl
  · simp only [State.recordTrip, lock, if_false, set, ProtectedPump.tripped]

theorem State.recordTrip_dsq (s : State) (p : Pump) (c : FaultCond) (n : Nat) : (s.recordTrip p c n).dsq = s.dsq :=
  (noted_recordTrip s p c n).dsq

theorem State.dropPump_runState (s : State) (p : Pump) : (s.dropPump p).runState p = .stopped := by
  simp [State.runState, State.dropPump_dsq, DutyPump.dropped]

theorem State.dropPump_runState_ne (s : State) {p q : Pump} (h : q ≠ p) : (s.dropPump p).runState q = s.runState q := by
  simp [State.runState, State.dropPump_dsq, h]

/-- What the trip of a pump makes of it: its command is off, its counter and its last trip are the trip's. -/
theorem State.tripPump_self (s : State) (p : Pump) (c : FaultCond) :
    (∃ r, ProtectedPump.Judged (s.pumpIn p) (s.inputs.overtemp.get p) (s.ppr.get p) r ∧
      (s.tripPump p c).ppr.get p = r.tripped c ((s.ppr.get p).trips + 1) s.uptime s.img.prot.lockoutTrips) ∧
    (s.tripPump p c).runCmd p = false := by
  rw [tripPump_eq]
  cases on : s.runCmd p with
  | false =>
    refine ⟨⟨_, .refl _ _ _, ?_⟩, ?_⟩
    · rw [if_neg Bool.false_ne_true, State.recordTrip_ppr, Quad.get_modify_self]
    · rw [if_neg Bool.false_ne_true, State.runCmd, State.runState, State.recordTrip_dsq]
      exact on
  | true =>
    refine ⟨⟨_, judged_dropPump s p p, ?_⟩, ?_⟩
    · rw [if_pos rfl, State.recordTrip_ppr, Quad.get_modify_self, State.img, only_dropPump s p .uptime (by decide),
        only_dropPump s p .cfg (by decide)]
      rfl
    · rw [if_pos rfl, State.runCmd, State.runState, State.recordTrip_dsq]
      exact congrArg RunState.commanded (s.dropPump_runState p)

theorem State.tripPump_other (s : State) {p q : Pump} (c : FaultCond) (h : q ≠ p) :
    (s.tripPump p c).ppr.get q = s.ppr.get q ∧ (s.tripPump p c).runState q = s.runState q := by
  rw [tripPump_eq, State.recordTrip_ppr, Quad.get_modify_ne _ _ h, State.runState, State.recordTrip_dsq]
  split
  · exact ⟨s.dropPump_ppr_ne h, s.dropPump_runState_ne h⟩
  · exact ⟨rfl, rfl⟩

theorem points_tripPump (s : State) (p : Pump) (c : FaultCond) : OnlyPoints (pumpPoints p) s (s.tripPump p c) := by
  rw [tripPump_eq]
  refine (OnlyPoints.when _ ((points_dropPump s p).mono ?_)).trans (noted_recordTrip _ p c _).points
  exact Set.singleton_subset_iff.mpr ⟨_, rfl⟩

theorem points_expireFault (s : State) (p : Pump) (c : FaultCond) : OnlyPoints (pumpPoints p) s (s.expireFault p c) :=
  .when _ (points_tripPump s p c)

theorem points_overtempAtOnce (s : State) (p : Pump) : OnlyPoints (pumpPoints p) s (s.overtempAtOnce p) :=
  .when _ (points_expireFault s p _)

theorem not_mem_pumpPoints {p q : Pump} (h : q ≠ p) (k : PumpAlarm) : AlarmPoint.pump q k ∉ pumpPoints p := by
  rintro ⟨_, e⟩
  cases e
  exact h rfl

theorem State.faultRun_eq (s : State) (p : Pump) (c : FaultCond) :
    s.faultRun p c = ran ((s.ppr.get p).faults.get c) (s.img.faultSeconds c) s.uptime := by
  unfold State.faultRun ran
  cases (s.ppr.get p).faults.get c <;> rfl

theorem State.expireFault_other (s : State) {p q : Pump} (c : FaultCond) (h : q ≠ p) :
    (s.expireFault p c).ppr.get q = s.ppr.get q ∧ (s.expireFault p c).runState q = s.runState q := by
  unfold State.expireFault
  split
  · exact s.tripPump_other c h
  · exact ⟨rfl, rfl⟩

theorem State.overtempAtOnce_other (s : State) {p q : Pump} (h : q ≠ p) :
    (s.overtempAtOnce p).ppr.get q = s.ppr.get q ∧ (s.overtempAtOnce p).runState q = s.runState q := by
  unfold State.overtempAtOnce
  split
  · exact s.expireFault_other _ h
  · exact ⟨rfl, rfl⟩

/-- A pump whose OVERTEMP timer stands still does not trip at once. -/
theorem State.overtempAtOnce_of_none (s : State) (p : Pump) (none : (s.ppr.get p).faults.overtemp = none) :
    s.overtempAtOnce p = s := by
  have idle : s.faultRun p .overtemp = false := by
    rw [State.faultRun_eq, FaultTimers.get, none]
    rfl
  simp only [State.overtempAtOnce, State.expireFault, idle, Bool.false_eq_true, if_false, ite_self]

/-! ### The duty event -/

/-- The queue holds the members, each once or more. -/
def QueueOfMembers (s : State) : Prop := ∀ p, p ∈ s.dsq.queue ↔ s.member p = true

theorem State.setQueue_queue (s : State) (q : List Pump) : (s.setQueue q).dsq.queue = q :=
  congrArg DutySequencer.queue (only_reportIf _ _ _ .dsq (by decide))

theorem State.setQueue_pumps (s : State) (q : List Pump) : (s.setQueue q).dsq.pumps = s.dsq.pumps := by
  rw [show (s.setQueue q).dsq = { s.dsq with queue := q } from only_reportIf _ _ _ .dsq (by decide)]

theorem DutyMove.queueOfMembers {asks : Bool} {s t : State} (h : DutyMove asks s t) (k : QueueOfMembers s) :
    QueueOfMembers t := by
  intro p
  rw [h.member p, ← k p]
  cases h with
  | drop _ q on => simp [State.dropPump_dsq]
  | unwait _ q off => simp [State.unwait_queue]
  | uncommand _ q => simp [State.setOverride_dsq]
  | queue _ q same =>
    rw [State.setQueue_queue]
    rcases same with e | e
    · exact e p
    · exact (e p).trans (k p).symm
  | runSet _ m c =>
    rw [show ∀ v : State, (v.reportIf c .pumps).dsq = v.dsq from fun v => only_reportIf v c _ .dsq (by decide)]
  | ask _ q queued => simp [State.setRun_queue]
  | grant _ r ranked opened => rw [State.grantTo_dsq, State.recordGrant_dsq]

theorem DutyMoves.queueOfMembers {asks : Bool} {s t : State} (h : DutyMoves asks s t) (k : QueueOfMembers s) :
    QueueOfMembers t := h.keeps (fun _ _ m => m.queueOfMembers) k

theorem queueOfMembers_requeue (s : State) (n : Nat) : QueueOfMembers (s.requeue n) := by
  have set : DutyMoves false s.leavers (s.leavers.setQueue s.leavers.members) :=
    .of (.queue _ _ (.inr (mem_requeued _)))
  have start : QueueOfMembers (s.leavers.setQueue s.leavers.members) := fun q => by
    rw [State.setQueue_queue, set.member q]
    exact mem_requeued _ q
  exact (moves_alternate (asks := false) _ n).queueOfMembers start

/-- After a duty event the queue holds exactly the pumps that were members at it (R23, R24). -/
theorem mem_queue_dutyEvent (s : State) (n : Nat) (p : Pump) : p ∈ (s.dutyEvent n).dsq.queue ↔ s.member p = true := by
  have all : QueueOfMembers (s.dutyEvent n) := (moves_reform _).queueOfMembers (queueOfMembers_requeue s n)
  rw [all p, (moves_dutyEvent s n).member p]

theorem contains_queue_dutyEvent (s : State) (n : Nat) (p : Pump) :
    (s.dutyEvent n).dsq.queue.contains p = s.member p := by
  rw [Bool.eq_iff_iff, List.contains_iff_mem]
  exact mem_queue_dutyEvent s n p

/-- A pump that is no member and has no run command is left alone by a duty event, but for a wait that ends. -/
theorem dutyEvent_off (s : State) (n : Nat) {p : Pump} (out : s.member p = false) (off : s.runCmd p = false) :
    (s.dutyEvent n).runCmd p = false ∧ ((s.dutyEvent n).ppr.get p).watch = (s.ppr.get p).watch ∧
      (s.dutyEvent n).point (.pump p .runMismatch) = s.point (.pump p .runMismatch) := by
  obtain ⟨off', watch, point⟩ := (moves_requeue (asks := false) s n).off (p := p) (fun e => by cases e) off
  have member : (s.requeue n).member p = false := ((moves_requeue (asks := false) s n).member p).trans out
  have gone : p ∉ (s.requeue n).dsq.queue := by
    rw [queueOfMembers_requeue s n p, member]
    exact Bool.false_ne_true
  obtain ⟨off'', watch', point'⟩ := (moves_reform (s.requeue n)).off (p := p) (fun _ => .inr ⟨gone, member⟩) off'
  exact ⟨off'', watch'.trans watch, point'.trans point⟩

/-! ### A leaver -/

theorem State.leaveQueue_runState (s : State) (p : Pump) : (s.leaveQueue p).runState p = .stopped := by
  unfold State.leaveQueue
  dsimp only
  split
  · exact State.runState_setRun_self _ p _
  · exact State.dropPump_runState _ p
  · exact State.dropPump_runState _ p
  · assumption

theorem State.leaveQueue_runState_ne (s : State) {p q : Pump} (h : q ≠ p) : (s.leaveQueue p).runState q = s.runState q := by
  rw [← s.runState_setOverride p q none]
  unfold State.leaveQueue
  dsimp only
  split
  · exact State.runState_unwait_ne _ h
  · exact State.dropPump_runState_ne _ h
  · exact State.dropPump_runState_ne _ h
  · rfl

theorem State.leaveAll_stopped (xs : List Pump) (p : Pump) (s : State) (h : p ∈ xs ∨ s.runState p = .stopped) :
    (s.each xs State.leaveQueue).runState p = .stopped := by
  induction xs generalizing s with
  | nil => exact h.resolve_left (by simp)
  | cons q rest ih =>
    refine ih _ ?_
    by_cases e : p = q
    · subst e
      exact .inr (s.leaveQueue_runState p)
    · rw [s.leaveQueue_runState_ne e]
      exact h.imp_left fun m => (List.mem_cons.mp m).resolve_left e

/-- A pump of the queue that is no member any more is stopped by the duty event (R24). -/
theorem dutyEvent_leaver (s : State) (n : Nat) {p : Pump} (queued : p ∈ s.dsq.queue) (out : s.member p = false) :
    (s.dutyEvent n).runState p = .stopped := by
  have left : s.leavers.runState p = .stopped :=
    State.leaveAll_stopped _ p s (.inl (List.mem_filter.mpr ⟨queued, by rw [out]; rfl⟩))
  have set : DutyMoves true s.leavers (s.leavers.setQueue s.leavers.members) := .of (.queue _ _ (.inr (mem_requeued _)))
  have member : (s.leavers.setQueue s.leavers.members).member p = false :=
    (set.member p).trans (((moves_leavers (asks := false) s).member p).trans out)
  have gone : p ∉ (s.leavers.setQueue s.leavers.members).dsq.queue := by
    rw [State.setQueue_queue]
    refine fun m => ?_
    have := (mem_requeued s.leavers p).mp m
    rw [(moves_leavers (asks := false) s).member p, out] at this
    cases this
  have still : (s.leavers.setQueue s.leavers.members).runState p = .stopped := by
    rw [State.runState, State.setQueue_pumps]
    exact left
  exact ((moves_alternate _ n).trans (moves_reform _)).stopped gone member still

end Sys2Proof.Machine
end

section
/-! What a write of Chapter 4's settings does (R66, R73, R75, R76, R79, R81, R185). -/

namespace Sys2Proof.Machine

/-! ### Fault durations -/

/-- The setting that holds a fault condition's duration. -/
def faultSetting : FaultCond → Setting
  | .failToStart => .startConfirmS
  | .runLost => .runLostS
  | .overtemp => .overtempS
  | .overcurrent => .ocS
  | .undercurrent => .ucS

theorem settingMoved_fault (s old : State) (c : FaultCond) :
    s.settingMoved old (faultSetting c) = (s.each No4.all fun t p => t.expireFault p c).dutyEvent old.autoCommanded := by
  cases c <;> rfl

theorem written_faultSeconds (s : State) (l : Link) (c : FaultCond) (v : Nat) :
    (s.written l (faultSetting c) v).img.faultSeconds c = v := by cases c <;> rfl

/-- A fault duration trips the pumps whose timer of that kind has run it, and no other (R66, R73). -/
theorem faultDuration_effect (s : State) (l : Link) (c : FaultCond) (v : Nat) (p : Pump) :
    let t := s.afterWrite l (faultSetting c) v
    let r := s.ppr.get p
    (ran (r.faults.get c) v s.uptime = true →
      (t.ppr.get p).trips = r.trips + 1 ∧ (t.ppr.get p).lastTrip = some (c, s.uptime) ∧
      (t.ppr.get p).faults = .allStopped ∧ (t.ppr.get p).protection.watched = false ∧
      t.runCmd p = false ∧ t.dsq.queue.contains p = false) ∧
    (ran (r.faults.get c) v s.uptime = false →
      (t.ppr.get p).trips = r.trips ∧ (t.ppr.get p).lastTrip = r.lastTrip) := by
  intro t r
  obtain ⟨u, o, same, o', turn⟩ := State.each_turn (f := fun t p => t.expireFault p c)
    (fun p u => (u.ppr.get p, u.runState p)) (fun u q => only_expireFault u q c)
    (fun u q j ne => Prod.ext (u.expireFault_other c ne).1 (u.expireFault_other c ne).2) No4.all_nodup (No4.mem_all p)
    (s.written l (faultSetting c) v)
  generalize e : (s.written l (faultSetting c) v).each No4.all (fun t p => t.expireFault p c) = w at o' turn
  have moved : t = (w.dutyEvent (s.arrived l).autoCommanded).confirmWrite l := by
    rw [← e, ← settingMoved_fault]
    rfl
  obtain ⟨at_u, run_u⟩ := Prod.ext_iff.mp same
  obtain ⟨at_w, run_w⟩ := Prod.ext_iff.mp turn
  have judged := (moves_dutyEvent w (s.arrived l).autoCommanded).judged p
  have due : u.faultRun p c = ran (r.faults.get c) v s.uptime := by
    rw [State.faultRun_eq, State.img, o .cfg (by decide), o .uptime (by decide)]
    exact congrArg₂ (ran · · s.uptime) (congrArg (·.faults.get c) at_u) (written_faultSeconds s l c v)
  rw [moved]
  have queue := contains_queue_dutyEvent w (s.arrived l).autoCommanded p
  have run := fun out off => (dutyEvent_off w (s.arrived l).autoCommanded (p := p) out off).1
  generalize w.dutyEvent (s.arrived l).autoCommanded = d at *
  refine ⟨fun late => ?_, fun early => ?_⟩
  · have trips : u.expireFault p c = u.tripPump p c := if_pos (due.trans late)
    rw [trips] at at_w run_w
    obtain ⟨⟨q, pre, self⟩, off⟩ := u.tripPump_self p c
    have now : u.uptime = s.uptime := o .uptime (by decide)
    have count : (u.ppr.get p).trips = r.trips := congrArg ProtectedPump.trips at_u
    have at_p : w.ppr.get p = _ := at_w.trans self
    have unwatched : (w.ppr.get p).protection.watched = false := by
      rw [at_p]
      exact q.tripped_watched _ _ _ _
    have out : w.member p = false := by rw [State.member, unwatched, Bool.and_false]
    have off' : w.runCmd p = false := (congrArg RunState.commanded run_w).trans off
    obtain ⟨_, faults⟩ := judged.rests (by rw [unwatched, Bool.and_false])
    refine ⟨?_, ?_, ?_, judged.watched.trans unwatched, run out off', queue.trans out⟩
    · refine judged.trips.trans ?_
      rw [at_p, ProtectedPump.tripped, count]
    · refine judged.lastTrip.trans ?_
      rw [at_p, ProtectedPump.tripped, now]
    · refine faults.trans ?_
      rw [at_p, ProtectedPump.tripped]
  · have still : u.expireFault p c = u := if_neg (by rw [due, early]; exact Bool.false_ne_true)
    rw [still] at at_w
    have at_p : w.ppr.get p = r := at_w.trans at_u
    exact ⟨judged.trips.trans (congrArg ProtectedPump.trips at_p),
      judged.lastTrip.trans (congrArg ProtectedPump.lastTrip at_p)⟩

/-! ### The lockout limit -/

theorem lockoutTrips_effect (s : State) (l : Link) (v : Nat) (accepts : s.Accepts .lockoutTrips v) :
    let t := s.afterWrite l .lockoutTrips v
    (∀ p, t.ppr.get p =
      let r := s.ppr.get p
      if r.protection = .lockedOut then { r with trips := v }
      else if v ≤ r.trips then { r with trips := v - 1, forgive := if v = 1 then none else r.forgive }
      else r) ∧
    OnlyIn [.ppr, .alm, .lnk, .cfg] s t := by
  have moved : s.afterWrite l .lockoutTrips v =
      (({ s.written l .lockoutTrips v with ppr := limitAll s.ppr v }).reportIf
        (No4.all.any fun p => ((limitAll s.ppr v).get p).trips != (s.ppr.get p).trips) .pumps).confirmWrite l := rfl
  intro t
  rw [show t = _ from moved]
  refine ⟨fun p => ?_, only_confirmed (bs := [.ppr, .alm]) ((only_ppr _ _).next (only_reportIf _ _ _))⟩
  have least : 1 ≤ v := accepts.range.1
  have one : v - 1 = 0 ↔ v = 1 := by omega
  have set : ∀ c, (({ s.written l .lockoutTrips v with ppr := limitAll s.ppr v }).reportIf c .pumps).ppr = limitAll s.ppr v :=
    fun c => only_reportIf _ c _ .ppr (by decide)
  have limited : (limitAll s.ppr v).get p = (s.ppr.get p).limit v := by cases p <;> rfl
  rw [State.ppr_confirmWrite, set, limited, ProtectedPump.limit]
  simp only [one]

/-! ### Timers that a changed duration ends -/

theorem State.condition_setWatch_self (s : State) (p : Pump) (w : Watch) :
    (s.setWatch p w).condition (.pump p .runMismatch) = w.mismatch := State.condition_setCondition_self _ _ _

theorem stopConfirmS_effect (s : State) (l : Link) (v : Nat) :
    let t := s.afterWrite l .stopConfirmS v
    (∀ p,
      (ran (s.ppr.get p).watch.stopTimer v s.uptime = true →
        t.ppr.get p = { s.ppr.get p with watch := .stopWatch none } ∧ t.condition (.pump p .runMismatch) = true) ∧
      (ran (s.ppr.get p).watch.stopTimer v s.uptime = false → t.ppr.get p = s.ppr.get p)) ∧
    OnlyIn [.ppr, .alm, .lnk, .cfg] s t := by
  have only : ∀ (t : State) (p : Pump), OnlyIn [.ppr, .alm] t (t.setWatch p (.stopWatch none)) := fun t p =>
    only_setWatch _ _ _
  have moved : s.afterWrite l .stopConfirmS v =
      ((s.written l .stopConfirmS v).each No4.all (State.lapseOf (fun t p => (t.ppr.get p).watch.stopTimer) v fun t p =>
        t.setWatch p (.stopWatch none))).confirmWrite l := rfl
  intro t
  rw [show t = _ from moved]
  refine ⟨fun p => ?_, only_confirmed (.each (only_lapseOf only) _ _)⟩
  obtain ⟨late, early⟩ := State.each_lapse (timer := fun t p => (t.ppr.get p).watch.stopTimer) (secs := v)
    (f := fun t p => t.setWatch p (.stopWatch none)) (fun p u => (u.ppr.get p, u.condition (.pump p .runMismatch))) only
    (fun t p q ne => by
      rw [State.setWatch_ppr, Quad.get_modify_ne _ _ ne, (points_setWatch _ _ _).condition (by simpa using ne)])
    (fun s t p same => congrArg (fun r : ProtectedPump × Bool => r.1.watch.stopTimer) same) (by decide) No4.all_nodup
    (No4.mem_all p) (s.written l .stopConfirmS v)
  refine ⟨fun ended => ?_, fun running => congrArg Prod.fst (early running)⟩
  obtain ⟨u, _, same, _, turn⟩ := late ended
  refine ⟨(congrArg Prod.fst turn).trans ?_, (congrArg Prod.snd turn).trans (u.condition_setWatch_self p _)⟩
  dsimp only
  rw [State.setWatch_ppr, Quad.get_modify_self]
  exact congrArg (fun r : ProtectedPump × Bool => { r.1 with watch := .stopWatch none }) same

theorem State.forgive_ppr (s : State) (p : Pump) :
    (s.forgive p).ppr = s.ppr.modify p fun r =>
      if r.trips = 0 ∨ r.protection = .lockedOut then { r with forgive := none }
      else { r with trips := r.trips - 1, forgive := if r.trips - 1 = 0 then none else some s.uptime } := by
  unfold State.forgive
  dsimp only
  split
  · rename_i h
    simp only [State.modProt_ppr, Quad.modify, h, if_true]
  · rename_i h
    simp only [State.report_ppr, State.modProt_ppr, Quad.modify, h, if_false]

theorem tripForgiveS_effect (s : State) (l : Link) (v : Nat) :
    let t := s.afterWrite l .tripForgiveS v
    (∀ p,
      let r := s.ppr.get p
      (ran r.forgive v s.uptime = true → r.trips ≠ 0 → r.protection ≠ .lockedOut →
        t.ppr.get p =
          { r with trips := r.trips - 1, forgive := if r.trips = 1 then none else some s.uptime }) ∧
      (ran r.forgive v s.uptime = false → t.ppr.get p = r)) ∧
    OnlyIn [.ppr, .alm, .lnk, .cfg] s t := by
  have only : ∀ (t : State) (p : Pump), OnlyIn [.ppr, .alm] t (t.forgive p) := fun t p => (only_forgive t p).mono (by decide)
  have moved : s.afterWrite l .tripForgiveS v =
      ((s.written l .tripForgiveS v).each No4.all
        (State.lapseOf (fun t p => (t.ppr.get p).forgive) v State.forgive)).confirmWrite l := rfl
  intro t
  rw [show t = _ from moved]
  refine ⟨fun p => ?_, only_confirmed (.each (only_lapseOf only) _ _)⟩
  obtain ⟨late, early⟩ := State.each_lapse (timer := fun t p => (t.ppr.get p).forgive) (secs := v)
    (f := State.forgive) (fun p u => u.ppr.get p) only
    (fun t p q ne => by rw [State.forgive_ppr, Quad.get_modify_ne _ _ ne])
    (fun s t p same => congrArg ProtectedPump.forgive same) (by decide) No4.all_nodup (No4.mem_all p)
    (s.written l .tripForgiveS v)
  refine ⟨fun ended some_trip in_use => ?_, early⟩
  obtain ⟨u, o, same, _, turn⟩ := late ended
  refine turn.trans ?_
  have same : u.ppr.get p = s.ppr.get p := same
  have one : (s.ppr.get p).trips - 1 = 0 ↔ (s.ppr.get p).trips = 1 := by omega
  rw [State.forgive_ppr, Quad.get_modify_self, same, if_neg (not_or.mpr ⟨some_trip, in_use⟩), o .uptime (by decide)]
  simp only [one]
  rfl

/-! ### Rests -/

/-- A pump back from its rest, before its OVERTEMP contact is met (R75). -/
def State.rested (s : State) (p : Pump) : State :=
  (((s.modProt p fun r => { r with protection := .healthy, rest := none, awaitingCool := false }).report
    .pumps).setCondition (.pump p .trip) false).judgeFaults p

theorem State.ppr_setCondition (s : State) (a : AlarmPoint) (b : Bool) : (s.setCondition a b).ppr = s.ppr :=
  only_setCondition s a b .ppr (by decide)

theorem State.recover_eq (s : State) (p : Pump) : s.recover p = (s.rested p).overtempAtOnce p := rfl

theorem State.recover_other (s : State) {p q : Pump} (h : q ≠ p) :
    (s.recover p).ppr.get q = s.ppr.get q ∧ (s.recover p).condition (.pump q .trip) = s.condition (.pump q .trip) := by
  have n : AlarmPoint.pump q .trip ≠ .pump p .trip := by simpa using h
  constructor
  · rw [State.recover_eq, (State.overtempAtOnce_other _ h).1, State.rested, State.judgeFaults_ppr_ne _ h,
      State.ppr_setCondition]
    exact Quad.get_modify_ne _ _ h
  · rw [State.recover_eq, (points_overtempAtOnce _ p).condition (not_mem_pumpPoints h _), State.rested,
      (points_judgeFaults (A := ∅) _ p).condition (by simp), State.condition_setCondition_ne _ _ n]
    rfl

/-- The OVERTEMP timer of an installed pump in HEALTHY or ALERT follows its contact when the conditions are judged (R65, R66). -/
theorem State.judgeFaults_overtemp (s : State) (p : Pump) (installed : s.pumpIn p = true)
    (watched : (s.ppr.get p).protection.watched = true) :
    ((s.judgeFaults p).ppr.get p).faults.overtemp =
      if s.inputs.overtemp.get p then some (((s.ppr.get p).faults.overtemp).getD s.uptime) else none := by
  rw [State.judgeFaults_ppr, installed, watched, Bool.and_self, if_pos rfl, Quad.get_modify_self]
  exact s.faultTimersNow_overtemp p

/-- A cool installed pump comes back from its rest without a trip (R75). -/
theorem State.recover_cool (s : State) (p : Pump) (installed : s.pumpIn p = true) (cool : s.inputs.overtemp.get p = false) :
    ((s.recover p).ppr.get p).protection.watched = true ∧ ((s.recover p).ppr.get p).rest = none ∧
      ((s.recover p).ppr.get p).trips = (s.ppr.get p).trips ∧ (s.recover p).condition (.pump p .trip) = false := by
  have healthy : ((((s.modProt p fun r => { r with protection := .healthy, rest := none, awaitingCool := false }).report
      .pumps).setCondition (.pump p .trip) false).ppr.get p) =
      { s.ppr.get p with protection := .healthy, rest := none, awaitingCool := false } := by
    rw [State.ppr_setCondition]
    exact Quad.get_modify_self _ _ _
  have shown := State.condition_setCondition_self ((s.modProt p fun r =>
    { r with protection := .healthy, rest := none, awaitingCool := false }).report .pumps) (.pump p .trip) false
  have only : OnlyIn [.ppr, .alm] s (((s.modProt p fun r =>
      { r with protection := .healthy, rest := none, awaitingCool := false }).report .pumps).setCondition (.pump p .trip) false) :=
    ((only_modProt s p _).next (cs := [.ppr, .alm]) (only_report _ _)).next (only_setCondition _ _ _)
  rw [State.recover_eq, State.rested]
  generalize ((s.modProt p fun r => { r with protection := .healthy, rest := none, awaitingCool := false }).report
      .pumps).setCondition (.pump p .trip) false = h at *
  have installed' : h.pumpIn p = true := by
    rw [State.pumpIn, State.img, only .cfg (by decide)]
    exact installed
  have stopped : ((h.judgeFaults p).ppr.get p).faults.overtemp = none := by
    rw [h.judgeFaults_overtemp p installed' (by rw [healthy]; rfl), only .inputs (by decide), cool, if_neg Bool.false_ne_true]
  have still := State.overtempAtOnce_of_none (h.judgeFaults p) p stopped
  have judged := judged_judgeFaults h p p
  rw [still]
  refine ⟨judged.watched.trans (by rw [healthy]; rfl), judged.rest.trans (by rw [healthy]), judged.trips.trans (by rw [healthy]),
    ((points_judgeFaults (A := ∅) h p).condition (by simp)).trans shown⟩

/-- A rest that ends: to await cool, or back to HEALTHY (R75). -/
def State.restOver (s : State) (p : Pump) : State := if s.inputs.overtemp.get p then s.awaitCool p else s.recover p

theorem only_restOver (s : State) (p : Pump) : OnlyIn tripParts s (s.restOver p) :=
  .choose _ ((only_modProt s p _).mono (by decide)) (only_recover s p)

theorem State.restOver_other (s : State) {p q : Pump} (h : q ≠ p) :
    (s.restOver p).ppr.get q = s.ppr.get q ∧ (s.restOver p).condition (.pump q .trip) = s.condition (.pump q .trip) := by
  unfold State.restOver
  split
  · exact ⟨Quad.get_modify_ne _ _ h, rfl⟩
  · exact s.recover_other h

theorem tripRestS_effect (s : State) (l : Link) (v : Nat) (trips : TripsOk s) (p : Pump) :
    let t := s.afterWrite l .tripRestS v
    let r := s.ppr.get p
    (ran r.rest v s.uptime = true →
      (s.inputs.overtemp.get p = true →
        (t.ppr.get p).rest = none ∧ (t.ppr.get p).awaitingCool = true ∧ (t.ppr.get p).trips = r.trips ∧
        (t.ppr.get p).protection.watched = r.protection.watched) ∧
      (s.inputs.overtemp.get p = false →
        (t.ppr.get p).protection.watched = true ∧ (t.ppr.get p).rest = none ∧ (t.ppr.get p).trips = r.trips ∧
        t.condition (.pump p .trip) = false ∧ (s.inAuto p = true → t.dsq.queue.contains p = true))) ∧
    (ran r.rest v s.uptime = false → (t.ppr.get p).rest = r.rest ∧ (t.ppr.get p).trips = r.trips) := by
  intro t r
  obtain ⟨late, early⟩ := State.each_lapse (timer := fun t p => (t.ppr.get p).rest) (secs := v) (f := State.restOver)
    (fun p u => (u.ppr.get p, u.condition (.pump p .trip))) only_restOver
    (fun t p q ne => Prod.ext (t.restOver_other ne).1 (t.restOver_other ne).2)
    (fun s t p same => congrArg (fun r : ProtectedPump × Bool => r.1.rest) same) (by decide) No4.all_nodup (No4.mem_all p)
    (s.written l .tripRestS v)
  have all : OnlyIn tripParts (s.written l .tripRestS v)
      ((s.written l .tripRestS v).each No4.all (State.lapseOf (fun t p => (t.ppr.get p).rest) v State.restOver)) :=
    .each (only_lapseOf only_restOver) _ _
  have moved : t = (((s.written l .tripRestS v).each No4.all
      (State.lapseOf (fun t p => (t.ppr.get p).rest) v State.restOver)).dutyEvent (s.arrived l).autoCommanded).confirmWrite l := rfl
  generalize (s.written l .tripRestS v).each No4.all (State.lapseOf (fun t p => (t.ppr.get p).rest) v State.restOver) = w at *
  have judged := (moves_dutyEvent w (s.arrived l).autoCommanded).judged p
  have queue := contains_queue_dutyEvent w (s.arrived l).autoCommanded p
  have shown := (moves_dutyEvent w (s.arrived l).autoCommanded).points.condition (a := .pump p .trip) (by simp [mismatchPoints])
  generalize w.dutyEvent (s.arrived l).autoCommanded = d at *
  rw [moved]
  refine ⟨fun ended => ?_, fun running => ?_⟩
  · obtain ⟨u, o, same, _, turn⟩ := late ended
    have at_u : u.ppr.get p = r := congrArg Prod.fst same
    have at_w : w.ppr.get p = (u.restOver p).ppr.get p := congrArg Prod.fst turn
    have contact : u.inputs.overtemp.get p = s.inputs.overtemp.get p := by rw [o .inputs (by decide)]; rfl
    refine ⟨fun hot => ?_, fun cool => ?_⟩
    · have waits : (u.restOver p).ppr.get p = { r with rest := none, awaitingCool := true } := by
        rw [State.restOver, contact, hot, if_pos rfl, ← at_u]
        exact Quad.get_modify_self _ _ _
      rw [waits] at at_w
      exact ⟨judged.rest.trans (by rw [at_w]), judged.awaitingCool.trans (by rw [at_w]), judged.trips.trans (by rw [at_w]),
        judged.watched.trans (by rw [at_w])⟩
    · have installed : u.pumpIn p = true := by
        rw [State.pumpIn, State.img, o .cfg (by decide)]
        refine ((trips p).rest ?_).2
        cases rest : (s.ppr.get p).rest with
        | none =>
          rw [show r.rest = none from rest] at ended
          cases ended
        | some _ => rfl
      obtain ⟨watched, rest, count, clear⟩ := u.recover_cool p installed (contact.trans cool)
      have back : u.restOver p = u.recover p := by
        rw [State.restOver, contact, cool, if_neg Bool.false_ne_true]
      rw [back] at at_w turn
      rw [← at_w] at watched rest count
      have member : w.member p = s.inAuto p := by
        rw [State.member, watched, Bool.and_true, State.inAuto_congr (all .inputs (by decide)) (all .cfg (by decide))]
        rfl
      refine ⟨judged.watched.trans watched, judged.rest.trans rest, judged.trips.trans (count.trans (by rw [at_u])), ?_,
        fun auto => queue.trans (member.trans auto)⟩
      exact shown.trans ((congrArg Prod.snd turn).trans clear)
  · have at_w : w.ppr.get p = r := congrArg Prod.fst (early running)
    exact ⟨judged.rest.trans (congrArg ProtectedPump.rest at_w), judged.trips.trans (congrArg ProtectedPump.trips at_w)⟩

end Sys2Proof.Machine
end

section
/-! Pumps that a write of `pumps_installed` takes out or puts in (R23, R24, R66, R85, R144). -/

namespace Sys2Proof.Machine

/-! ### A pump's own part -/

/-- What the installation of a pump can move: its protection, its five alarm points and its run state. -/
def pumpPart (p : Pump) (s : State) : ProtectedPump × (PumpAlarm → PointEntry) × RunState :=
  (s.ppr.get p, fun k => s.point (.pump p k), s.runState p)

theorem pumpPart_eq {p : Pump} {s t : State} (ppr : t.ppr.get p = s.ppr.get p)
    (points : ∀ k, t.point (.pump p k) = s.point (.pump p k)) (run : t.runState p = s.runState p) :
    pumpPart p t = pumpPart p s := by
  simp only [pumpPart, ppr, points, run]

/-- A note that is not of a pump leaves its part alone. -/
theorem Noted.pumpPart {A : Set AlarmPoint} {s t : State} (h : Noted A s t) {p : Pump} (ppr : t.ppr.get p = s.ppr.get p)
    (other : ∀ k, AlarmPoint.pump p k ∉ A) : Machine.pumpPart p t = Machine.pumpPart p s :=
  pumpPart_eq ppr (fun k => h.points _ (other k)) (by rw [State.runState, State.runState, h.dsq])

/-! ### Uninstallation -/

theorem points_each_clear (as : List AlarmPoint) (s : State) :
    OnlyPoints {a | a ∈ as} s (s.each as State.clearPoint) := by
  induction as generalizing s with
  | nil => exact .refl _ _
  | cons a rest ih =>
    refine ((points_clearPoint s a).mono ?_).trans ((ih _).mono fun x hx => List.mem_cons_of_mem _ hx)
    exact Set.singleton_subset_iff.mpr List.mem_cons_self

theorem only_uninstallPump (s : State) (p : Pump) : OnlyIn [.ppr, .alm] s (s.uninstallPump p) :=
  ((only_modProt s p _).next (cs := [.ppr, .alm]) (only_report _ _)).next (.each only_clearPoint _ _)

theorem State.uninstallPump_ppr (s : State) (p : Pump) :
    (s.uninstallPump p).ppr = s.ppr.modify p ProtectedPump.uninstalled :=
  OnlyIn.each only_clearPoint _ _ .ppr (by decide)

theorem points_uninstallPump (s : State) (p : Pump) : OnlyPoints (pumpPoints p) s (s.uninstallPump p) := by
  refine ((OnlyPoints.of_only (only_modProt s p _) (by decide)).trans (points_report _ _)).trans
    ((points_each_clear _ _).mono fun a ha => ?_)
  obtain ⟨k, _, e⟩ := List.mem_map.mp ha
  exact ⟨k, e⟩

theorem PumpAlarm.mem_all (k : PumpAlarm) : k ∈ PumpAlarm.all := by cases k <;> decide

/-- Of the points cleared one after another, each ends CLEAR (R144). -/
theorem condition_each_clear (as : List AlarmPoint) (s : State) {a : AlarmPoint} (h : a ∈ as ∨ s.condition a = false) :
    (s.each as State.clearPoint).condition a = false := by
  induction as generalizing s with
  | nil => exact h.resolve_left (by simp)
  | cons b rest ih =>
    refine ih _ ?_
    by_cases e : a = b
    · subst e
      exact .inr (State.condition_clearPoint_self _ _)
    · rw [(points_clearPoint s b).condition (by simpa using e)]
      exact h.imp_left fun m => (List.mem_cons.mp m).resolve_left e

theorem State.condition_uninstallPump (s : State) (p : Pump) (k : PumpAlarm) :
    (s.uninstallPump p).condition (.pump p k) = false :=
  condition_each_clear _ _ (.inl (List.mem_map.mpr ⟨k, PumpAlarm.mem_all k, rfl⟩))

theorem pumpPart_uninstallPump_ne (s : State) (p q : Pump) (h : q ≠ p) :
    pumpPart q (s.uninstallPump p) = pumpPart q s :=
  pumpPart_eq (by rw [State.uninstallPump_ppr, Quad.get_modify_ne _ _ h])
    (fun k => points_uninstallPump s p _ (not_mem_pumpPoints h k))
    (by rw [State.runState, State.runState, only_uninstallPump s p .dsq (by decide)])

/-! ### Channels -/

theorem only_followInstall (s : State) (ch : Channel) : OnlyIn [.lvu, .alm] s (s.followInstall ch) := by
  unfold State.followInstall
  split
  · exact (only_setChan s ch _).next (only_report _ _)
  · dsimp only
    split
    · exact ((only_lvu s _).next (cs := [.lvu, .alm]) (only_report _ _)).next (only_clearPoint _ _)
    · exact (only_lvu s _).next (only_report _ _)
  · exact .refl _ _

theorem only_followInstalls (s : State) : OnlyIn [.lvu, .alm] s s.followInstalls := .each only_followInstall _ _

/-- The fault points of the channels. -/
def channelFaults : Set AlarmPoint := {.wellPriFault, .wellSecFault, .inletFault, .screenOutFault}

theorem points_followInstall (s : State) (ch : Channel) : OnlyPoints channelFaults s (s.followInstall ch) := by
  unfold State.followInstall
  split
  · exact (OnlyPoints.of_only (only_setChan s ch _) (by decide)).trans (points_report _ _)
  · dsimp only
    have gone : OnlyPoints channelFaults s (({ s with lvu := s.lvu.setChan ch none }).report .levels) :=
      (OnlyPoints.of_only (only_lvu s _) (by decide)).trans (points_report _ _)
    split
    · rename_i a e
      refine gone.trans ((points_clearPoint _ a).mono (Set.singleton_subset_iff.mpr ?_))
      cases ch <;> cases e <;> simp [channelFaults]
    · exact gone
  · exact .refl _ _

theorem points_followInstalls (s : State) : OnlyPoints channelFaults s s.followInstalls := .each points_followInstall _ _

theorem pumpPart_followInstalls (s : State) (p : Pump) : pumpPart p s.followInstalls = pumpPart p s :=
  pumpPart_eq (by rw [only_followInstalls s .ppr (by decide)]) (fun k => points_followInstalls s _ (by simp [channelFaults]))
    (by rw [State.runState, State.runState, only_followInstalls s .dsq (by decide)])

/-! ### Installation -/

/-- A pump met at its installation, before its conditions are judged (R85). -/
def ProtectedPump.met (r : ProtectedPump) (now : Nat) (leak watched : Bool) (w : Watch) : ProtectedPump :=
  { r with
    forgive := if r.trips ≠ 0 ∧ r.protection ≠ .lockedOut then some now else none
    sealTimer := if leak then some now else none
    watch := if watched then w else .idle }

/-- The state in which a pump has been met, its fault conditions still to be judged. -/
def State.meet (s : State) (p : Pump) (w : Watch) : State :=
  ((s.modProt p (·.met s.uptime (s.inputs.sealLeak.get p) (s.inAuto p && s.runFb p) w)).setCondition (.pump p .lockout)
    ((s.ppr.get p).protection == .lockedOut)).setCondition (.pump p .switchFault) (s.mode p == some .switchFault)

theorem State.judgePump_eq (s : State) (p : Pump) (w : Watch) : s.judgePump p w = (s.meet p w).judgeFaults p := rfl

theorem only_meet (s : State) (p : Pump) (w : Watch) : OnlyIn [.ppr, .alm] s (s.meet p w) :=
  ((only_modProt s p _).next (cs := [.ppr, .alm]) (only_setCondition _ _ _)).next (only_setCondition _ _ _)

theorem State.meet_ppr (s : State) (p : Pump) (w : Watch) :
    (s.meet p w).ppr.get p = (s.ppr.get p).met s.uptime (s.inputs.sealLeak.get p) (s.inAuto p && s.runFb p) w := by
  rw [State.meet, State.ppr_setCondition, State.ppr_setCondition]
  exact Quad.get_modify_self _ _ _

theorem State.meet_lockout (s : State) (p : Pump) (w : Watch) :
    (s.meet p w).condition (.pump p .lockout) = ((s.ppr.get p).protection == .lockedOut) := by
  rw [State.meet, State.condition_setCondition_ne _ _ (by simp), State.condition_setCondition_self]

theorem State.meet_switchFault (s : State) (p : Pump) (w : Watch) :
    (s.meet p w).condition (.pump p .switchFault) = (s.mode p == some .switchFault) :=
  State.condition_setCondition_self _ _ _

/-- What an installation or a start makes of a pump it meets (R85, R86). -/
structure Met (s : State) (p : Pump) (w : Watch) (t : State) : Prop where
  judged : ProtectedPump.Judged (s.pumpIn p) (s.inputs.overtemp.get p)
    ((s.ppr.get p).met s.uptime (s.inputs.sealLeak.get p) (s.inAuto p && s.runFb p) w) (t.ppr.get p)
  watch : (t.ppr.get p).watch = if s.inAuto p && s.runFb p then w else .idle
  overtemp : s.pumpIn p = true → (s.ppr.get p).protection.watched = true → (s.ppr.get p).faults = .allStopped →
    (t.ppr.get p).faults.overtemp = if s.inputs.overtemp.get p then some s.uptime else none
  lockout : t.condition (.pump p .lockout) = ((s.ppr.get p).protection == .lockedOut)
  switchFault : t.condition (.pump p .switchFault) = (s.mode p == some .switchFault)

theorem met_judgePump (s : State) (p : Pump) (w : Watch) : Met s p w (s.judgePump p w) := by
  have only := only_meet s p w
  have ppr := s.meet_ppr p w
  have lockout := s.meet_lockout p w
  have switchFault := s.meet_switchFault p w
  rw [State.judgePump_eq]
  generalize s.meet p w = u at *
  have installed : u.pumpIn p = s.pumpIn p := State.pumpIn_congr (only .inputs (by decide)) (only .cfg (by decide)) p
  have inputs : u.inputs = s.inputs := only .inputs (by decide)
  refine ⟨?_, ?_, fun inn watched stopped => ?_, ?_, ?_⟩
  · have judged := judged_judgeFaults u p p
    rwa [ppr, installed, inputs] at judged
  · rw [State.judgeFaults_watch, ppr, ProtectedPump.met]
  · rw [u.judgeFaults_overtemp p (installed.trans inn) (by rw [ppr]; exact watched), ppr, inputs,
      show u.uptime = s.uptime from only .uptime (by decide), ProtectedPump.met, stopped]
    rfl
  · exact ((points_judgeFaults (A := ∅) u p).condition (by simp)).trans lockout
  · exact ((points_judgeFaults (A := ∅) u p).condition (by simp)).trans switchFault

theorem noted_installPump (s : State) (p : Pump) : Noted (pumpPoints p) s (s.installPump p) :=
  (noted_report s _).trans (noted_judgePump _ _ _)

theorem met_installPump (s : State) (p : Pump) : Met s p (.uncommanded (some s.uptime)) (s.installPump p) := by
  obtain ⟨judged, watch, overtemp, lockout, switchFault⟩ :=
    met_judgePump (s.report .pumps) p (.uncommanded (some s.uptime))
  exact ⟨judged, watch, overtemp, lockout, switchFault⟩

theorem State.judgePump_ppr_ne (s : State) {p q : Pump} (w : Watch) (h : q ≠ p) :
    (s.judgePump p w).ppr.get q = s.ppr.get q := by
  rw [State.judgePump_eq, State.judgeFaults_ppr_ne _ h, State.meet, State.ppr_setCondition, State.ppr_setCondition]
  exact Quad.get_modify_ne _ _ h

theorem pumpPart_installPump_ne (s : State) (p q : Pump) (h : q ≠ p) : pumpPart q (s.installPump p) = pumpPart q s :=
  (noted_installPump s p).pumpPart (State.judgePump_ppr_ne _ _ h) fun k => not_mem_pumpPoints h k

theorem pumpPart_overtempAtOnce_ne (s : State) (p q : Pump) (h : q ≠ p) :
    pumpPart q (s.overtempAtOnce p) = pumpPart q s :=
  pumpPart_eq (s.overtempAtOnce_other h).1 (fun k => points_overtempAtOnce s p _ (not_mem_pumpPoints h k))
    (s.overtempAtOnce_other h).2

/-! ### A write of `pumps_installed` -/

/-- The pumps taken out, those put in, and the hot ones tripped, before the duty event of the write. -/
def State.pumpsSettled (s : State) (old : State) : State :=
  (((s.each (No4.all.filter fun p => old.pumpIn p && !s.pumpIn p) State.uninstallPump).followInstalls.each
    (No4.all.filter fun p => s.pumpIn p && !old.pumpIn p) State.installPump).each
    (No4.all.filter fun p => s.pumpIn p && !old.pumpIn p) State.overtempAtOnce)

theorem only_pumpsSettled (s old : State) : OnlyIn [.lvu, .dsq, .ppr, .fbl, .alm, .src] s (s.pumpsSettled old) :=
  (((OnlyIn.mono (.each only_uninstallPump _ _) (by decide)).trans ((only_followInstalls _).mono (by decide))).trans
    (OnlyIn.mono (.each (fun t p => (noted_installPump t p).only) _ _) (by decide))).trans
    (OnlyIn.mono (.each only_overtempAtOnce _ _) (by decide))

theorem State.overtempAtOnce_queue (s : State) (p : Pump) : (s.overtempAtOnce p).dsq.queue = s.dsq.queue := by
  have trip : (s.tripPump p .overtemp).dsq.queue = s.dsq.queue := by
    rw [tripPump_eq, State.recordTrip_dsq]
    split
    · rw [State.dropPump_dsq]
    · rfl
  unfold State.overtempAtOnce State.expireFault
  split
  · split
    · exact trip
    · rfl
  · rfl

theorem State.pumpsSettled_queue (s old : State) : (s.pumpsSettled old).dsq.queue = s.dsq.queue := by
  have before : ∀ t : State, ∀ xs : List Pump, (t.each xs State.overtempAtOnce).dsq.queue = t.dsq.queue := fun t xs =>
    t.each_keeps State.overtempAtOnce (·.dsq.queue) State.overtempAtOnce_queue xs
  rw [State.pumpsSettled, before]
  exact congrArg DutySequencer.queue
    ((((OnlyIn.mono (bs := [.lvu, .ppr, .alm, .src]) (.each only_uninstallPump _ _) (by decide)).trans
      ((only_followInstalls _).mono (by decide))).trans
      (OnlyIn.mono (.each (fun t p => (noted_installPump t p).only) _ _) (by decide))) .dsq (by decide))

/-- A pump taken out: its protection and its points cleared, its run state not yet met (R85). -/
theorem pumpsSettled_gone (s old : State) (p : Pump) (was : old.pumpIn p = true) (out : s.pumpIn p = false) :
    (s.pumpsSettled old).ppr.get p = (s.ppr.get p).uninstalled ∧
      ∀ k, (s.pumpsSettled old).condition (.pump p k) = false := by
  have absent : p ∉ No4.all.filter fun p => s.pumpIn p && !old.pumpIn p := by simp [out]
  have present : p ∈ No4.all.filter fun p => old.pumpIn p && !s.pumpIn p := by simp [out, was, No4.mem_all]
  obtain ⟨u, _, same, _, turn⟩ := State.each_turn pumpPart only_uninstallPump pumpPart_uninstallPump_ne
    (No4.all_nodup.filter _) present s
  have part : pumpPart p (s.pumpsSettled old) = pumpPart p (u.uninstallPump p) := by
    rw [State.pumpsSettled, State.each_other pumpPart pumpPart_overtempAtOnce_ne absent,
      State.each_other pumpPart pumpPart_installPump_ne absent, pumpPart_followInstalls, turn]
  refine ⟨(congrArg Prod.fst part).trans ?_, fun k => ?_⟩
  · rw [pumpPart, State.uninstallPump_ppr, Quad.get_modify_self]
    exact congrArg ProtectedPump.uninstalled (congrArg Prod.fst same)
  · exact (congrArg (fun q : ProtectedPump × (PumpAlarm → PointEntry) × RunState => (q.2.1 k).state.present) part).trans
      (u.condition_uninstallPump p k)

/-- A pump put in: it is met as it stood, and trips at once where it is then hot with `overtemp_s` 0 (R66, R85). -/
theorem pumpsSettled_come (s old : State) (p : Pump) (was : old.pumpIn p = false) (inn : s.pumpIn p = true) :
    ∃ a b, OnlyIn [.lvu, .ppr, .alm, .src] s a ∧ pumpPart p a = pumpPart p s ∧
      OnlyIn [.lvu, .dsq, .ppr, .fbl, .alm, .src] s b ∧ pumpPart p b = pumpPart p (a.installPump p) ∧
      pumpPart p (s.pumpsSettled old) = pumpPart p (b.overtempAtOnce p) := by
  have absent : p ∉ No4.all.filter fun p => old.pumpIn p && !s.pumpIn p := by simp [was]
  have present : p ∈ No4.all.filter fun p => s.pumpIn p && !old.pumpIn p := by simp [inn, was, No4.mem_all]
  have only_install : ∀ t p, OnlyIn [.ppr, .alm, .src] t (t.installPump p) := fun t p => (noted_installPump t p).only
  have gone := (OnlyIn.mono (bs := [.lvu, .ppr, .alm, .src]) (.each only_uninstallPump
    (No4.all.filter fun p => old.pumpIn p && !s.pumpIn p) s) (by decide)).trans ((only_followInstalls _).mono (by decide))
  have kept : pumpPart p (s.each (No4.all.filter fun p => old.pumpIn p && !s.pumpIn p) State.uninstallPump).followInstalls =
      pumpPart p s := by
    rw [pumpPart_followInstalls, State.each_other pumpPart pumpPart_uninstallPump_ne absent]
  unfold State.pumpsSettled
  generalize (s.each (No4.all.filter fun p => old.pumpIn p && !s.pumpIn p) State.uninstallPump).followInstalls = c at *
  obtain ⟨a, o, same, _, turn⟩ := State.each_turn pumpPart only_install pumpPart_installPump_ne (No4.all_nodup.filter _)
    present c
  have installs := OnlyIn.each only_install (No4.all.filter fun p => s.pumpIn p && !old.pumpIn p) c
  generalize c.each (No4.all.filter fun p => s.pumpIn p && !old.pumpIn p) State.installPump = d at *
  obtain ⟨b, o', same', _, turn'⟩ := State.each_turn pumpPart only_overtempAtOnce pumpPart_overtempAtOnce_ne
    (No4.all_nodup.filter _) present d
  exact ⟨a, b, gone.trans (o.mono (by decide)), same.trans kept,
    ((gone.mono (by decide)).trans (installs.mono (by decide))).trans (o'.mono (by decide)), same'.trans turn, turn'⟩

/-- A pump outside AUTO for want of installation stays out of every later move of the event. -/
theorem dutyEvent_outside_auto (s : State) (n : Nat) {p : Pump} (auto : s.inAuto p = false) :
    ((s.dutyEvent n).ppr.get p).watch = (s.ppr.get p).watch ∧
      (s.dutyEvent n).point (.pump p .runMismatch) = s.point (.pump p .runMismatch) := by
  have out : s.member p = false := by rw [State.member, auto, Bool.false_and]
  obtain ⟨watch, point⟩ := (moves_requeue (asks := false) s n).outside_auto auto (fun e => by cases e)
  have auto' : (s.requeue n).inAuto p = false :=
    (State.inAuto_congr ((moves_requeue (asks := false) s n).only .inputs (by decide))
      ((moves_requeue (asks := false) s n).only .cfg (by decide)) p).trans auto
  have member : (s.requeue n).member p = false := ((moves_requeue (asks := false) s n).member p).trans out
  have gone : p ∉ (s.requeue n).dsq.queue := by
    rw [queueOfMembers_requeue s n p, member]
    exact Bool.false_ne_true
  obtain ⟨watch', point'⟩ := (moves_reform (s.requeue n)).outside_auto auto' (fun _ => .inr ⟨gone, member⟩)
  exact ⟨watch'.trans watch, point'.trans point⟩

/-- The state that a write of `pumps_installed` leaves before its answer is formed. -/
def State.pumpsMoved (s : State) (l : Link) (v : Nat) : State :=
  ((s.written l .pumpsInstalled v).pumpsSettled (s.arrived l)).dutyEvent (s.arrived l).autoCommanded

theorem afterWrite_pumpsInstalled (s : State) (l : Link) (v : Nat) :
    s.afterWrite l .pumpsInstalled v = (s.pumpsMoved l v).judgeOutputs.confirmWrite l := rfl

theorem mode_of_out (s : State) (p : Pump) (out : s.pumpIn p = false) : s.mode p = none := by
  rw [State.mode, out]
  rfl

theorem pumpsInstalled_gone (s : State) (l : Link) (v : Nat) (p : Pump) (was : s.pumpIn p = true) (out : v < p.toNat) :
    let r := s.ppr.get p
    let t := s.afterWrite l .pumpsInstalled v
    let q := t.ppr.get p
    q.protection = (if r.protection = .lockedOut then .lockedOut else .healthy) ∧ q.trips = r.trips ∧
      q.faults = .allStopped ∧ q.rest = none ∧ q.awaitingCool = false ∧ q.forgive = none ∧ q.sealTimer = none ∧
      q.sealLeak = false ∧ q.watch = .idle ∧ (∀ k, t.condition (.pump p k) = false) ∧ t.mode p = none ∧
      t.dsq.queue.contains p = false ∧ (s.dsq.queue.contains p = true → t.runState p = .stopped) := by
  intro r
  have gone : (s.written l .pumpsInstalled v).pumpIn p = false := decide_eq_false (Nat.not_le.mpr out)
  obtain ⟨ppr, clear⟩ := pumpsSettled_gone (s.written l .pumpsInstalled v) (s.arrived l) p was gone
  have queue := (s.written l .pumpsInstalled v).pumpsSettled_queue (s.arrived l)
  have settled := only_pumpsSettled (s.written l .pumpsInstalled v) (s.arrived l)
  rw [afterWrite_pumpsInstalled, State.pumpsMoved]
  generalize (s.written l .pumpsInstalled v).pumpsSettled (s.arrived l) = w at *
  have moves := moves_dutyEvent w (s.arrived l).autoCommanded
  have out_w : w.pumpIn p = false :=
    (State.pumpIn_congr (settled .inputs (by decide)) (settled .cfg (by decide)) p).trans gone
  have auto : w.inAuto p = false := by rw [State.inAuto, mode_of_out w p out_w]; rfl
  have member : w.member p = false := by rw [State.member, auto, Bool.false_and]
  have judged := moves.judged p
  obtain ⟨watch, mismatch⟩ := dutyEvent_outside_auto w (s.arrived l).autoCommanded auto
  have contains := contains_queue_dutyEvent w (s.arrived l).autoCommanded p
  have leaver := fun queued => dutyEvent_leaver w (s.arrived l).autoCommanded (p := p) queued member
  have points := moves.points
  have out_d := (State.pumpIn_congr (moves.only .inputs (by decide)) (moves.only .cfg (by decide)) p).trans out_w
  generalize w.dutyEvent (s.arrived l).autoCommanded = d at *
  intro t q
  obtain ⟨protection, faults⟩ := judged.rests (by rw [out_w, Bool.false_and])
  refine ⟨protection.trans ?_, judged.trips.trans ?_, faults.trans ?_, judged.rest.trans ?_, judged.awaitingCool.trans ?_,
    judged.forgive.trans ?_, judged.sealTimer.trans ?_, judged.sealLeak.trans ?_, watch.trans ?_, fun k => ?_,
    mode_of_out d p out_d, contains.trans member, fun queued => leaver ?_⟩
  iterate 9 rw [ppr]; rfl
  · by_cases mine : k = .runMismatch
    · subst mine
      exact (congrArg (fun e : PointEntry => e.state.present) mismatch).trans (clear _)
    · have n : AlarmPoint.pump p k ∉ mismatchPoints := by
        rintro ⟨x, e⟩
        cases e
        exact mine rfl
      exact (points.condition n).trans (clear k)
  · rw [queue]
    exact List.contains_iff_mem.mp queued

theorem mode_settled {s t : State} {bs : List Block} (o : OnlyIn bs s t) (i : Block.inputs ∉ bs) (c : Block.cfg ∉ bs) (p : Pump) :
    t.mode p = s.mode p := State.mode_congr (o .inputs i) (o .cfg c) p

/-- A pump put in that does not trip at once: what the write leaves of it before the duty event. -/
theorem pumpsSettled_cool (s : State) (l : Link) (v : Nat) (p : Pump) (ok : TripsOk s) (was : s.pumpIn p = false)
    (inn : p.toNat ≤ v) (cool : s.img.prot.overtempS ≠ 0 ∨ s.inputs.overtemp.get p = false) :
    ∃ a, OnlyIn [.lvu, .ppr, .alm, .src] (s.written l .pumpsInstalled v) a ∧ pumpPart p a = pumpPart p s ∧
      pumpPart p ((s.written l .pumpsInstalled v).pumpsSettled (s.arrived l)) = pumpPart p (a.installPump p) := by
  have come : (s.written l .pumpsInstalled v).pumpIn p = true := decide_eq_true inn
  obtain ⟨a, b, o, same, o', met, trip⟩ := pumpsSettled_come (s.written l .pumpsInstalled v) (s.arrived l) p was come
  refine ⟨a, o, same, trip.trans ?_⟩
  rw [← met]
  have quiet : b.overtempAtOnce p = b := by
    rcases cool with long | cool
    · have : b.img.prot.overtempS ≠ 0 := by
        rw [State.img, o' .cfg (by decide)]
        exact long
      exact if_neg this
    · refine b.overtempAtOnce_of_none p ?_
      have a_in : a.pumpIn p = true := (State.pumpIn_congr (o .inputs (by decide)) (o .cfg (by decide)) p).trans come
      have a_cool : a.inputs.overtemp.get p = false := by rw [o .inputs (by decide)]; exact cool
      have a_ppr : a.ppr.get p = s.ppr.get p := congrArg Prod.fst same
      have stopped : (a.ppr.get p).faults = .allStopped := a_ppr ▸ (ok p).timers (.inr was)
      have m := met_installPump a p
      rw [show b.ppr.get p = (a.installPump p).ppr.get p from congrArg Prod.fst met]
      cases watched : (a.ppr.get p).protection.watched with
      | true => rw [m.overtemp a_in watched stopped, a_cool, if_neg Bool.false_ne_true]
      | false =>
        have rests := (m.judged.rests (by rw [a_in]; exact watched)).2
        rw [rests]
        exact congrArg FaultTimers.overtemp stopped
  rw [quiet]

theorem pumpsInstalled_come (s : State) (l : Link) (v : Nat) (p : Pump) (ok : TripsOk s) (was : s.pumpIn p = false)
    (inn : p.toNat ≤ v) (cool : s.img.prot.overtempS ≠ 0 ∨ s.inputs.overtemp.get p = false) :
    let r := s.ppr.get p
    let t := s.afterWrite l .pumpsInstalled v
    let q := t.ppr.get p
    q.protection.watched = r.protection.watched ∧ q.trips = r.trips ∧
      q.forgive = (if r.trips = 0 ∨ r.protection = .lockedOut then none else some s.uptime) ∧
      q.sealTimer = (if s.inputs.sealLeak.get p then some s.uptime else none) ∧
      t.condition (.pump p .lockout) = decide (r.protection = .lockedOut) ∧
      t.condition (.pump p .switchFault) = decide (t.mode p = some .switchFault) ∧
      (r.protection.watched = true → r.faults = .allStopped →
        q.faults.overtemp = if s.inputs.overtemp.get p then some s.uptime else none) ∧
      (s.spm.permit = .spacing → s.runCmd p = false →
        q.watch = if t.inAuto p && s.runFb p then .uncommanded (some s.uptime) else .idle) ∧
      t.dsq.queue.contains p = t.member p := by
  intro r
  have come : (s.written l .pumpsInstalled v).pumpIn p = true := decide_eq_true inn
  have settled := only_pumpsSettled (s.written l .pumpsInstalled v) (s.arrived l)
  obtain ⟨a, o, same, part⟩ := pumpsSettled_cool s l v p ok was inn cool
  rw [afterWrite_pumpsInstalled, State.pumpsMoved]
  generalize (s.written l .pumpsInstalled v).pumpsSettled (s.arrived l) = w at *
  have moves := moves_dutyEvent w (s.arrived l).autoCommanded
  have contains := contains_queue_dutyEvent w (s.arrived l).autoCommanded p
  generalize w.dutyEvent (s.arrived l).autoCommanded = d at *
  obtain ⟨ppr, points, run⟩ : w.ppr.get p = (a.installPump p).ppr.get p ∧
      (∀ k, w.condition (.pump p k) = (a.installPump p).condition (.pump p k)) ∧ w.runState p = (a.installPump p).runState p :=
    ⟨congrArg Prod.fst part, fun k => congrArg (fun q : ProtectedPump × (PumpAlarm → PointEntry) × RunState =>
      (q.2.1 k).state.present) part, congrArg (fun q => q.2.2) part⟩
  have m := met_installPump a p
  have noted := noted_installPump a p
  generalize a.installPump p = j at *
  have a_in : a.pumpIn p = true := (State.pumpIn_congr (o .inputs (by decide)) (o .cfg (by decide)) p).trans come
  have a_ppr : a.ppr.get p = r := congrArg Prod.fst same
  have inputs : a.inputs = s.inputs := o .inputs (by decide)
  have time : a.uptime = s.uptime := o .uptime (by decide)
  have judged := moves.judged p
  have mode : d.mode p = a.mode p := (mode_settled moves.only (by decide) (by decide) p).trans
    ((mode_settled settled (by decide) (by decide) p).trans (mode_settled o (by decide) (by decide) p).symm)
  have hot : w.inputs.overtemp.get p = s.inputs.overtemp.get p := by rw [settled .inputs (by decide)]; rfl
  intro t q
  refine ⟨judged.watched.trans ?_, judged.trips.trans ?_, judged.forgive.trans ?_, judged.sealTimer.trans ?_, ?_, ?_,
    fun watched stopped => ?_, fun spacing off => ?_, contains.trans (moves.member p).symm⟩
  · rw [ppr, m.judged.watched, a_ppr]
    rfl
  · rw [ppr, m.judged.trips, a_ppr]
    rfl
  · rw [ppr, m.judged.forgive, a_ppr, time]
    unfold ProtectedPump.met
    by_cases none : r.trips = 0 <;> by_cases locked : r.protection = .lockedOut <;> simp [none, locked]
  · rw [ppr, m.judged.sealTimer, inputs, time]
    rfl
  · rw [show t.condition (.pump p .lockout) = _ from moves.points.condition (by simp [mismatchPoints]), points, m.lockout, a_ppr]
    exact beq_eq_decide _ _
  · rw [show t.condition (.pump p .switchFault) = _ from moves.points.condition (by simp [mismatchPoints]), points,
      m.switchFault, ← mode]
    exact beq_eq_decide _ _
  · have timer : (w.ppr.get p).faults.overtemp = if s.inputs.overtemp.get p then some s.uptime else none := by
      rw [ppr, m.overtemp a_in (by rw [a_ppr]; exact watched) (by rw [a_ppr]; exact stopped), inputs, time]
    refine (judged.overtemp ?_).trans timer
    rw [timer, hot]
    cases s.inputs.overtemp.get p <;> rfl
  · have spaced : w.spm.permit = .spacing := by
      rw [settled .spm (by decide)]
      exact spacing
    have run_a : a.runState p = s.runState p := congrArg (fun q => q.2.2) same
    have off_w : w.runCmd p = false := by
      rw [State.runCmd, run, State.runState, noted.dsq]
      exact (congrArg RunState.commanded run_a).trans off
    refine (moves.off (fun _ => .inl spaced) off_w).2.1.trans ?_
    have auto : d.inAuto p = a.inAuto p := by rw [State.inAuto, State.inAuto, mode]
    rw [ppr, m.watch, time, State.runFb, inputs, ← auto]
    rfl

/-- A pump put in hot with `overtemp_s` 0 trips at the write (R66, R73, R85). -/
theorem pumpsInstalled_hot (s : State) (l : Link) (v : Nat) (p : Pump) (was : s.pumpIn p = false) (inn : p.toNat ≤ v)
    (zero : s.img.prot.overtempS = 0) (hot : s.inputs.overtemp.get p = true)
    (watched : (s.ppr.get p).protection.watched = true) (stopped : (s.ppr.get p).faults = .allStopped) :
    let r := s.ppr.get p
    let t := s.afterWrite l .pumpsInstalled v
    let q := t.ppr.get p
    q.trips = r.trips + 1 ∧ q.lastTrip = some (.overtemp, s.uptime) ∧ q.faults = .allStopped ∧
      q.protection = (if s.img.prot.lockoutTrips ≤ r.trips + 1 then .lockedOut else .tripped) ∧
      t.dsq.queue.contains p = false ∧ t.runCmd p = false := by
  intro r
  have come : (s.written l .pumpsInstalled v).pumpIn p = true := decide_eq_true inn
  obtain ⟨a, b, o, same, o', met, trip⟩ := pumpsSettled_come (s.written l .pumpsInstalled v) (s.arrived l) p was come
  rw [afterWrite_pumpsInstalled, State.pumpsMoved]
  generalize (s.written l .pumpsInstalled v).pumpsSettled (s.arrived l) = w at *
  have contains := contains_queue_dutyEvent w (s.arrived l).autoCommanded p
  have off := fun out off => (dutyEvent_off w (s.arrived l).autoCommanded (p := p) out off).1
  have judged := (moves_dutyEvent w (s.arrived l).autoCommanded).judged p
  generalize w.dutyEvent (s.arrived l).autoCommanded = d at *
  have a_in : a.pumpIn p = true := (State.pumpIn_congr (o .inputs (by decide)) (o .cfg (by decide)) p).trans come
  have a_ppr : a.ppr.get p = r := congrArg Prod.fst same
  have m := met_installPump a p
  generalize a.installPump p = j at *
  have b_ppr : b.ppr.get p = j.ppr.get p := congrArg Prod.fst met
  have a_hot : a.inputs.overtemp.get p = true := by rw [o .inputs (by decide)]; exact hot
  have timer : (b.ppr.get p).faults.overtemp = some s.uptime := by
    rw [b_ppr, m.overtemp a_in (by rw [a_ppr]; exact watched) (by rw [a_ppr]; exact stopped), a_hot, if_pos rfl,
      o .uptime (by decide)]
    rfl
  have now : b.uptime = s.uptime := o' .uptime (by decide)
  have b_zero : b.img.prot.overtempS = 0 := by
    rw [State.img, o' .cfg (by decide)]
    exact zero
  have limit : b.img.prot.lockoutTrips = s.img.prot.lockoutTrips := by
    rw [State.img, o' .cfg (by decide)]
    rfl
  have runs : b.faultRun p .overtemp = true := by
    rw [State.faultRun_eq, FaultTimers.get, timer, Image.faultSeconds, b_zero, now]
    exact decide_eq_true (by omega)
  have trips : b.overtempAtOnce p = b.tripPump p .overtemp := by
    rw [State.overtempAtOnce, if_pos b_zero, State.expireFault, if_pos runs]
  obtain ⟨⟨x, _, self⟩, off_b⟩ := b.tripPump_self p .overtemp
  rw [trips] at trip
  have count : (b.ppr.get p).trips = r.trips := by
    rw [b_ppr, m.judged.trips, a_ppr]
    rfl
  rw [count, now, limit] at self
  have at_w : w.ppr.get p = _ := (congrArg Prod.fst trip).trans self
  have unwatched : (w.ppr.get p).protection.watched = false := by
    rw [at_w]
    exact x.tripped_watched _ _ _ _
  have out : w.member p = false := by rw [State.member, unwatched, Bool.and_false]
  have off_w : w.runCmd p = false :=
    (congrArg (fun q : ProtectedPump × (PumpAlarm → PointEntry) × RunState => q.2.2.commanded) trip).trans off_b
  obtain ⟨protection, faults⟩ := judged.rests (by rw [unwatched, Bool.and_false])
  refine ⟨judged.trips.trans ?_, judged.lastTrip.trans ?_, faults.trans ?_, protection.trans ?_, contains.trans out,
    off out off_w⟩
  iterate 4 rw [at_w, ProtectedPump.tripped]

end Sys2Proof.Machine
end

section
/-! Rules for the screens' operations: what each does to its own screen and leaves of the other, and what the turn of the other
screen can do to one (R55, R88 to R91, R93, R96 to R99). -/

namespace Sys2Proof.Machine

/-! ### A screen left alone -/

/-- A screen's record, its request and its two points stand, and a permit in SPACING stays in SPACING. -/
structure Untouched (sc : Screen) (s t : State) : Prop where
  only : OnlyIn [.spm, .scr, .alm, .src] s t
  record : t.scr.screens.get sc = s.scr.screens.get sc
  request : t.requestOf (.screen sc) = s.requestOf (.screen sc)
  permit : s.spm.permit = .spacing → t.spm.permit = .spacing
  jam : t.condition (.rakeJam sc) = s.condition (.rakeJam sc)
  failed : t.condition (.rakeFailed sc) = s.condition (.rakeFailed sc)

namespace Untouched
variable {sc : Screen} {s t u : State}

theorem refl (sc : Screen) (s : State) : Untouched sc s s := ⟨.refl _ _, rfl, rfl, id, rfl, rfl⟩

theorem trans (h : Untouched sc s t) (k : Untouched sc t u) : Untouched sc s u :=
  ⟨h.only.trans k.only, k.record.trans h.record, k.request.trans h.request, fun p => k.permit (h.permit p),
    k.jam.trans h.jam, k.failed.trans h.failed⟩

theorem rakeOf (h : Untouched sc s t) : t.rakeOf sc = s.rakeOf sc := congrArg (Option.map ScreenRec.rake) h.record

theorem isIdle (h : Untouched sc s t) : t.isIdle sc = s.isIdle sc := congrArg (· == some RakeState.idle) h.rakeOf

end Untouched

theorem untouched_modScreen (s : State) {sc x : Screen} (f : ScreenRec → ScreenRec) (h : x ≠ sc) :
    Untouched sc s (s.modScreen x f) :=
  ⟨(only_modScreen s x f).mono (by decide), Duo.get_modify_ne _ _ h.symm, rfl, id, rfl, rfl⟩

theorem untouched_setRake (s : State) {sc x : Screen} (k : RakeState) (h : x ≠ sc) : Untouched sc s (s.setRake x k) := by
  have spm : (s.setRake x k).spm = s.spm := only_setRake s x k .spm (by decide)
  exact ⟨(only_setRake s x k).mono (by decide), s.setRake_screens_ne k h.symm, State.requestOf_congr spm _,
    fun p => by rw [spm, p], (points_setRake (A := ∅) s x k).condition (by simp),
    (points_setRake (A := ∅) s x k).condition (by simp)⟩

theorem untouched_withdraw (s : State) {sc x : Screen} (h : x ≠ sc) : Untouched sc s (s.withdraw (.screen x)) :=
  ⟨(only_withdraw s _).mono (by decide), rfl, s.requestOf_withdraw_ne (by simpa using h.symm), id, rfl, rfl⟩

theorem untouched_join (s : State) {sc x : Screen} (h : x ≠ sc) : Untouched sc s (s.join (.screen x)) :=
  ⟨(only_join s _).mono (by decide), rfl, s.requestOf_join_ne (by simpa using h.symm), id, rfl, rfl⟩

theorem untouched_recordGrant (s : State) {sc x : Screen} (h : x ≠ sc) : Untouched sc s (s.recordGrant (.screen x)) :=
  ⟨(only_recordGrant s _).mono (by decide), rfl, s.requestOf_recordGrant_ne (by simpa using h.symm), fun _ => rfl, rfl, rfl⟩

theorem untouched_setCondition (s : State) {sc : Screen} (a : AlarmPoint) (b : Bool) (jam : a ≠ .rakeJam sc)
    (failed : a ≠ .rakeFailed sc) : Untouched sc s (s.setCondition a b) := by
  have spm : (s.setCondition a b).spm = s.spm := only_setCondition s a b .spm (by decide)
  exact ⟨(only_setCondition s a b).mono (by decide), by rw [only_setCondition s a b .scr (by decide)],
    State.requestOf_congr spm _, fun p => by rw [spm, p], State.condition_setCondition_ne _ _ jam.symm,
    State.condition_setCondition_ne _ _ failed.symm⟩

theorem untouched_append (s : State) (sc : Screen) (b : RecordBody) : Untouched sc s (s.append b) :=
  ⟨(only_append s b).mono (by decide), rfl, rfl, id, rfl, rfl⟩

theorem untouched_grantScreen (s : State) {sc x : Screen} (h : x ≠ sc) : Untouched sc s (s.grantScreen x) := by
  have spm : (s.grantScreen x).spm = s.spm := only_grantScreen s x .spm (by decide)
  exact ⟨(only_grantScreen s x).mono (by decide), s.grantScreen_screens_ne h.symm, State.requestOf_congr spm _,
    fun p => by rw [spm, p], (points_grantScreen (A := ∅) s x).condition (by simp),
    (points_grantScreen (A := ∅) s x).condition (by simp)⟩

theorem untouched_askScreen (s : State) {sc x : Screen} (h : x ≠ sc) : Untouched sc s (s.askScreen x) := by
  unfold State.askScreen
  dsimp only
  split
  · exact ((untouched_setRake s _ h).trans (untouched_recordGrant _ h)).trans (untouched_grantScreen _ h)
  · exact (untouched_setRake s _ h).trans (untouched_join _ h)

theorem untouched_failScreen (s : State) {sc x : Screen} (c : RakeCause) (h : x ≠ sc) : Untouched sc s (s.failScreen x c) :=
  (((untouched_modScreen s _ h).trans (untouched_setRake _ _ h)).trans (untouched_withdraw _ h)).trans
    (untouched_setCondition _ _ _ (by simp) (by simpa using h))

theorem No2.other_ne (x : Screen) : x.other ≠ x := by cases x <;> decide

/-- The differential trigger leaves a screen that is not IDLE alone (R90). -/
theorem untouched_fire (s : State) {sc : Screen} (busy : s.isIdle sc = false) : Untouched sc s s.fire := by
  have ne := No2.other_ne sc
  rw [s.fire_of_busy busy]
  split
  · split
    · exact untouched_failScreen s _ ne
    · exact untouched_askScreen s ne
  · exact .refl _ _

/-! ### A screen's own operations -/

theorem State.failScreen_record (s : State) (sc : Screen) (c : RakeCause) :
    (s.failScreen sc c).scr.screens.get sc =
      (s.scr.screens.get sc).map fun r =>
        { r with rake := .failed, cause := some c, homeLeave := none, cycle := none, reverse := none } := by
  rw [State.failScreen_scr, State.setRake_screens_self, State.modScreen_scr, Duo.get_modify_self, Option.map_map]
  rfl

theorem State.failScreen_spm (s : State) (sc : Screen) (c : RakeCause) :
    (s.failScreen sc c).spm = (s.withdraw (.screen sc)).spm := by
  refine (only_setCondition _ _ _ .spm (by decide)).trans ?_
  rw [State.withdraw_spm, State.withdraw_spm, only_setRake _ _ _ .spm (by decide)]
  rfl

theorem State.failScreen_request (s : State) (sc : Screen) (c : RakeCause) :
    (s.failScreen sc c).requestOf (.screen sc) = none :=
  (State.requestOf_congr (s.failScreen_spm sc c) _).trans (s.requestOf_withdraw_self _)

theorem State.failScreen_condition (s : State) (sc : Screen) (c : RakeCause) :
    (s.failScreen sc c).condition (.rakeFailed sc) = true := State.condition_setCondition_self _ _ _

/-- In SPACING a screen that asks waits, its request on the list (R55). -/
theorem State.askScreen_spacing (s : State) (sc : Screen) (closed : s.spm.permit = .spacing) :
    s.askScreen sc = (s.setRake sc .waiting).join (.screen sc) := by
  have spm : (s.setRake sc .waiting).spm = s.spm := only_setRake s sc _ .spm (by decide)
  simp only [State.askScreen, spm, closed]

theorem State.askScreen_opened (s : State) (sc : Screen) (opened : s.spm.permit = .opened) :
    s.askScreen sc = ((s.setRake sc .waiting).recordGrant (.screen sc)).grantScreen sc := by
  have spm : (s.setRake sc .waiting).spm = s.spm := only_setRake s sc _ .spm (by decide)
  simp only [State.askScreen, spm, opened]

theorem State.askScreen_record_spacing (s : State) (sc : Screen) (closed : s.spm.permit = .spacing) :
    (s.askScreen sc).scr.screens.get sc = (s.scr.screens.get sc).map fun r => { r with rake := .waiting } := by
  rw [s.askScreen_spacing sc closed]
  exact s.setRake_screens_self sc _

theorem State.askScreen_request_spacing (s : State) (sc : Screen) (closed : s.spm.permit = .spacing)
    (none : s.requestOf (.screen sc) = none) : (s.askScreen sc).requestOf (.screen sc) = some ⟨.screen sc, s.uptime⟩ := by
  have spm : (s.setRake sc .waiting).spm = s.spm := only_setRake s sc _ .spm (by decide)
  have time : (s.setRake sc .waiting).uptime = s.uptime := only_setRake s sc _ .uptime (by decide)
  rw [s.askScreen_spacing sc closed, State.requestOf_join_self _ ((State.requestOf_congr spm _).trans none), time]

/-- The interval timer of a screen's record. -/
def State.intervalOf (s : State) (sc : Screen) : Option Timer := (s.scr.screens.get sc).map (·.interval)

theorem State.intervalOf_setRake (s : State) (sc : Screen) (k : RakeState) : (s.setRake sc k).intervalOf sc = s.intervalOf sc := by
  rw [State.intervalOf, State.setRake_screens_self, Option.map_map]
  rfl

theorem State.intervalOf_grantScreen (s : State) (sc : Screen) : (s.grantScreen sc).intervalOf sc = s.intervalOf sc := by
  have moved : ∀ (u : State) (f : ScreenRec → ScreenRec), (∀ r, (f r).interval = r.interval) →
      (u.modScreen sc f).intervalOf sc = u.intervalOf sc := fun u f h => by
    rw [State.intervalOf, State.modScreen_scr, Duo.get_modify_self, Option.map_map]
    exact congrArg (Option.map · _) (funext h)
  unfold State.grantScreen
  dsimp only
  split
  · rw [State.jam, State.intervalOf_setRake]
    refine (moved _ _ ?_).trans ?_
    · exact fun _ => rfl
    · rw [State.intervalOf_setRake]
      exact moved s _ fun _ => rfl
  · rw [State.intervalOf_setRake]
    exact moved s _ fun _ => rfl

theorem State.intervalOf_askScreen (s : State) (sc : Screen) : (s.askScreen sc).intervalOf sc = s.intervalOf sc := by
  cases k : s.spm.permit with
  | spacing =>
    rw [s.askScreen_spacing sc k]
    exact s.intervalOf_setRake sc _
  | opened =>
    rw [s.askScreen_opened sc k, State.intervalOf_grantScreen]
    exact s.intervalOf_setRake sc _

theorem State.intervalOf_failScreen (s : State) (sc : Screen) (c : RakeCause) :
    (s.failScreen sc c).intervalOf sc = s.intervalOf sc := by
  rw [State.intervalOf, State.failScreen_record, Option.map_map]
  rfl

/-! ### The turn of the other screen -/

/-- What the turn of the other screen does to a screen: nothing, but for the differential trigger that a failure there brings an IDLE
screen (R90, R96, R97). -/
inductive Aside (sc : Screen) (s : State) : State → Prop
  | clear (t : State) (h : Untouched sc s t) : Aside sc s t
  | failed (u : State) (h : Untouched sc s u) (idle : s.isIdle sc = true) (hot : s.inputs.rakeThermal.get sc = true) :
      Aside sc s (u.failScreen sc .thermal)
  | asked (u : State) (h : Untouched sc s u) (idle : s.isIdle sc = true) (cool : s.inputs.rakeThermal.get sc = false) :
      Aside sc s (u.askScreen sc)

namespace Aside
variable {sc : Screen} {s t u : State}

theorem of_untouched (h : Untouched sc s t) (k : Aside sc t u) : Aside sc s u := by
  have inputs : t.inputs = s.inputs := h.only .inputs (by decide)
  cases k with
  | clear _ k => exact .clear _ (h.trans k)
  | failed _ k idle hot => exact .failed _ (h.trans k) (h.isIdle ▸ idle) (inputs ▸ hot)
  | asked _ k idle cool => exact .asked _ (h.trans k) (h.isIdle ▸ idle) (inputs ▸ cool)

theorem only (h : Aside sc s t) : OnlyIn [.spm, .scr, .alm, .src] s t := by
  cases h with
  | clear _ h => exact h.only
  | failed u h => exact h.only.trans ((only_failScreen u sc _).mono (by decide))
  | asked u h => exact h.only.trans ((only_askScreen u sc).mono (by decide))

/-- A screen that is not IDLE is left alone. -/
theorem busy (h : Aside sc s t) (busy : s.isIdle sc = false) : Untouched sc s t := by
  cases h with
  | clear _ h => exact h
  | failed _ _ idle | asked _ _ idle => rw [busy] at idle; cases idle

theorem interval (h : Aside sc s t) : t.intervalOf sc = s.intervalOf sc := by
  cases h with
  | clear _ h => exact congrArg (Option.map ScreenRec.interval) h.record
  | failed u h => exact (u.intervalOf_failScreen sc _).trans (congrArg (Option.map ScreenRec.interval) h.record)
  | asked u h => exact (u.intervalOf_askScreen sc).trans (congrArg (Option.map ScreenRec.interval) h.record)

end Aside

/-- The trigger that follows a failure or a jam of one screen reaches the other alone. -/
theorem aside_fire (s : State) {sc : Screen} (busy : s.isIdle sc.other = false) : Aside sc s s.fire := by
  have back : sc.other.other = sc := by cases sc <;> rfl
  rw [s.fire_of_busy busy, back]
  by_cases reach : (s.diffHigh && s.isIdle sc) = true
  · have idle : s.isIdle sc = true := (Bool.and_eq_true _ _ ▸ reach).2
    rw [if_pos reach]
    cases thermal : s.inputs.rakeThermal.get sc with
    | true => exact .failed s (.refl _ _) idle thermal
    | false => exact .asked s (.refl _ _) idle thermal
  · rw [if_neg reach]
    exact .clear _ (.refl _ _)

theorem aside_failAndFire (s : State) {sc x : Screen} (c : RakeCause) (h : x ≠ sc) : Aside sc s (s.failAndFire x c) := by
  have other : x = sc.other := by cases x <;> cases sc <;> simp_all [No2.other]
  subst other
  exact .of_untouched (untouched_failScreen s c h) (aside_fire _ (s.isIdle_failScreen _ c))

theorem aside_trigger (s : State) {sc x : Screen} (h : x ≠ sc) : Aside sc s (s.trigger x) := by
  unfold State.trigger
  split
  · split
    · exact aside_failAndFire s _ h
    · exact .clear _ (untouched_askScreen s h)
  · exact .clear _ (untouched_modScreen s _ h)
  · exact .clear _ (untouched_modScreen s _ h)
  · exact .clear _ (untouched_modScreen s _ h)
  · exact .clear _ (.refl _ _)
  · exact .clear _ (.refl _ _)
  · exact .clear _ (.refl _ _)

theorem aside_endInterval (s : State) {sc x : Screen} (h : x ≠ sc) : Aside sc s (s.endInterval x) :=
  .of_untouched (untouched_modScreen s _ h) (aside_trigger _ h)

theorem State.isIdle_setRake (s : State) (sc : Screen) (k : RakeState) (h : k ≠ .idle) : (s.setRake sc k).isIdle sc = false := by
  rw [State.isIdle, State.rakeOf, State.setRake_screens_self]
  cases s.scr.screens.get sc with
  | none => rfl
  | some r => simpa using h

theorem aside_endBackoff (s : State) {sc x : Screen} (h : x ≠ sc) : Aside sc s (s.endBackoff x) := by
  have other : x = sc.other := by cases x <;> cases sc <;> simp_all [No2.other]
  subst other
  have stopped : Untouched sc s (s.modScreen sc.other fun r => { r with reverse := none }) := untouched_modScreen s _ h
  unfold State.endBackoff
  dsimp only
  split
  · exact .clear _ (stopped.trans (untouched_askScreen _ h))
  · refine .of_untouched (((stopped.trans (untouched_setRake _ .jammed h)).trans
      (untouched_setCondition _ _ _ (by simpa using h) (by simp))).trans (untouched_append _ _ _)) (aside_fire _ ?_)
    have busy := State.isIdle_setRake (s.modScreen sc.other fun r => { r with reverse := none }) sc.other .jammed (by decide)
    rw [State.isIdle, State.rakeOf, only_append _ _ .scr (by decide), only_setCondition _ _ _ .scr (by decide)]
    exact busy

/-! ### Both screens' turns -/

/-- A write that takes the two screens in turn, seen from one of them: what the other's turn does before its own and after it. -/
theorem each_aside {f : State → Screen → State} (other : ∀ s sc x, x ≠ sc → Aside sc s (f s x)) (s : State) (sc : Screen) :
    ∃ a, Aside sc s a ∧ Aside sc (f a sc) (s.each No2.all f) := by
  cases sc with
  | n1 => exact ⟨s, .clear _ (.refl _ _), other _ _ _ (by decide)⟩
  | n2 => exact ⟨f s .n1, other _ _ _ (by decide), .clear _ (.refl _ _)⟩

theorem aside_lapseOf {timer : State → Screen → Timer} {secs : Nat} {f : State → Screen → State}
    (other : ∀ s sc x, x ≠ sc → Aside sc s (f s x)) (s : State) (sc x : Screen) (h : x ≠ sc) :
    Aside sc s (s.lapseOf timer secs f x) := by
  rw [State.lapseOf_eq]
  split
  · exact other s sc x h
  · exact .clear _ (.refl _ _)

end Sys2Proof.Machine
end

section
/-! What a write of Chapter 5's settings does (R87, R88 to R91, R94 to R96, R99, R101, R102, R105, R185). -/

namespace Sys2Proof.Machine

/-! ### Home-leave and cycle durations -/

/-- The screens whose timer has run a changed duration fail, each with the trigger that follows (R94, R96). -/
def State.failLapsed (s : State) (timer : ScreenRec → Timer) (secs : Nat) (c : RakeCause) : State :=
  s.each No2.all (State.lapseOf (fun t sc => t.screenTimer sc timer) secs fun t sc => t.failAndFire sc c)

theorem failLapsed_effect (s : State) (timer : ScreenRec → Timer) (secs : Nat) (c : RakeCause) (sc : Screen) (r : ScreenRec)
    (here : s.scr.screens.get sc = some r) :
    let t := s.failLapsed timer secs c
    (ran (timer r) secs s.uptime = true → r.rake = .forward →
      t.scr.screens.get sc =
        some { r with rake := .failed, homeLeave := none, cycle := none, reverse := none, cause := some c } ∧
      t.condition (.rakeFailed sc) = true ∧ t.requestOf (.screen sc) = none) ∧
    (ran (timer r) secs s.uptime = false → r.rake ≠ .idle → t.scr.screens.get sc = some r) := by
  intro t
  obtain ⟨a, before, after⟩ := each_aside (f := State.lapseOf (fun t sc => t.screenTimer sc timer) secs
    fun t sc => t.failAndFire sc c) (aside_lapseOf fun t _ _ ne => aside_failAndFire t c ne) s sc
  have in_use : r.rake ≠ .idle → Untouched sc s a := fun busy => before.busy (by
    rw [State.isIdle, State.rakeOf, here]
    simpa using busy)
  have due : r.rake ≠ .idle → ran (a.screenTimer sc timer) secs a.uptime = ran (timer r) secs s.uptime := fun busy => by
    rw [State.screenTimer, (in_use busy).record, here, before.only .uptime (by decide)]
    rfl
  rw [State.lapseOf_eq] at after
  refine ⟨fun ended forward => ?_, fun running busy => ?_⟩
  · have busy : r.rake ≠ .idle := by rw [forward]; decide
    rw [due busy, if_pos ended] at after
    have fired := untouched_fire (a.failScreen sc c) (a.isIdle_failScreen sc c)
    have still : (a.failAndFire sc c).isIdle sc = false := fired.isIdle.trans (a.isIdle_failScreen sc c)
    have last := fired.trans (after.busy still)
    refine ⟨last.record.trans ?_, last.failed.trans (a.failScreen_condition sc c),
      last.request.trans (a.failScreen_request sc c)⟩
    rw [State.failScreen_record, (in_use busy).record, here]
    rfl
  · rw [due busy, if_neg (by rw [running]; exact Bool.false_ne_true)] at after
    have still : a.isIdle sc = false := by
      rw [State.isIdle, State.rakeOf, (in_use busy).record, here]
      simpa using busy
    exact (after.busy still).record.trans ((in_use busy).record.trans here)

theorem afterWrite_homeLeaveS (s : State) (l : Link) (v : Nat) :
    s.afterWrite l .homeLeaveS v =
      ((s.written l .homeLeaveS v).failLapsed (·.homeLeave) v .homeNotLeft).confirmWrite l := rfl

theorem afterWrite_cycleMaxS (s : State) (l : Link) (v : Nat) :
    s.afterWrite l .cycleMaxS v = ((s.written l .cycleMaxS v).failLapsed (·.cycle) v .cycleTime).confirmWrite l := rfl

/-! ### The reverse duration -/

theorem State.endBackoff_record (s : State) (sc : Screen) (r : ScreenRec) (here : s.scr.screens.get sc = some r)
    (unasked : s.requestOf (.screen sc) = none) :
    (s.img.screen.jamRetries < r.retries →
      (s.endBackoff sc).scr.screens.get sc = some { r with rake := .jammed, reverse := none } ∧
      (s.endBackoff sc).condition (.rakeJam sc) = true) ∧
    (r.retries ≤ s.img.screen.jamRetries → s.spm.permit = .spacing →
      (s.endBackoff sc).scr.screens.get sc = some { r with rake := .waiting, reverse := none } ∧
      (s.endBackoff sc).requestOf (.screen sc) = some ⟨.screen sc, s.uptime⟩) := by
  have record : (s.modScreen sc fun r => { r with reverse := none }).scr.screens.get sc =
      some { r with reverse := none } := by
    rw [State.modScreen_scr, Duo.get_modify_self, here]
    rfl
  have retries : ((s.scr.screens.get sc).map (·.retries)).getD 0 = r.retries := by rw [here]; rfl
  refine ⟨fun used => ?_, fun left closed => ?_⟩
  · have unfolded : s.endBackoff sc =
        (((((s.modScreen sc fun r => { r with reverse := none }).setRake sc .jammed).setCondition (.rakeJam sc)
          true).append (.screenJam sc (r.retries - 1))).fire) := by
      simp only [State.endBackoff, retries]
      exact if_neg (Nat.not_le.mpr used)
    rw [unfolded]
    have scr : ∀ u : State, ((u.setCondition (.rakeJam sc) true).append (.screenJam sc (r.retries - 1))).scr = u.scr := fun u =>
      (only_append _ _ .scr (by decide)).trans (only_setCondition _ _ _ .scr (by decide))
    have busy := State.isIdle_setRake (s.modScreen sc fun r => { r with reverse := none }) sc .jammed (by decide)
    have fired := untouched_fire ((((s.modScreen sc fun r => { r with reverse := none }).setRake sc
      .jammed).setCondition (.rakeJam sc) true).append (.screenJam sc (r.retries - 1))) (sc := sc) (by
        rw [State.isIdle, State.rakeOf, scr]
        exact busy)
    refine ⟨fired.record.trans ?_, fired.jam.trans (State.condition_setCondition_self _ _ _)⟩
    rw [scr, State.setRake_screens_self, record]
    rfl
  · have unfolded : s.endBackoff sc = (s.modScreen sc fun r => { r with reverse := none }).askScreen sc := by
      simp only [State.endBackoff, retries]
      exact if_pos left
    rw [unfolded]
    refine ⟨(State.askScreen_record_spacing (s.modScreen sc fun r => { r with reverse := none }) sc closed).trans (by rw [record]; rfl),
      State.askScreen_request_spacing (s.modScreen sc fun r => { r with reverse := none }) sc closed unasked⟩

theorem RequestsOk.request_none {s : State} (ok : RequestsOk s) {sc : Screen} (h : s.rakeOf sc ≠ some .waiting) :
    s.requestOf (.screen sc) = none := by
  cases k : s.requestOf (.screen sc) with
  | none => rfl
  | some r =>
    have member : r ∈ s.spm.waiting := List.mem_of_find?_eq_some k
    exact absurd (ok.screens r member sc (State.requestOf_who k)) h

theorem reverseS_effect (s : State) (l : Link) (v : Nat) (ok : RequestsOk s) (sc : Screen) (r : ScreenRec)
    (here : s.scr.screens.get sc = some r) :
    let t := s.afterWrite l .reverseS v
    (ran r.reverse v s.uptime = true →
      (s.img.screen.jamRetries < r.retries →
        t.scr.screens.get sc = some { r with rake := .jammed, reverse := none } ∧
        t.condition (.rakeJam sc) = true) ∧
      (r.retries ≤ s.img.screen.jamRetries → s.spm.permit = .spacing →
        t.scr.screens.get sc = some { r with rake := .waiting, reverse := none } ∧
        t.requestOf (.screen sc) = some ⟨.screen sc, s.uptime⟩)) ∧
    (ran r.reverse v s.uptime = false → r.rake ≠ .idle → t.scr.screens.get sc = some r) := by
  obtain ⟨a, before, after⟩ := each_aside (f := State.lapseOf (fun t sc => t.screenTimer sc (·.reverse)) v State.endBackoff)
    (aside_lapseOf fun t _ _ ne => aside_endBackoff t ne) (s.written l .reverseS v) sc
  have moved : s.afterWrite l .reverseS v = ((s.written l .reverseS v).each No2.all
    (State.lapseOf (fun t sc => t.screenTimer sc (·.reverse)) v State.endBackoff)).confirmWrite l := rfl
  rw [moved]
  generalize (s.written l .reverseS v).each No2.all
    (State.lapseOf (fun t sc => t.screenTimer sc (·.reverse)) v State.endBackoff) = w at *
  have in_use : r.rake ≠ .idle → Untouched sc (s.written l .reverseS v) a := fun busy => before.busy (by
    rw [State.isIdle, State.rakeOf, show (s.written l .reverseS v).scr.screens.get sc = some r from here]
    simpa using busy)
  have due : r.rake ≠ .idle → ran (a.screenTimer sc (·.reverse)) v a.uptime = ran r.reverse v s.uptime := fun busy => by
    rw [State.screenTimer, (in_use busy).record, show (s.written l .reverseS v).scr.screens.get sc = some r from here,
      before.only .uptime (by decide)]
    rfl
  rw [State.lapseOf_eq] at after
  intro t
  refine ⟨fun ended => ?_, fun running busy => ?_⟩
  · have backoff : r.rake = .backoff := ok.reverse sc r here (by
      cases k : r.reverse with
      | none => rw [k] at ended; cases ended
      | some _ => rfl)
    have busy : r.rake ≠ .idle := by rw [backoff]; decide
    have same := in_use busy
    rw [due busy, if_pos ended] at after
    have at_a : a.scr.screens.get sc = some r := same.record.trans here
    have unasked : a.requestOf (.screen sc) = none := same.request.trans (ok.request_none (by
      rw [State.rakeOf, here]
      simp [backoff]))
    have img : a.img.screen.jamRetries = s.img.screen.jamRetries := by rw [State.img, same.only .cfg (by decide)]; rfl
    obtain ⟨jams, waits⟩ := a.endBackoff_record sc r at_a unasked
    refine ⟨fun used => ?_, fun left closed => ?_⟩
    · obtain ⟨record, shown⟩ := jams (img ▸ used)
      have last := after.busy (by rw [State.isIdle, State.rakeOf, record]; rfl)
      exact ⟨last.record.trans record, last.jam.trans shown⟩
    · obtain ⟨record, asks⟩ := waits (img ▸ left) (same.permit closed)
      have last := after.busy (by rw [State.isIdle, State.rakeOf, record]; rfl)
      exact ⟨last.record.trans record, last.request.trans (asks.trans (by rw [same.only .uptime (by decide)]; rfl))⟩
  · rw [due busy, if_neg (by rw [running]; exact Bool.false_ne_true)] at after
    have still : a.isIdle sc = false := by
      rw [State.isIdle, State.rakeOf, (in_use busy).record, show (s.written l .reverseS v).scr.screens.get sc = some r from here]
      simpa using busy
    exact (after.busy still).record.trans ((in_use busy).record.trans here)

end Sys2Proof.Machine
end

section
/-! What a write of the interval duration does to the screens, and what the limits of the differential do to the blinded state (R88, R90,
R91, R97, R101, R102). -/

namespace Sys2Proof.Machine

/-! ### A trigger -/

theorem State.trigger_hot (s : State) {sc : Screen} (idle : s.rakeOf sc = some .idle)
    (hot : s.inputs.rakeThermal.get sc = true) : s.trigger sc = s.failAndFire sc .thermal := by
  simp only [State.trigger, idle, hot, if_true]

theorem State.trigger_cool (s : State) {sc : Screen} (idle : s.rakeOf sc = some .idle)
    (cool : s.inputs.rakeThermal.get sc = false) : s.trigger sc = s.askScreen sc := by
  simp only [State.trigger, idle, cool, Bool.false_eq_true, if_false]

theorem State.trigger_inWork (s : State) {sc : Screen} {k : RakeState} (at_k : s.rakeOf sc = some k) (work : k.inWork = true) :
    s.trigger sc = s.modScreen sc fun r => { r with again := true } := by
  cases k with
  | idle | jammed | failed => cases work
  | waiting | forward | backoff => simp only [State.trigger, at_k]

theorem State.trigger_out (s : State) {sc : Screen} {k : RakeState} (at_k : s.rakeOf sc = some k)
    (out : k = .jammed ∨ k = .failed) : s.trigger sc = s := by
  rcases out with rfl | rfl <;> simp only [State.trigger, at_k]

theorem State.isIdle_askScreen (s : State) (sc : Screen) : (s.askScreen sc).isIdle sc = false := by
  cases permit : s.spm.permit with
  | spacing =>
    rw [s.askScreen_spacing sc permit]
    exact s.isIdle_setRake sc .waiting (by decide)
  | opened =>
    rw [s.askScreen_opened sc permit]
    unfold State.grantScreen
    dsimp only
    split
    · exact State.isIdle_setRake _ sc .backoff (by decide)
    · exact State.isIdle_setRake _ sc .forward (by decide)

theorem State.failAndFire_record (s : State) (sc : Screen) (c : RakeCause) :
    (s.failAndFire sc c).scr.screens.get sc =
      (s.scr.screens.get sc).map fun r =>
        { r with rake := .failed, cause := some c, homeLeave := none, cycle := none, reverse := none } :=
  (untouched_fire _ (s.isIdle_failScreen sc c)).record.trans (s.failScreen_record sc c)

theorem State.rakeOf_of_record {s : State} {sc : Screen} {r : ScreenRec} (h : s.scr.screens.get sc = some r) :
    s.rakeOf sc = some r.rake := by
  rw [State.rakeOf, h]
  rfl

theorem State.isIdle_of_record {s : State} {sc : Screen} {r : ScreenRec} (h : s.scr.screens.get sc = some r) :
    s.isIdle sc = decide (r.rake = .idle) := by
  rw [State.isIdle, State.rakeOf_of_record h]
  cases r.rake <;> rfl

/-- What a trigger leaves of the record it found (R88, R97). -/
structure TriggeredFrom (s : State) (sc : Screen) (r q : ScreenRec) : Prop where
  interval : q.interval = r.interval
  busy : q.rake ≠ .idle
  hot : r.rake = .idle → s.inputs.rakeThermal.get sc = true → q.rake = .failed ∧ q.cause = some .thermal
  cool : r.rake = .idle → s.inputs.rakeThermal.get sc = false → s.spm.permit = .spacing → q.rake = .waiting
  inWork : r.rake.inWork = true → q = { r with again := true }
  out : r.rake = .jammed ∨ r.rake = .failed → q = r

theorem TriggeredFrom.of_untouched {s t : State} {sc : Screen} {r q : ScreenRec} (k : TriggeredFrom t sc r q)
    (h : Untouched sc s t) : TriggeredFrom s sc r q :=
  { k with
    hot := fun idle hot => k.hot idle (by rwa [h.only .inputs (by decide)])
    cool := fun idle cool closed => k.cool idle (by rwa [h.only .inputs (by decide)]) (h.permit closed) }

theorem State.trigger_record (s : State) (sc : Screen) (r : ScreenRec) (here : s.scr.screens.get sc = some r) :
    ∃ q, (s.trigger sc).scr.screens.get sc = some q ∧ TriggeredFrom s sc r q := by
  have at_r := State.rakeOf_of_record here
  cases k : r.rake with
  | idle =>
    rw [k] at at_r
    cases thermal : s.inputs.rakeThermal.get sc with
    | true =>
      rw [s.trigger_hot at_r thermal, State.failAndFire_record, here]
      refine ⟨_, rfl, ?_⟩
      constructor <;> simp [k, thermal, RakeState.inWork]
    | false =>
      rw [s.trigger_cool at_r thermal]
      have busy := s.isIdle_askScreen sc
      have interval := s.intervalOf_askScreen sc
      rw [State.intervalOf, State.intervalOf, here] at interval
      obtain ⟨q, asked, same⟩ := Option.map_eq_some_iff.mp interval
      rw [State.isIdle_of_record asked] at busy
      refine ⟨q, asked, same, by simpa using busy, ?_, fun _ _ closed => ?_, ?_, ?_⟩
      · intro _ hot
        rw [thermal] at hot
        cases hot
      · rw [s.askScreen_record_spacing sc closed, here] at asked
        cases asked
        rfl
      · rw [k]
        intro work
        cases work
      · rw [k]
        rintro (out | out) <;> cases out
  | waiting | forward | backoff =>
    rw [k] at at_r
    rw [s.trigger_inWork at_r rfl, State.modScreen_scr, Duo.get_modify_self, here]
    refine ⟨_, rfl, ?_⟩
    constructor <;> simp [k]
  | jammed | failed =>
    rw [k] at at_r
    rw [s.trigger_out at_r (by simp), here]
    refine ⟨_, rfl, ?_⟩
    constructor <;> simp [k, RakeState.inWork]

/-! ### The interval duration -/

theorem State.endInterval_record (s : State) (sc : Screen) (r : ScreenRec) (here : s.scr.screens.get sc = some r) :
    ∃ q, (s.endInterval sc).scr.screens.get sc = some q ∧ TriggeredFrom s sc { r with interval := none } q := by
  have stopped : (s.modScreen sc fun r => { r with interval := none }).scr.screens.get sc = some { r with interval := none } := by
    rw [State.modScreen_scr, Duo.get_modify_self, here]
    rfl
  obtain ⟨q, found, t⟩ := State.trigger_record _ sc _ stopped
  exact ⟨q, found, t.interval, t.busy, t.hot, t.cool, t.inWork, t.out⟩

/-- The turn of a screen whose interval timer ends at the write, after the other's turn. -/
theorem endInterval_after {s a : State} {sc : Screen} {r : ScreenRec} (here : s.scr.screens.get sc = some r)
    (before : Aside sc s a) :
    ∃ q, (a.endInterval sc).scr.screens.get sc = some q ∧ TriggeredFrom s sc { r with interval := none } q := by
  have idle : s.isIdle sc = true → r.rake = .idle := fun h => by simpa [State.isIdle_of_record here] using h
  cases before with
  | clear _ h =>
    obtain ⟨q, found, k⟩ := a.endInterval_record sc r (h.record.trans here)
    exact ⟨q, found, k.of_untouched h⟩
  | failed u h at_idle hot =>
    have failed : (u.failScreen sc .thermal).scr.screens.get sc =
        some { r with rake := .failed, cause := some .thermal, homeLeave := none, cycle := none, reverse := none } := by
      rw [State.failScreen_record, h.record, here]
      rfl
    obtain ⟨q, found, k⟩ := State.endInterval_record _ sc _ failed
    have rested : q = _ := k.out (.inr rfl)
    refine ⟨q, found, k.interval, k.busy, fun _ _ => by rw [rested]; exact ⟨rfl, rfl⟩, fun _ cool => ?_, ?_, ?_⟩
    · rw [hot] at cool
      cases cool
    · simp [idle at_idle, RakeState.inWork]
    · simp [idle at_idle]
  | asked u h at_idle cool =>
    obtain ⟨x, asked, x_busy⟩ : ∃ x, (u.askScreen sc).scr.screens.get sc = some x ∧ x.rake ≠ .idle := by
      have interval := u.intervalOf_askScreen sc
      rw [State.intervalOf, State.intervalOf, h.record, here] at interval
      obtain ⟨x, asked, -⟩ := Option.map_eq_some_iff.mp interval
      have busy := u.isIdle_askScreen sc
      rw [State.isIdle_of_record asked] at busy
      exact ⟨x, asked, by simpa using busy⟩
    obtain ⟨q, found, k⟩ := State.endInterval_record _ sc _ asked
    refine ⟨q, found, k.interval, k.busy, fun _ hot => ?_, fun _ _ closed => ?_, ?_, ?_⟩
    · rw [cool] at hot
      cases hot
    · rw [State.askScreen_record_spacing u sc (h.permit closed), h.record, here] at asked
      cases asked
      rw [k.inWork rfl]
    · simp [idle at_idle, RakeState.inWork]
    · simp [idle at_idle]

theorem State.each_stopInterval (s : State) (sc : Screen) :
    (s.each No2.all fun t x => t.modScreen x fun r => { r with interval := none }).scr.screens.get sc =
      (s.scr.screens.get sc).map fun r => { r with interval := none } := by
  cases sc <;> rfl

theorem State.each_startInterval (s : State) (sc : Screen) :
    (s.each No2.all fun t x => t.modScreen x fun r => { r with interval := some t.uptime }).scr.screens.get sc =
      (s.scr.screens.get sc).map fun r => { r with interval := some s.uptime } := by
  cases sc <;> rfl

/-- A write of `rake_interval_min` seen at one screen: every timer stopped or started where either value is 0, and else each timer that
has run the new interval ended (R91). -/
theorem rakeIntervalMin_effect (s : State) (l : Link) (v : Nat) (sc : Screen) (r : ScreenRec)
    (here : s.scr.screens.get sc = some r) :
    let t := s.afterWrite l .rakeIntervalMin v
    let old := s.img.screen.rakeIntervalMin
    let passed : Bool := ran r.interval (v * 60) s.uptime
    (v = 0 → t.scr.screens.get sc = some { r with interval := none }) ∧
    (v ≠ 0 → old = 0 → t.scr.screens.get sc = some { r with interval := some s.uptime }) ∧
    (v ≠ 0 → old ≠ 0 → passed = false →
      ∃ q, t.scr.screens.get sc = some q ∧ q.interval = r.interval ∧ (r.rake ≠ .idle → q = r)) ∧
    (v ≠ 0 → old ≠ 0 → passed = true →
      ∃ q, t.scr.screens.get sc = some q ∧ TriggeredFrom s sc { r with interval := none } q) := by
  intro t old passed
  have written : (s.written l .rakeIntervalMin v).scr.screens.get sc = some r := here
  have moved : t = State.confirmWrite (if v = 0 then
        (s.written l .rakeIntervalMin v).each No2.all fun t sc => t.modScreen sc fun r => { r with interval := none }
      else if old = 0 then
        (s.written l .rakeIntervalMin v).each No2.all fun t sc => t.modScreen sc fun r => { r with interval := some t.uptime }
      else (s.written l .rakeIntervalMin v).each No2.all
        (State.lapseOf (fun t sc => t.screenTimer sc (·.interval)) (v * 60) State.endInterval)) l := rfl
  rw [moved]
  have lapsed := each_aside (f := State.lapseOf (fun t sc => t.screenTimer sc (·.interval)) (v * 60) State.endInterval)
    (aside_lapseOf fun t _ _ ne => aside_endInterval t ne) (s.written l .rakeIntervalMin v) sc
  have due : ∀ {a}, Aside sc (s.written l .rakeIntervalMin v) a →
      ran (a.screenTimer sc (·.interval)) (v * 60) a.uptime = passed := fun {a} before => by
    have timer : a.screenTimer sc (·.interval) = r.interval := by
      have h := before.interval
      rw [State.intervalOf, State.intervalOf, written] at h
      obtain ⟨x, found, same⟩ := Option.map_eq_some_iff.mp h
      rw [State.screenTimer, found]
      exact same
    rw [timer, before.only .uptime (by decide)]
    rfl
  refine ⟨fun zero => ?_, fun set zero => ?_, fun set kept running => ?_, fun set kept ended => ?_⟩
  · rw [if_pos zero]
    exact ((s.written l .rakeIntervalMin v).each_stopInterval sc).trans (congrArg (Option.map _) written)
  · rw [if_neg set, if_pos zero]
    exact ((s.written l .rakeIntervalMin v).each_startInterval sc).trans (congrArg (Option.map _) written)
  · rw [if_neg set, if_neg kept]
    obtain ⟨a, before, after⟩ := lapsed
    rw [State.lapseOf_eq, due before, if_neg (by rw [running]; exact Bool.false_ne_true)] at after
    have interval := after.interval.trans (before.interval.trans (congrArg (Option.map ScreenRec.interval) written))
    obtain ⟨q, found, same⟩ := Option.map_eq_some_iff.mp interval
    refine ⟨q, found, same, fun busy => ?_⟩
    have untouched := before.busy (by rw [State.isIdle_of_record written]; simpa using busy)
    have last := untouched.trans (after.busy (by
      rw [untouched.isIdle, State.isIdle_of_record written]
      simpa using busy))
    exact Option.some.inj ((found.symm.trans last.record).trans written)
  · rw [if_neg set, if_neg kept]
    obtain ⟨a, before, after⟩ := lapsed
    rw [State.lapseOf_eq, due before, if_pos ended] at after
    obtain ⟨q, found, k⟩ := endInterval_after written before
    have busy : (a.endInterval sc).isIdle sc = false := by
      rw [State.isIdle_of_record found]
      simpa using k.busy
    exact ⟨q, (after.busy busy).record.trans found, k.interval, k.busy, k.hot, k.cool, k.inWork, k.out⟩

/-! ### The blinded state -/

theorem State.setBlinded_blinded (s : State) (b : Blinded) : (s.setBlinded b).scr.blinded = b := by
  rw [State.setBlinded, only_setCondition _ _ _ .scr (by decide), only_reportIf _ _ _ .scr (by decide)]

theorem State.isBlinded_congr {s t : State} (h : t.scr.blinded = s.scr.blinded) : t.isBlinded = s.isBlinded := by
  rw [State.isBlinded, h, State.isBlinded]

theorem State.judgeBlinded_unknown (s : State) (unknown : s.differential = none) :
    s.judgeBlinded.isBlinded = s.isBlinded := by
  cases k : s.scr.blinded with
  | clear | blinded => simp only [State.judgeBlinded, unknown, k]
  | pending e t =>
    simp only [State.judgeBlinded, unknown, k]
    rw [State.isBlinded, State.setBlinded_blinded, State.isBlinded, k]
    rfl

theorem State.judgeBlinded_clear (s : State) {d : Int} (known : s.differential = some d) (clear : s.scr.blinded = .clear) :
    s.judgeBlinded.scr.blinded = if (s.img.screen.blindMm : Int) ≤ d then .pending 0 (some s.uptime) else .clear := by
  simp only [State.judgeBlinded, known, clear, decide_eq_true_eq]
  split
  · exact s.setBlinded_blinded _
  · exact clear

theorem State.judgeBlinded_pending (s : State) {d : Int} {e t0 : Nat} (known : s.differential = some d)
    (pending : s.scr.blinded = .pending e (some t0)) :
    s.judgeBlinded.scr.blinded =
      if d < s.img.screen.blindMm then .clear
      else if s.img.screen.blindS * 1000 ≤ e + (s.uptime - t0) then .blinded else .pending e (some t0) := by
  simp only [State.judgeBlinded, known, pending, decide_eq_true_eq]
  by_cases high : (s.img.screen.blindMm : Int) ≤ d
  · rw [if_pos high, if_neg (not_lt.mpr high)]
    by_cases run : seconds s.img.screen.blindS ≤ s.blindElapsed e (some t0)
    · rw [if_pos run, if_pos (show s.img.screen.blindS * 1000 ≤ e + (s.uptime - t0) from run)]
      exact s.setBlinded_blinded _
    · rw [if_neg run, if_neg (show ¬s.img.screen.blindS * 1000 ≤ e + (s.uptime - t0) from run)]
      exact pending
  · rw [if_neg high, if_pos (not_le.mp high)]
    exact s.setBlinded_blinded _

theorem State.judgeBlinded_blinded (s : State) {d : Int} (known : s.differential = some d) (blinded : s.scr.blinded = .blinded)
    (high : (s.img.screen.rakeStart : Int) ≤ d) : s.judgeBlinded.scr.blinded = .blinded := by
  simp only [State.judgeBlinded, known, blinded, if_neg (not_lt.mpr high)]

theorem cfg_judgeBlinded_reform (s : State) (l : Link) : (s.judgeBlinded.reform.confirmWrite l).cfg = s.cfg :=
  (only_confirmWrite s.judgeBlinded.reform l .cfg (by decide)).trans
    (((moves_reform s.judgeBlinded).only .cfg (by decide)).trans (only_judgeBlinded s .cfg (by decide)))

/-- A write of a limit of the blinded state has the state judged as it stands (R101, R102). -/
theorem blindLimit_effect (s : State) (l : Link) (x : Setting) (v : Nat) (h : x = .blindMm ∨ x = .blindS) :
    let t := s.afterWrite l x v
    let m := t.img.screen
    t = (s.written l x v).judgeBlinded.reform.confirmWrite l ∧
    (s.differential = none → t.isBlinded = s.isBlinded) ∧
    (∀ d, s.differential = some d →
      (s.scr.blinded = .clear →
        t.scr.blinded = if (m.blindMm : Int) ≤ d then .pending 0 (some s.uptime) else .clear) ∧
      (∀ e t0, s.scr.blinded = .pending e (some t0) →
        t.scr.blinded =
          if d < m.blindMm then .clear
          else if m.blindS * 1000 ≤ e + (s.uptime - t0) then .blinded else .pending e (some t0)) ∧
      (s.scr.blinded = .blinded → (m.rakeStart : Int) ≤ d → t.scr.blinded = .blinded)) := by
  intro t m
  have moved : t = (s.written l x v).judgeBlinded.reform.confirmWrite l := by rcases h with rfl | rfl <;> rfl
  have same : (s.written l x v).differential = s.differential := by rcases h with rfl | rfl <;> rfl
  have blinded : t.scr.blinded = (s.written l x v).judgeBlinded.scr.blinded := by
    rw [moved]
    exact (moves_reform _).blinded
  have img : m = (s.written l x v).img.screen := by
    exact congrArg (fun c => c.live.screen) ((congrArg State.cfg moved).trans (cfg_judgeBlinded_reform (s.written l x v) l))
  rw [img]
  refine ⟨moved, fun unknown => ?_, fun d known => ⟨fun clear => ?_, fun e t0 pending => ?_, fun at_blinded high => ?_⟩⟩
  · exact (State.isBlinded_congr blinded).trans ((s.written l x v).judgeBlinded_unknown (same.trans unknown))
  · exact blinded.trans ((s.written l x v).judgeBlinded_clear (same.trans known) clear)
  · exact blinded.trans ((s.written l x v).judgeBlinded_pending (same.trans known) pending)
  · exact blinded.trans ((s.written l x v).judgeBlinded_blinded (same.trans known) at_blinded high)

end Sys2Proof.Machine
end

section
/-! Screens that a write of `screens_installed` takes out or puts in (R10, R102, R105, R144). -/

namespace Sys2Proof.Machine

/-! ### A screen's own part -/

/-- What the installation of a screen can move: its record, its request and its two conditions. -/
def screenPart (sc : Screen) (s : State) : Option ScreenRec × Option Request × Bool × Bool :=
  (s.scr.screens.get sc, s.requestOf (.screen sc), s.condition (.rakeJam sc), s.condition (.rakeFailed sc))

theorem screenPart_eq {sc : Screen} {s t : State} (record : t.scr.screens.get sc = s.scr.screens.get sc)
    (request : t.requestOf (.screen sc) = s.requestOf (.screen sc))
    (jam : t.condition (.rakeJam sc) = s.condition (.rakeJam sc))
    (failed : t.condition (.rakeFailed sc) = s.condition (.rakeFailed sc)) : screenPart sc t = screenPart sc s := by
  simp only [screenPart, record, request, jam, failed]

/-- A step that moves neither screens nor requests, and no point of theirs. -/
theorem screenPart_of_only {bs : List Block} {A : Set AlarmPoint} {sc : Screen} {s t : State} (only : OnlyIn bs s t)
    (points : OnlyPoints A s t) (jam : AlarmPoint.rakeJam sc ∉ A) (failed : AlarmPoint.rakeFailed sc ∉ A)
    (scr : Block.scr ∉ bs := by decide) (spm : Block.spm ∉ bs := by decide) : screenPart sc t = screenPart sc s :=
  screenPart_eq (by rw [only .scr scr]) (State.requestOf_congr (only .spm spm) _) (points.condition jam)
    (points.condition failed)

theorem Untouched.screenPart {sc : Screen} {s t : State} (h : Untouched sc s t) : screenPart sc t = screenPart sc s :=
  screenPart_eq h.record h.request h.jam h.failed

/-- A screen with no request keeps its part through a formation of the run set. -/
theorem DutyMoves.screenPart {asks : Bool} {s t : State} (h : DutyMoves asks s t) {sc : Screen}
    (unasked : s.requestOf (.screen sc) = none) : screenPart sc t = screenPart sc s :=
  screenPart_eq (h.screens sc unasked).2 ((h.screens sc unasked).1.trans unasked.symm)
    (h.condition fun p => by simp) (h.condition fun p => by simp)

/-! ### Uninstallation and installation -/

theorem only_uninstallScreen (s : State) (sc : Screen) : OnlyIn [.spm, .scr, .alm] s (s.uninstallScreen sc) :=
  ((((only_withdraw s _).next (cs := [.spm, .scr, .alm]) (only_scr _ _)).next (cs := [.spm, .scr, .alm])
    (only_report _ _)).next (cs := [.spm, .scr, .alm]) (only_clearPoint _ _)).next (only_clearPoint _ _)

theorem screenPart_uninstallScreen_self (s : State) (sc : Screen) :
    screenPart sc (s.uninstallScreen sc) = (none, none, false, false) := by
  unfold State.uninstallScreen
  dsimp only
  generalize e : ({ s.withdraw (.screen sc) with
    scr := { (s.withdraw (.screen sc)).scr with screens := (s.withdraw (.screen sc)).scr.screens.set sc none } } : State).report
      .screens = w
  have request : w.requestOf (.screen sc) = none := e ▸ s.requestOf_withdraw_self _
  have record : w.scr.screens.get sc = none := e ▸ Duo.get_set_self _ _ _
  have cleared : OnlyIn [.alm] w ((w.clearPoint (.rakeJam sc)).clearPoint (.rakeFailed sc)) :=
    (only_clearPoint _ _).trans (only_clearPoint _ _)
  have jam : ((w.clearPoint (.rakeJam sc)).clearPoint (.rakeFailed sc)).condition (.rakeJam sc) = false :=
    ((points_clearPoint _ _).condition (by simp)).trans (State.condition_clearPoint_self _ _)
  rw [screenPart, cleared .scr (by decide), record, State.requestOf_congr (cleared .spm (by decide)), request, jam,
    State.condition_clearPoint_self]

theorem screenPart_uninstallScreen_ne (s : State) (x sc : Screen) (h : sc ≠ x) :
    screenPart sc (s.uninstallScreen x) = screenPart sc s := by
  have cleared : ∀ w : State, screenPart sc ((w.clearPoint (.rakeJam x)).clearPoint (.rakeFailed x)) = screenPart sc w :=
    fun w => (screenPart_of_only (only_clearPoint _ _) (points_clearPoint _ _) (by simp) (by simpa using h)).trans
      (screenPart_of_only (only_clearPoint _ _) (points_clearPoint _ _) (by simpa using h) (by simp))
  refine (cleared _).trans (screenPart_eq ?_ (s.requestOf_withdraw_ne (by simpa using h)) rfl rfl)
  exact Duo.get_set_ne _ _ h

theorem only_installScreen (s : State) (sc : Screen) : OnlyIn [.scr, .alm] s (s.installScreen sc) :=
  (only_scr s _).next (only_report _ _)

theorem screenPart_installScreen_self (s : State) (sc : Screen) :
    screenPart sc (s.installScreen sc) =
      (some (.atStart s.intervalTimer), s.requestOf (.screen sc), s.condition (.rakeJam sc), s.condition (.rakeFailed sc)) :=
  screenPart_eq (s := { s with scr := { s.scr with screens := s.scr.screens.set sc (some (.atStart s.intervalTimer)) } })
    rfl rfl rfl rfl |>.trans (by rw [screenPart, Duo.get_set_self]; rfl)

theorem screenPart_installScreen_ne (s : State) (x sc : Screen) (h : sc ≠ x) :
    screenPart sc (s.installScreen x) = screenPart sc s :=
  screenPart_eq (Duo.get_set_ne _ _ h) rfl rfl rfl

theorem screenPart_clearBlinded (s : State) (sc : Screen) : screenPart sc s.clearBlinded = screenPart sc s := by
  unfold State.clearBlinded
  split
  · refine (screenPart_of_only (only_clearPoint _ _) (points_clearPoint _ _) (by simp) (by simp)).trans ?_
    refine (screenPart_of_only (only_reportIf _ _ _) (points_reportIf (A := ∅) _ _ _) (by simp) (by simp)).trans ?_
    exact screenPart_eq rfl rfl rfl rfl
  · rfl

theorem clearBlinded_of_none (s : State) (no_screen : s.img.units.screensInstalled = 0) :
    s.clearBlinded.scr.blinded = .clear ∧ s.clearBlinded.condition .screenBlinded = false := by
  rw [State.clearBlinded, if_pos no_screen]
  refine ⟨?_, State.condition_clearPoint_self _ _⟩
  rw [only_clearPoint _ _ .scr (by decide), only_reportIf _ _ _ .scr (by decide)]

/-! ### A write of `screens_installed` -/

theorem State.diffHigh_congr {s t : State} (lvu : t.lvu = s.lvu) (cfg : t.cfg = s.cfg) : t.diffHigh = s.diffHigh := by
  cases s; cases t; cases lvu; cases cfg; rfl

theorem State.fire_of_low (s : State) (low : s.diffHigh = false) : s.fire = s := by
  rw [State.fire, State.fireUpTo, low, if_neg Bool.false_ne_true]

/-- The screens taken out and put in, before the formation of the write. -/
def State.screensSettled (s old : State) : State :=
  ((s.each (No2.all.filter fun sc => old.screenIn sc && !s.screenIn sc) State.uninstallScreen).followInstalls.each
    (No2.all.filter fun sc => s.screenIn sc && !old.screenIn sc) State.installScreen).clearBlinded

/-- The formation, and the trigger where a screen came. -/
def State.screensFired (s old t : State) : State :=
  if (No2.all.filter fun sc => s.screenIn sc && !old.screenIn sc).isEmpty then t.reform else t.reform.fire

theorem screensSettled_gone (s old : State) (sc : Screen) (was : old.screenIn sc = true) (out : s.screenIn sc = false) :
    screenPart sc (s.screensSettled old) = (none, none, false, false) := by
  have absent : sc ∉ No2.all.filter fun sc => s.screenIn sc && !old.screenIn sc := by simp [out]
  have present : sc ∈ No2.all.filter fun sc => old.screenIn sc && !s.screenIn sc := by simp [out, was, No2.mem_all]
  obtain ⟨u, _, _, _, turn⟩ := State.each_turn screenPart only_uninstallScreen screenPart_uninstallScreen_ne
    (List.Nodup.filter _ (by decide)) present s
  rw [State.screensSettled, screenPart_clearBlinded, State.each_other screenPart screenPart_installScreen_ne absent,
    screenPart_of_only (only_followInstalls _) (points_followInstalls _) (by simp [channelFaults]) (by simp [channelFaults]), turn,
    screenPart_uninstallScreen_self]

theorem screensSettled_come (s old : State) (sc : Screen) (was : old.screenIn sc = false) (inn : s.screenIn sc = true) :
    screenPart sc (s.screensSettled old) =
      (some (.atStart s.intervalTimer), s.requestOf (.screen sc), s.condition (.rakeJam sc), s.condition (.rakeFailed sc)) := by
  have absent : sc ∉ No2.all.filter fun sc => old.screenIn sc && !s.screenIn sc := by simp [was]
  have present : sc ∈ No2.all.filter fun sc => s.screenIn sc && !old.screenIn sc := by simp [inn, was, No2.mem_all]
  have kept : screenPart sc (s.each (No2.all.filter fun sc => old.screenIn sc && !s.screenIn sc)
      State.uninstallScreen).followInstalls = screenPart sc s := by
    rw [screenPart_of_only (only_followInstalls _) (points_followInstalls _) (by simp [channelFaults]) (by simp [channelFaults]),
      State.each_other screenPart screenPart_uninstallScreen_ne absent]
  have gone := (OnlyIn.mono (bs := [.lvu, .spm, .scr, .alm]) (.each only_uninstallScreen
    (No2.all.filter fun sc => old.screenIn sc && !s.screenIn sc) s) (by decide)).trans ((only_followInstalls _).mono (by decide))
  rw [State.screensSettled, screenPart_clearBlinded]
  generalize (s.each (No2.all.filter fun sc => old.screenIn sc && !s.screenIn sc) State.uninstallScreen).followInstalls = c at *
  obtain ⟨u, o, same, _, turn⟩ := State.each_turn screenPart only_installScreen screenPart_installScreen_ne
    (List.Nodup.filter _ (by decide)) present c
  have reached := gone.trans (o.mono (by decide))
  have timer : u.intervalTimer = s.intervalTimer := by
    rw [State.intervalTimer, State.img, reached .cfg (by decide), reached .uptime (by decide)]
    rfl
  rw [turn, screenPart_installScreen_self, timer]
  exact congrArg (Prod.mk _) (congrArg Prod.snd (same.trans kept))

/-- With no screen left the blinded state is CLEAR, and none came to trigger (R102, R144). -/
theorem screensSettled_none (s old : State) (no_screen : s.img.units.screensInstalled = 0) :
    (s.screensSettled old).scr.blinded = .clear ∧ (s.screensSettled old).condition .screenBlinded = false := by
  refine clearBlinded_of_none _ ?_
  rw [State.img, OnlyIn.each only_installScreen _ _ .cfg (by decide), only_followInstalls _ .cfg (by decide),
    OnlyIn.each only_uninstallScreen _ _ .cfg (by decide)]
  exact no_screen

theorem screensFired_none (s old t : State) (no_screen : s.img.units.screensInstalled = 0) :
    s.screensFired old t = t.reform := by
  have out : ∀ sc, s.screenIn sc = false := fun sc => by
    rw [State.screenIn, no_screen]
    cases sc <;> rfl
  simp [State.screensFired, out]

theorem screenPart_screensFired (s old t : State) {sc : Screen} (unasked : t.requestOf (.screen sc) = none)
    (still : t.isIdle sc = false ∨ t.reform.diffHigh = false) : screenPart sc (s.screensFired old t) = screenPart sc t := by
  have formed := (moves_reform t).screenPart unasked
  have idle : t.reform.isIdle sc = t.isIdle sc := by
    rw [State.isIdle, State.rakeOf, ((moves_reform t).screens sc unasked).2, State.isIdle, State.rakeOf]
  unfold State.screensFired
  split
  · exact formed
  · rcases still with busy | low
    · exact (untouched_fire _ (idle.trans busy)).screenPart.trans formed
    · rw [State.fire_of_low _ low]
      exact formed

theorem screensFired_diffHigh (s old t : State) (l : Link) :
    ((s.screensFired old t).judgeOutputs.confirmWrite l).diffHigh = t.reform.diffHigh := by
  have fired : OnlyIn [.scr, .spm, .alm] t.reform (s.screensFired old t) := by
    unfold State.screensFired
    split
    · exact .refl _ _
    · exact only_fire _
  have told : OnlyIn [.scr, .spm, .alm, .lnk] t.reform ((s.screensFired old t).judgeOutputs.confirmWrite l) :=
    ((fired.mono (by decide)).trans ((only_judgeOutputs _).mono (by decide))).trans
      ((only_confirmWrite _ l).mono (by decide))
  exact State.diffHigh_congr (told .lvu (by decide)) (told .cfg (by decide))

theorem afterWrite_screensInstalled (s : State) (l : Link) (v : Nat) :
    s.afterWrite l .screensInstalled v =
      ((s.written l .screensInstalled v).screensFired (s.arrived l)
        ((s.written l .screensInstalled v).screensSettled (s.arrived l))).judgeOutputs.confirmWrite l := rfl

theorem screenPart_judgeOutputs_confirm (s : State) (sc : Screen) (l : Link) :
    screenPart sc (s.judgeOutputs.confirmWrite l) = screenPart sc s := rfl

/-- A write of `screens_installed` with the requests in order (R102, R105). -/
theorem screensInstalled_effect (s : State) (l : Link) (v : Nat) (ok : RequestsOk s) :
    let t := s.afterWrite l .screensInstalled v
    (v = 0 → t.scr.blinded = .clear ∧ t.condition .screenBlinded = false) ∧
    ∀ sc,
      (s.screenIn sc = true → v < sc.toNat →
        t.scr.screens.get sc = none ∧ t.requestOf (.screen sc) = none ∧ t.condition (.rakeJam sc) = false ∧
        t.condition (.rakeFailed sc) = false) ∧
      (s.screenIn sc = false → sc.toNat ≤ v → t.diffHigh = false →
        t.scr.screens.get sc =
          some (.atStart (if s.img.screen.rakeIntervalMin = 0 then none else some s.uptime))) := by
  rw [afterWrite_screensInstalled]
  refine ⟨fun zero => ?_, fun sc => ⟨fun was out => ?_, fun was inn low => ?_⟩⟩
  · subst zero
    obtain ⟨clear, absent⟩ := screensSettled_none (s.written l .screensInstalled 0) (s.arrived l) rfl
    rw [screensFired_none _ _ _ rfl]
    generalize (s.written l .screensInstalled 0).screensSettled (s.arrived l) = w at *
    have formed : w.reform.scr.blinded = .clear := (moves_reform w).blinded.trans clear
    have told : w.reform.condition .screenBlinded = false := ((moves_reform w).condition fun p => by simp).trans absent
    generalize w.reform = d at *
    exact ⟨formed, told⟩
  · have gone : (s.written l .screensInstalled v).screenIn sc = false := decide_eq_false (Nat.not_le.mpr out)
    have part := screensSettled_gone (s.written l .screensInstalled v) (s.arrived l) sc was gone
    generalize (s.written l .screensInstalled v).screensSettled (s.arrived l) = w at *
    have record : w.scr.screens.get sc = none := congrArg Prod.fst part
    have fired := screenPart_screensFired (s.written l .screensInstalled v) (s.arrived l) w
      (congrArg (·.2.1) part) (.inl (by rw [State.isIdle, State.rakeOf, record]; rfl))
    have final := (screenPart_judgeOutputs_confirm _ sc l).trans (fired.trans part)
    exact ⟨congrArg Prod.fst final, congrArg (·.2.1) final, congrArg (·.2.2.1) final, congrArg (·.2.2.2) final⟩
  · have come : (s.written l .screensInstalled v).screenIn sc = true := decide_eq_true inn
    have part := screensSettled_come (s.written l .screensInstalled v) (s.arrived l) sc was come
    generalize (s.written l .screensInstalled v).screensSettled (s.arrived l) = w at *
    have unasked : s.requestOf (.screen sc) = none := ok.request_none (by
      rw [State.rakeOf, ok.installed sc was]
      simp)
    have reform_low : w.reform.diffHigh = false := (screensFired_diffHigh _ _ w l).symm.trans low
    have fired := screenPart_screensFired (s.written l .screensInstalled v) (s.arrived l) w
      ((congrArg (·.2.1) part).trans unasked) (.inr reform_low)
    exact congrArg Prod.fst ((screenPart_judgeOutputs_confirm _ sc l).trans (fired.trans part))

end Sys2Proof.Machine
end

section
/-! What a write of Chapter 6's durations, crests and heads does to the points (R107, R110 to R114, R118, R119, R122). -/

namespace Sys2Proof.Machine

/-! ### A point's own record -/

/-- The record of a point, none while it is uninstalled. -/
def State.pointRec (s : State) (pt : Point) : Option PointRec := s.ovm.points.get pt

theorem OnlyIn.pointRec {bs : List Block} {s t : State} (h : OnlyIn bs s t) (pt : Point)
    (k : Block.ovm ∉ bs := by decide) : t.pointRec pt = s.pointRec pt :=
  congrArg (fun o : OverflowMonitor => o.points.get pt) (h .ovm k)

theorem State.pointRec_modPoint (s : State) (pt : Point) (f : PointRec → PointRec) :
    (s.modPoint pt f).pointRec pt = (s.pointRec pt).map f := Duo.get_modify_self _ _ _

/-- The moves of a point leave it installed. -/
theorem PointMoves.stays {pt : Point} {s t : State} (h : PointMoves pt s t) {r : PointRec} (here : s.pointRec pt = some r) :
    ∃ q, t.pointRec pt = some q := by
  induction h with
  | refl => exact ⟨r, here⟩
  | tail _ m ih =>
    obtain ⟨q, found⟩ := ih
    cases m with
    | record f => exact ⟨f q, by rw [State.pointRec_modPoint, found]; rfl⟩
    | credit f => exact ⟨q, ((only_credit _ f).pointRec pt).trans found⟩
    | append b => exact ⟨q, ((only_append _ b).pointRec pt).trans found⟩
    | told c => exact ⟨q, ((only_setCondition _ _ c).pointRec pt).trans found⟩
    | predict => exact ⟨q, ((only_predict _).pointRec pt).trans found⟩

theorem State.closeEpisode_record (s : State) (pt : Point) {r : PointRec} {e : Episode} (here : s.pointRec pt = some r)
    (opened : r.episode = some e) (w : Stamp) (d : Nat) (why : EndReason) :
    (s.closeEpisode pt w d why).pointRec pt = some r.toDry := by
  have found : (s.ovm.points.get pt).bind (·.episode) = some e := by
    rw [show s.ovm.points.get pt = some r from here]
    exact opened
  simp only [State.closeEpisode, found]
  rw [(only_followOpen _ _).pointRec pt, (only_setCondition _ _ _).pointRec pt, State.pointRec_modPoint,
    (only_append _ _).pointRec pt, here]
  rfl

theorem State.endNormally_record (s : State) (pt : Point) {r : PointRec} {e : Episode} (here : s.pointRec pt = some r)
    (opened : r.episode = some e) : (s.endNormally pt).pointRec pt = some r.toDry := by
  have found : (s.ovm.points.get pt).bind (·.episode) = some e := by
    rw [show s.ovm.points.get pt = some r from here]
    exact opened
  simp only [State.endNormally, found]
  split
  · exact s.closeEpisode_record pt here opened _ _ _
  · exact s.closeEpisode_record pt here opened _ _ _

theorem State.endLost_record (s : State) (pt : Point) {r : PointRec} {e : Episode} (here : s.pointRec pt = some r)
    (opened : r.episode = some e) : (s.endLost pt).pointRec pt = some r.toDry := by
  have found : (s.ovm.points.get pt).bind (·.episode) = some e := by
    rw [show s.ovm.points.get pt = some r from here]
    exact opened
  simp only [State.endLost, found]
  split
  · exact s.closeEpisode_record pt here opened _ _ _
  · exact s.closeEpisode_record pt here opened _ _ _

theorem State.openEpisode_record (s : State) (pt : Point) {r : PointRec} {e : Episode} (here : s.pointRec pt = some r)
    (opened : r.episode = some e) :
    ∃ q, (s.openEpisode pt).pointRec pt = some q ∧ q.state = .spilling ∧ q.confirm = none := by
  simp only [State.openEpisode, show s.ovm.points.get pt = some r from here, opened]
  rw [(only_followOpen _ _).pointRec pt, (only_setCondition _ _ _).pointRec pt, (only_append _ _).pointRec pt,
    (only_credit _ _).pointRec pt, State.creditSpill, State.pointRec_modPoint, (only_credit _ _).pointRec pt,
    State.pointRec_modPoint, here]
  exact ⟨_, rfl, rfl, rfl⟩

/-! ### The confirm and the end duration -/

theorem afterWrite_ovfConfirmS (s : State) (l : Link) (v : Nat) :
    s.afterWrite l .ovfConfirmS v =
      ((s.written l .ovfConfirmS v).each No2.all
        (State.lapseOf (fun t pt => t.pointTimer pt (·.confirm)) v State.openEpisode)).reform.confirmWrite l := rfl

theorem pointRec_reform_confirm (s : State) (l : Link) (pt : Point) :
    (s.reform.confirmWrite l).pointRec pt = s.pointRec pt := (only_reform s).pointRec pt

theorem ovfConfirmS_effect (s : State) (l : Link) (v : Nat) (pt : Point) (r : PointRec) (here : s.pointRec pt = some r)
    (recorded : r.episode.isSome = true) :
    let t := s.afterWrite l .ovfConfirmS v
    (ran r.confirm v s.uptime = true → ∃ q, t.pointRec pt = some q ∧ q.state = .spilling ∧ q.confirm = none) ∧
    (ran r.confirm v s.uptime = false → t.pointRec pt = some r) := by
  obtain ⟨e, opened⟩ := Option.isSome_iff_exists.mp recorded
  intro t
  have moved : t.pointRec pt = _ := (congrArg (fun u : State => u.pointRec pt) (afterWrite_ovfConfirmS s l v)).trans
    (pointRec_reform_confirm _ l pt)
  have timer : (s.written l .ovfConfirmS v).pointTimer pt (·.confirm) = r.confirm := by
    rw [State.pointTimer, show (s.written l .ovfConfirmS v).ovm.points.get pt = some r from here]
    rfl
  obtain ⟨lapsed, kept⟩ := State.each_lapse (timer := fun t pt => t.pointTimer pt (·.confirm)) (secs := v)
    (f := State.openEpisode) (fun pt t => t.pointRec pt) only_openEpisode
    (fun u x y ne => (moves_openEpisode u x).others ne)
    (fun s t x same => congrArg (fun o : Option PointRec => o.bind (·.confirm)) same) (by decide)
    (xs := No2.all) (by decide) (No2.mem_all pt) (s.written l .ovfConfirmS v)
  simp only [timer] at lapsed kept
  rw [moved]
  refine ⟨fun ran => ?_, fun running => (kept running).trans here⟩
  obtain ⟨u, _, same, _, turn⟩ := lapsed ran
  obtain ⟨q, found, shape⟩ := u.openEpisode_record pt (same.trans here) opened
  exact ⟨q, turn.trans found, shape⟩

/-- A point's turn at a changed `end_confirm_s`: its end timer, then its level-loss timer (R122). -/
def State.lapseEnd (secs : Nat) (s : State) (pt : Point) : State :=
  (s.lapseOf (fun t pt => t.pointTimer pt fun r => r.endTimer.timer) secs State.endNormally pt).lapseOf
    (fun t pt => t.pointTimer pt (·.lossTimer)) secs State.endLost pt

theorem moves_lapseOf {timer : State → Point → Timer} {secs : Nat} {f : State → Point → State}
    (moves : ∀ s pt, PointMoves pt s (f s pt)) (s : State) (pt : Point) : PointMoves pt s (s.lapseOf timer secs f pt) := by
  rw [State.lapseOf_eq]
  exact .when _ (moves s pt)

theorem moves_lapseEnd (secs : Nat) (s : State) (pt : Point) : PointMoves pt s (s.lapseEnd secs pt) :=
  (moves_lapseOf moves_endNormally s pt).trans (moves_lapseOf moves_endLost _ pt)

theorem State.lapseEnd_record (s : State) (secs : Nat) (pt : Point) {r : PointRec} {e : Episode} (here : s.pointRec pt = some r)
    (opened : r.episode = some e) :
    (s.lapseEnd secs pt).pointRec pt =
      if ran r.endTimer.timer secs s.uptime || ran r.lossTimer secs s.uptime then some r.toDry else some r := by
  have timer : ∀ (u : State) (q : PointRec) (f : PointRec → Timer), u.pointRec pt = some q → u.pointTimer pt f = f q :=
    fun u q f h => by
      rw [State.pointTimer, show u.ovm.points.get pt = some q from h]
      rfl
  rw [State.lapseEnd, State.lapseOf_eq (f := State.endNormally), timer s r _ here]
  by_cases ended : ran r.endTimer.timer secs s.uptime = true
  · have dry := s.endNormally_record pt here opened
    rw [if_pos ended, ended, Bool.true_or, if_pos rfl, State.lapseOf_eq, timer _ _ (·.lossTimer) dry]
    exact dry
  · rw [if_neg ended, eq_false_of_ne_true ended, Bool.false_or, State.lapseOf_eq, timer s r _ here]
    split
    · exact s.endLost_record pt here opened
    · exact here

theorem afterWrite_endConfirmS (s : State) (l : Link) (v : Nat) :
    s.afterWrite l .endConfirmS v =
      ((s.written l .endConfirmS v).each No2.all (State.lapseEnd v)).reform.confirmWrite l := rfl

theorem endConfirmS_effect (s : State) (l : Link) (v : Nat) (pt : Point) (r : PointRec) (here : s.pointRec pt = some r)
    (recorded : r.episode.isSome = true) :
    let t := s.afterWrite l .endConfirmS v
    let ended : Bool := ran r.endTimer.timer v s.uptime || ran r.lossTimer v s.uptime
    (ended = true → ∃ q, t.pointRec pt = some q ∧ q.state = .dry ∧ q.episode = none) ∧
    (ended = false → t.pointRec pt = some r) := by
  obtain ⟨e, opened⟩ := Option.isSome_iff_exists.mp recorded
  intro t ended
  have moved : t.pointRec pt = _ := (congrArg (fun u : State => u.pointRec pt) (afterWrite_endConfirmS s l v)).trans
    (pointRec_reform_confirm _ l pt)
  obtain ⟨u, before, same, _, turn⟩ := State.each_turn (f := State.lapseEnd v) (fun pt t => t.pointRec pt)
    (fun t x => (moves_lapseEnd v t x).only) (fun u x y ne => (moves_lapseEnd v u x).others ne)
    (xs := No2.all) (by decide) (No2.mem_all pt) (s.written l .endConfirmS v)
  have last := (moved.trans turn).trans (u.lapseEnd_record v pt (same.trans here) opened)
  rw [before .uptime (by decide)] at last
  refine ⟨fun h => ⟨_, last.trans (if_pos h), rfl, rfl⟩, fun h => last.trans (if_neg ?_)⟩
  exact fun k => Bool.false_ne_true (h.symm.trans k)

/-! ### The crest -/

theorem State.startEnd_record (s : State) (pt : Point) {r : PointRec} (here : s.pointRec pt = some r)
    (window : s.img.ovf.endConfirmS ≠ 0) : ∃ q, (s.startEnd pt).pointRec pt = some q ∧ q.state = .ending := by
  simp only [State.startEnd, if_neg window]
  rw [State.pointRec_modPoint, here]
  exact ⟨_, rfl, rfl⟩

theorem State.candidate_record (s : State) (pt : Point) {r : PointRec} (here : s.pointRec pt = some r) (head : Int) :
    ∃ q, (s.candidate pt head).pointRec pt = some q ∧
      q.state = if s.img.ovf.ovfConfirmS = 0 then .spilling else .confirming := by
  have confirming : (s.modPoint pt fun r =>
      { r with
        state := .confirming
        confirm := some s.uptime
        pending := some 0
        episode := some ⟨s.now, 0, none, none, head.toNat, 0, false⟩ }).pointRec pt = some
      { r with
        state := .confirming
        confirm := some s.uptime
        pending := some 0
        episode := some ⟨s.now, 0, none, none, head.toNat, 0, false⟩ } := by
    rw [State.pointRec_modPoint, here]
    rfl
  unfold State.candidate
  dsimp only
  split
  · obtain ⟨q, found, spilling, -⟩ := State.openEpisode_record _ pt confirming rfl
    exact ⟨q, found, spilling⟩
  · exact ⟨_, confirming, rfl⟩

/-- What a known head makes of a point that is not in ENDING (R107, R110, R111, R113). -/
theorem State.judgePoint_record (s : State) (pt : Point) {r : PointRec} {head : Int} (here : s.pointRec pt = some r)
    (known : s.head pt = some head) :
    ∃ q, (s.judgePoint pt).pointRec pt = some q ∧
      (r.state = .dry →
        q.state =
          if (s.img.ovf.startHead : Int) ≤ head then (if s.img.ovf.ovfConfirmS = 0 then .spilling else .confirming)
          else .dry) ∧
      (r.state = .confirming → q.state = if head < s.img.ovf.startHead then .dry else .confirming) ∧
      (r.state = .spilling → s.img.ovf.endConfirmS ≠ 0 → q.state = if head < s.img.ovf.endHead then .ending else .spilling) := by
  have seen : (s.modPoint pt fun r => r.see head).pointRec pt = some (r.see head) := by
    rw [State.pointRec_modPoint, here]
    rfl
  have installed : s.ovm.points.get pt = some r := here
  cases st : r.state with
  | dry =>
    simp only [State.judgePoint, installed, known, st]
    by_cases over_start : (s.img.ovf.startHead : Int) ≤ head
    · obtain ⟨q, found, state⟩ := State.candidate_record _ pt seen head
      rw [if_pos over_start, if_pos over_start]
      exact ⟨q, found, fun _ => state, nofun, nofun⟩
    · rw [if_neg over_start, if_neg over_start]
      exact ⟨_, seen, fun _ => st, nofun, nofun⟩
  | confirming =>
    simp only [State.judgePoint, installed, known, st]
    by_cases under : head < (s.img.ovf.startHead : Int)
    · rw [if_pos under, if_pos under, State.dropCandidate, State.pointRec_modPoint, seen]
      exact ⟨_, rfl, nofun, fun _ => rfl, nofun⟩
    · rw [if_neg under, if_neg under]
      exact ⟨_, seen, nofun, fun _ => st, nofun⟩
  | spilling =>
    simp only [State.judgePoint, installed, known, st]
    by_cases under : head < (s.img.ovf.endHead : Int)
    · rw [if_pos under, if_pos under]
      by_cases window : s.img.ovf.endConfirmS = 0
      · obtain ⟨q, found⟩ := (moves_startEnd (s.modPoint pt fun r => r.see head) pt).stays seen
        exact ⟨q, found, nofun, nofun, fun _ open_window => absurd window open_window⟩
      · obtain ⟨q, found, state⟩ := State.startEnd_record _ pt seen window
        exact ⟨q, found, nofun, nofun, fun _ _ => state⟩
    · rw [if_neg under, if_neg under]
      exact ⟨_, seen, nofun, nofun, fun _ _ => st⟩
  | ending =>
    obtain ⟨q, found⟩ := (moves_judgePoint s pt).stays here
    exact ⟨q, found, nofun, nofun, nofun⟩

theorem afterWrite_crest (s : State) (l : Link) (pt : Point) (v : Nat) :
    s.afterWrite l (.crest pt) v =
      (if pt = .n1 then ((s.written l (.crest pt) v).judgePoint pt).predict
        else (s.written l (.crest pt) v).judgePoint pt).reform.confirmWrite l := rfl

/-- A crest is judged on its point alone (R107). -/
theorem crest_effect (s : State) (l : Link) (pt : Point) (v : Nat) :
    let t := s.afterWrite l (.crest pt) v
    t.pointRec pt.other = s.pointRec pt.other ∧
    ∀ r level, s.pointRec pt = some r → s.pointLevel pt = some level →
      let head : Int := (level : Int) - v
      ∃ q, t.pointRec pt = some q ∧
        (r.state = .dry →
          q.state =
            if (s.img.ovf.startHead : Int) ≤ head then (if s.img.ovf.ovfConfirmS = 0 then .spilling else .confirming)
            else .dry) ∧
        (r.state = .confirming → q.state = if head < s.img.ovf.startHead then .dry else .confirming) ∧
        (r.state = .spilling → s.img.ovf.endConfirmS ≠ 0 →
          q.state = if head < s.img.ovf.endHead then .ending else .spilling) := by
  intro t
  have moved : ∀ x, t.pointRec x = ((s.written l (.crest pt) v).judgePoint pt).pointRec x := fun x => by
    refine ((congrArg (fun u : State => u.pointRec x) (afterWrite_crest s l pt v)).trans (pointRec_reform_confirm _ l x)).trans ?_
    split
    · exact (only_predict _).pointRec x
    · rfl
  refine ⟨(moved _).trans ((moves_judgePoint _ pt).others (No2.other_ne pt)), fun r level here known => ?_⟩
  have head : (s.written l (.crest pt) v).head pt = some ((level : Int) - v) := by
    have crest : (s.written l (.crest pt) v).img.ovf.crest.get pt = v := Duo.get_set_self _ _ _
    have same : (s.written l (.crest pt) v).pointLevel pt = s.pointLevel pt := by cases pt <;> rfl
    rw [State.head, crest, same, known]
    rfl
  obtain ⟨q, found, shape⟩ := State.judgePoint_record (s.written l (.crest pt) v) pt here head
  exact ⟨q, (moved _).trans found, shape⟩

end Sys2Proof.Machine
end

section
/-! What a write of `points_installed` does to point 2 (R10, R119, R123, R144). -/

namespace Sys2Proof.Machine

/-! ### Channels that follow their installation -/

theorem State.followInstall_chan_self (s : State) (ch : Channel) :
    (s.followInstall ch).chan ch =
      match s.chan ch, s.img.channelIn ch with
      | none, true => some .atStart
      | some _, false => none
      | r, _ => r := by
  have told : ∀ (u : State) (c : Category), (u.report c).chan ch = u.chan ch := fun _ _ => rfl
  unfold State.followInstall
  cases here : s.chan ch with
  | none =>
    cases s.img.channelIn ch with
    | true => exact s.chan_setChan_self ch _
    | false => exact here
  | some r =>
    cases s.img.channelIn ch with
    | true => exact here
    | false =>
      have gone : (({ s with lvu := s.lvu.setChan ch none } : State).report .levels).chan ch = none :=
        LevelUnit.chan_setChan_self _ _ _
      dsimp only
      split
      · rw [State.chan, only_clearPoint _ _ .lvu (by decide)]
        exact gone
      · exact gone

theorem State.followInstall_chan_ne (s : State) (x ch : Channel) (h : ch ≠ x) : (s.followInstall x).chan ch = s.chan ch := by
  unfold State.followInstall
  split
  · exact s.chan_setChan_ne _ h
  · have gone : (({ s with lvu := s.lvu.setChan x none } : State).report .levels).chan ch = s.chan ch :=
      LevelUnit.chan_setChan_ne _ _ h
    dsimp only
    split
    · rw [State.chan, only_clearPoint _ _ .lvu (by decide)]
      exact gone
    · exact gone
  · rfl

theorem mem_channels (ch : Channel) : ch ∈ Channel.all := by
  cases ch with
  | cur p => cases p <;> decide
  | _ => decide

theorem State.followInstalls_chan (s : State) (ch : Channel) :
    s.followInstalls.chan ch =
      match s.chan ch, s.img.channelIn ch with
      | none, true => some .atStart
      | some _, false => none
      | r, _ => r := by
  obtain ⟨u, before, same, _, turn⟩ := State.each_turn (f := State.followInstall) (fun ch t => t.chan ch) only_followInstall
    State.followInstall_chan_ne (xs := Channel.all) (by decide) (mem_channels ch) s
  rw [State.followInstalls, turn, State.followInstall_chan_self, same, State.img, before .cfg (by decide)]
  rfl

/-! ### The newest record -/

theorem State.newestRecord_append (s : State) (b : RecordBody) : (s.append b).newestRecord = some b := by
  simp [State.newestRecord, State.append, StationRecord.place, State.modSrc, State.report]

theorem State.newestRecord_congr {s t : State} (h : t.src.log = s.src.log) : t.newestRecord = s.newestRecord := by
  rw [State.newestRecord, h, State.newestRecord]

theorem State.closeEpisode_newest (s : State) (pt : Point) {r : PointRec} {e : Episode} (here : s.pointRec pt = some r)
    (opened : r.episode = some e) (w : Stamp) (d : Nat) (why : EndReason) :
    (s.closeEpisode pt w d why).newestRecord =
      some (.overflowEnd pt e.startTime w d e.peak (e.volume / 10) why e.crossedDay) := by
  have found : (s.ovm.points.get pt).bind (·.episode) = some e := by
    rw [show s.ovm.points.get pt = some r from here]
    exact opened
  simp only [State.closeEpisode, found]
  refine (State.newestRecord_congr ?_).trans (s.newestRecord_append _)
  rw [only_followOpen _ _ .src (by decide), only_setCondition _ _ _ .src (by decide), only_modPoint _ _ _ .src (by decide)]

/-! ### Point 2 taken out -/

/-- Flow Balance keeps the litres of a point 2 that goes (R130). -/
def State.keepSpill2 (s : State) : State :=
  s.modFbl fun b =>
    { b with spill2Kept := b.spill2Kept + s.spillSince .n2, previous := { b.previous with spill := b.previous.spill.set .n2 0 } }

/-- An open episode of point 2 closes with SENSOR_FAULT as the point goes (R123). -/
def State.closePoint2 (s : State) : State :=
  if s.episodeOpen .n2 then
    match (s.ovm.points.get .n2).bind (·.episode) with
    | some e => s.closeEpisode .n2 s.now e.age .sensorFault
    | none => s
  else s

theorem State.uninstallPoint2_eq (s : State) :
    s.uninstallPoint2 =
      ({ s.keepSpill2.closePoint2 with
        ovm := { s.keepSpill2.closePoint2.ovm with
          points := s.keepSpill2.closePoint2.ovm.points.set .n2 none } } : State).clearPoint (.overflow .n2) := rfl

theorem moves_closePoint2 (s : State) : PointMoves .n2 s s.closePoint2 := by
  unfold State.closePoint2
  split
  · split
    · exact moves_closeEpisode s _ _ _ _
    · exact .refl _
  · exact .refl _

theorem State.closePoint2_newest (s : State) {r : PointRec} {e : Episode} (here : s.pointRec .n2 = some r)
    (recorded : r.episode = some e) (opened : r.state.opened = true) :
    s.closePoint2.newestRecord =
      some (.overflowEnd .n2 e.startTime s.now e.age e.peak (e.volume / 10) .sensorFault e.crossedDay) := by
  have is_open : s.episodeOpen .n2 = true := by
    rw [State.episodeOpen, show s.ovm.points.get .n2 = some r from here]
    exact opened
  have found : (s.ovm.points.get .n2).bind (·.episode) = some e := by
    rw [show s.ovm.points.get .n2 = some r from here]
    exact recorded
  simp only [State.closePoint2, is_open, if_true, found]
  exact s.closeEpisode_newest .n2 here recorded _ _ _

theorem State.uninstallPoint2_other (s : State) : s.uninstallPoint2.pointRec .n1 = s.pointRec .n1 := by
  rw [State.uninstallPoint2_eq, (only_clearPoint _ _).pointRec]
  exact (Duo.get_set_ne _ none (by decide)).trans ((moves_closePoint2 s.keepSpill2).others (x := .n1) (by decide))

theorem State.uninstallPoint2_record (s : State) : s.uninstallPoint2.pointRec .n2 = none := by
  rw [State.uninstallPoint2_eq, (only_clearPoint _ _).pointRec]
  exact Duo.get_set_self s.keepSpill2.closePoint2.ovm.points .n2 none

theorem State.uninstallPoint2_newest (s : State) {r : PointRec} {e : Episode} (here : s.pointRec .n2 = some r)
    (recorded : r.episode = some e) (opened : r.state.opened = true) :
    s.uninstallPoint2.newestRecord =
      some (.overflowEnd .n2 e.startTime s.now e.age e.peak (e.volume / 10) .sensorFault e.crossedDay) := by
  rw [State.uninstallPoint2_eq]
  refine (State.newestRecord_congr ?_).trans (State.closePoint2_newest s.keepSpill2 here recorded opened)
  rw [only_clearPoint _ _ .src (by decide)]

/-! ### A write of `points_installed` -/

/-- Point 2 put in, as at a start (R123). -/
def State.installPoint2 (s : State) : State :=
  { s with ovm := { s.ovm with points := s.ovm.points.set .n2 (some .atStart) } }

theorem State.installPoint2_record (s : State) : s.installPoint2.pointRec .n2 = some .atStart :=
  Duo.get_set_self s.ovm.points .n2 (some .atStart)

theorem State.installPoint2_other (s : State) : s.installPoint2.pointRec .n1 = s.pointRec .n1 :=
  Duo.get_set_ne (i := .n2) (j := .n1) s.ovm.points (some PointRec.atStart) (by decide)

/-- Point 2 taken out or put in, before the formation of the write. -/
def State.pointsSettled (s old : State) : State :=
  match old.pointIn .n2, s.pointIn .n2 with
  | true, false => s.uninstallPoint2.followInstalls
  | false, true =>
    s.installPoint2.followInstalls.judgePoint .n2
  | _, _ => s

/-- The inlet channel serves point 2: it is there once the point is (R10). -/
theorem State.installPoint2_inlet (s : State) (both : s.img.units.pointsInstalled = 2) :
    s.installPoint2.followInstalls.chan .inlet = some ((s.chan .inlet).getD .atStart) := by
  have inn : s.installPoint2.img.channelIn .inlet = true := by
    rw [Image.channelIn, show s.installPoint2.img = s.img from rfl, both]
    simp
  rw [State.followInstalls_chan, inn, show s.installPoint2.chan .inlet = s.chan .inlet from rfl]
  cases s.chan .inlet <;> rfl

theorem afterWrite_pointsInstalled (s : State) (l : Link) (v : Nat) :
    s.afterWrite l .pointsInstalled v =
      ((s.written l .pointsInstalled v).pointsSettled (s.arrived l)).reform.judgeOutputs.confirmWrite l := rfl

theorem State.judgePoint_dry_unknown (s : State) (pt : Point) {r : PointRec} (here : s.pointRec pt = some r) (dry : r.state = .dry)
    (unknown : s.head pt = none) : s.judgePoint pt = s := by
  simp only [State.judgePoint, show s.ovm.points.get pt = some r from here, unknown, dry]

theorem State.pointsSettled_other (s old : State) : (s.pointsSettled old).pointRec .n1 = s.pointRec .n1 := by
  unfold State.pointsSettled
  split
  · exact ((only_followInstalls _).pointRec .n1).trans s.uninstallPoint2_other
  · exact ((moves_judgePoint _ .n2).others (by decide)).trans
      (((only_followInstalls _).pointRec .n1).trans s.installPoint2_other)
  · rfl

theorem State.pointsSettled_gone (s old : State) (was : old.pointIn .n2 = true) (out : s.pointIn .n2 = false) :
    s.pointsSettled old = s.uninstallPoint2.followInstalls := by
  simp only [State.pointsSettled, was, out]

theorem State.pointsSettled_come (s old : State) (was : old.pointIn .n2 = false) (inn : s.pointIn .n2 = true) :
    s.pointsSettled old = s.installPoint2.followInstalls.judgePoint .n2 := by
  simp only [State.pointsSettled, was, inn]

/-- What the outputs and the answer leave of a write's work. -/
theorem OnlyIn.judged_confirmed {bs : List Block} {s t : State} (h : OnlyIn bs s t) (l : Link) :
    OnlyIn ([.alm, .lnk] ++ bs) s (t.judgeOutputs.confirmWrite l) :=
  ((h.mono (by simp)).trans ((only_judgeOutputs t).mono (by simp))).trans ((only_confirmWrite _ l).mono (by simp))

theorem condition_judged_confirmed (s : State) (l : Link) (a : AlarmPoint) :
    (s.judgeOutputs.confirmWrite l).condition a = s.condition a := rfl

theorem condition_reform_judged (s : State) (l : Link) {a : AlarmPoint} (n : ∀ p, a ≠ .pump p .runMismatch) :
    (s.reform.judgeOutputs.confirmWrite l).condition a = s.condition a :=
  (condition_judged_confirmed s.reform l a).trans ((moves_reform s).condition n)

theorem only_reform_judged (s : State) (l : Link) : OnlyIn (.lnk :: reformParts) s (s.reform.judgeOutputs.confirmWrite l) :=
  (only_reform s).judged_confirmed l |>.mono (by decide)

theorem newestRecord_reform_judged (s : State) (l : Link) :
    (s.reform.judgeOutputs.confirmWrite l).newestRecord = s.newestRecord := by
  have log : s.reform.src.log = s.src.log := by rw [(moves_reform s).src]
  refine State.newestRecord_congr (Eq.trans ?_ log)
  generalize s.reform = u
  rfl

theorem pointsInstalled_effect (s : State) (l : Link) (v : Nat) (most : v ≤ 2) :
    let t := s.afterWrite l .pointsInstalled v
    t.pointRec .n1 = s.pointRec .n1 ∧
    (s.pointIn .n2 = true → v < 2 →
      t.pointRec .n2 = none ∧ t.condition (.overflow .n2) = false ∧
      ∀ r e, s.pointRec .n2 = some r → r.episode = some e → r.state.opened = true →
        t.newestRecord =
          some (.overflowEnd .n2 e.startTime s.now e.age e.peak (e.volume / 10) .sensorFault e.crossedDay)) ∧
    (s.pointIn .n2 = false → 2 ≤ v →
      (s.level .inlet = none → t.pointRec .n2 = some .atStart) ∧
      (s.chan .inlet = none → t.chan .inlet = some .atStart)) := by
  rw [afterWrite_pointsInstalled]
  refine ⟨?_, fun was out => ?_, fun was inn => ?_⟩
  · exact ((only_reform_judged _ l).pointRec _).trans (State.pointsSettled_other _ _)
  · rw [State.pointsSettled_gone (s.written l .pointsInstalled v) (s.arrived l) was (decide_eq_false (Nat.not_le.mpr out))]
    refine ⟨?_, ?_, fun r e here recorded opened => ?_⟩
    · exact ((only_reform_judged _ l).pointRec _).trans
        (((only_followInstalls _).pointRec .n2).trans (State.uninstallPoint2_record _))
    · exact (condition_reform_judged _ l (by simp)).trans
        (((points_followInstalls _).condition (by simp [channelFaults])).trans (State.condition_clearPoint_self _ _))
    · refine (newestRecord_reform_judged _ l).trans ((State.newestRecord_congr ?_).trans
        (State.uninstallPoint2_newest (s.written l .pointsInstalled v) here recorded opened))
      rw [only_followInstalls _ .src (by decide)]
  · rw [State.pointsSettled_come (s.written l .pointsInstalled v) (s.arrived l) was (decide_eq_true inn)]
    have two : v = 2 := le_antisymm most inn
    subst two
    have chan := (s.written l .pointsInstalled 2).installPoint2_inlet rfl
    have record := ((only_followInstalls _).pointRec .n2).trans (s.written l .pointsInstalled 2).installPoint2_record
    generalize (s.written l .pointsInstalled 2).installPoint2.followInstalls = w at *
    refine ⟨fun unknown => ?_, fun absent => ?_⟩
    · have no_head : w.head .n2 = none := by
        rw [State.head, State.pointLevel, State.level, chan]
        cases here : s.chan .inlet with
        | none => simp [show (s.written l .pointsInstalled 2).chan .inlet = none from here, ChannelRec.atStart, ChannelRec.value]
        | some r =>
          have lost : r.value = none := by rwa [State.level, here] at unknown
          simp [show (s.written l .pointsInstalled 2).chan .inlet = some r from here, lost]
      rw [State.judgePoint_dry_unknown _ .n2 record rfl no_head]
      exact ((only_reform_judged _ l).pointRec _).trans record
    · have kept : ((w.judgePoint .n2).reform.judgeOutputs.confirmWrite l).lvu = w.lvu :=
        (only_reform_judged _ l .lvu (by decide)).trans (only_judgePoint w .n2 .lvu (by decide))
      rw [State.chan, kept]
      exact chan.trans (congrArg (fun o : Option ChannelRec => some (o.getD .atStart)) absent)

end Sys2Proof.Machine
end

section
/-! What a write of the Level Unit's, Flow Balance's, the Alarm Annunciator's and the Link Interface's settings does (R11, R16, R19,
R127, R131, R137, R149, R150, R180). -/

namespace Sys2Proof.Machine

/-! ### Outputs -/

theorem judgeOutputs_effect (s : State) (l : Link) (x : Setting) (v : Nat)
    (moved : s.afterWrite l x v = (s.written l x v).judgeOutputs.confirmWrite l) :
    let t := s.afterWrite l x v
    (∀ m, t.alm.outputs.get m = t.outputNow m) ∧ t.alm.points = s.alm.points ∧ OnlyIn [.alm, .lnk, .cfg] s t := by
  rw [moved]
  refine ⟨outputsOk_judgeOutputs (s.written l x v), rfl, only_confirmed (only_judgeOutputs _)⟩

/-! ### The hold timer -/

/-- The write's own frame restarts the holder's timer, so no changed duration finds it run (R180). -/
theorem seatHoldS_effect (s : State) (l : Link) (v : Nat) (seat : s.holds l = true) (least : 1 ≤ v)
    (key : s.inputs.localKey = false) :
    let t := s.afterWrite l .seatHoldS v
    t.lnk.seat = s.lnk.seat ∧ t.lnk.holdTimer = some s.uptime ∧ OnlyIn [.alm, .lnk, .cfg] s t := by
  have restarted : (s.written l .seatHoldS v).lnk.holdTimer = some s.uptime := by
    rw [State.written, State.arrived, State.arrive_eq, seat, key]
    rfl
  have kept : (s.written l .seatHoldS v).lnk.seat = s.lnk.seat := by
    rw [State.written, State.arrived, State.arrive_eq]
  have moved : s.afterWrite l .seatHoldS v = ((s.written l .seatHoldS v).lapse (s.written l .seatHoldS v).lnk.holdTimer v
    State.endHold).confirmWrite l := rfl
  have running : ran (some s.uptime) v (s.written l .seatHoldS v).uptime = false :=
    decide_eq_false (show ¬s.uptime + v * 1000 ≤ s.uptime by omega)
  rw [moved, restarted, State.lapse_eq, running, if_neg Bool.false_ne_true]
  exact ⟨kept, restarted, only_confirmed (bs := []) (.refl _ _)⟩

/-! ### Scaling -/

/-- A channel's record and the mark that Flow Balance holds for it. -/
def channelPart (ch : Channel) (s : State) : Option ChannelRec × Option Bool :=
  (s.chan ch, (Channel.well? ch).map s.fbl.rescaled.get)

/-- A channel in service loses its history at a rescale (R11). -/
def ChannelRec.rescaled (r : ChannelRec) : ChannelRec := if r.state = .inService then { r with history := [] } else r

theorem only_rescale (s : State) (ch : Channel) : OnlyIn [.lvu, .fbl] s (s.rescale ch) := by
  unfold State.rescale
  split
  · exact .when _ ((only_setChan s ch _).next (only_expectRescaled _ _))
  · exact .refl _ _

theorem State.expectRescaled_mark (s : State) (ch : Channel) :
    (Channel.well? ch).map (s.expectRescaled ch).fbl.rescaled.get = (Channel.well? ch).map fun _ => true := by
  cases ch <;> rfl

theorem State.expectRescaled_mark_ne (s : State) (x ch : Channel) (h : ch ≠ x) :
    (Channel.well? ch).map (s.expectRescaled x).fbl.rescaled.get = (Channel.well? ch).map s.fbl.rescaled.get := by
  cases ch <;> cases x <;> first | rfl | exact absurd rfl h

theorem channelPart_rescale_ne (s : State) (x ch : Channel) (h : ch ≠ x) : channelPart ch (s.rescale x) = channelPart ch s := by
  unfold State.rescale
  split
  · split
    · refine Prod.ext ?_ (State.expectRescaled_mark_ne _ x ch h)
      exact (congrArg (fun v : LevelUnit => v.chan ch) (only_expectRescaled _ x .lvu (by decide))).trans
        (s.chan_setChan_ne _ h)
    · rfl
  · rfl

theorem channelPart_rescale_self (s : State) (ch : Channel) :
    channelPart ch (s.rescale ch) =
      ((s.chan ch).map ChannelRec.rescaled, (Channel.well? ch).map fun w => s.fbl.rescaled.get w || s.serving ch) := by
  cases here : s.chan ch with
  | none =>
    have out : s.serving ch = false := by rw [State.serving, State.chanState, here]; rfl
    simp only [State.rescale, here, channelPart, out, Bool.or_false]
    rfl
  | some r =>
    by_cases service : r.state = .inService
    · have inn : s.serving ch = true := by rw [State.serving, State.chanState, here, Option.map_some, service]; rfl
      simp only [State.rescale, here, if_pos service, inn, Bool.or_true]
      refine Prod.ext ?_ (State.expectRescaled_mark _ ch)
      refine (congrArg (fun v : LevelUnit => v.chan ch) (only_expectRescaled _ ch .lvu (by decide))).trans
        ((s.chan_setChan_self ch _).trans ?_)
      rw [Option.map_some, ChannelRec.rescaled, if_pos service]
    · have out : s.serving ch = false := by
        rw [State.serving, State.chanState, here, Option.map_some]
        simpa using service
      simp only [State.rescale, here, if_neg service, channelPart, out, Bool.or_false, Option.map_some,
        ChannelRec.rescaled]

theorem Setting.rescales_nodup (x : Setting) : x.rescales.Nodup := by
  cases x with
  | zeroMm c | spanMm c => cases c <;> decide
  | curSpan p => exact List.nodup_singleton _
  | wellDepth => decide
  | _ => exact List.nodup_nil

theorem afterWrite_rescales (s : State) (l : Link) (x : Setting) (v : Nat) (scaling : x.rescales ≠ []) :
    s.afterWrite l x v = ((s.written l x v).each x.rescales State.rescale).confirmWrite l := by
  cases x with
  | zeroMm | spanMm | curSpan | wellDepth => rfl
  | _ => exact absurd rfl scaling

theorem rescaled_fbl (s : State) (ch : Channel) : (s.rescale ch).fbl = { s.fbl with rescaled := (s.rescale ch).fbl.rescaled } := by
  have expects : ∀ u : State, (u.expectRescaled ch).fbl = { u.fbl with rescaled := (u.expectRescaled ch).fbl.rescaled } :=
    fun u => by cases ch <;> rfl
  unfold State.rescale
  split
  · split
    · exact expects _
    · rfl
  · rfl

/-- A scaling setting rescales each channel that converts by it, and no other (R11, R131). -/
theorem rescales_effect (s : State) (l : Link) (x : Setting) (v : Nat) (scaling : x.rescales ≠ []) :
    let t := s.afterWrite l x v
    (∀ ch, t.chan ch = if ch ∈ x.rescales then (s.chan ch).map ChannelRec.rescaled else s.chan ch) ∧
    (∀ ch w, Channel.well? ch = some w →
      t.fbl.rescaled.get w = (s.fbl.rescaled.get w || (decide (ch ∈ x.rescales) && s.serving ch))) ∧
    t.fbl = { s.fbl with rescaled := t.fbl.rescaled } ∧ OnlyIn [.lvu, .fbl, .alm, .lnk, .cfg] s t := by
  have part : ∀ ch, channelPart ch ((s.written l x v).each x.rescales State.rescale) =
      if ch ∈ x.rescales then
        ((s.chan ch).map ChannelRec.rescaled, (Channel.well? ch).map fun w => s.fbl.rescaled.get w || s.serving ch)
      else channelPart ch s := fun ch => by
    split
    · rename_i mem
      obtain ⟨u, _, same, _, turn⟩ := State.each_turn channelPart only_rescale channelPart_rescale_ne x.rescales_nodup mem
        (s.written l x v)
      have chan : u.chan ch = s.chan ch := congrArg Prod.fst same
      have mark : (Channel.well? ch).map u.fbl.rescaled.get = (Channel.well? ch).map s.fbl.rescaled.get :=
        congrArg Prod.snd same
      rw [turn, channelPart_rescale_self, State.serving, State.chanState, chan]
      refine Prod.ext rfl ?_
      cases w : Channel.well? ch with
      | none => rfl
      | some w =>
        rw [w] at mark
        exact congrArg some (congrArg (· || s.serving ch) (Option.some.inj mark))
    · rename_i absent
      exact State.each_other channelPart channelPart_rescale_ne absent (s.written l x v)
  have frame : ((s.written l x v).each x.rescales State.rescale).fbl =
      { s.fbl with rescaled := ((s.written l x v).each x.rescales State.rescale).fbl.rescaled } := by
    have kept := State.each_keeps State.rescale (fun u => { u.fbl with rescaled := s.fbl.rescaled })
      (fun u ch => by rw [rescaled_fbl]) x.rescales (s.written l x v)
    exact congrArg (fun b : FlowBalance =>
      { b with rescaled := ((s.written l x v).each x.rescales State.rescale).fbl.rescaled }) kept
  intro t
  have moved := afterWrite_rescales s l x v scaling
  rw [show t = _ from moved]
  refine ⟨fun ch => ?_, fun ch w well => ?_, frame, only_confirmed (.each only_rescale _ _)⟩
  · have h := congrArg Prod.fst (part ch)
    split at h
    · rename_i mem
      rw [if_pos mem]
      exact h
    · rename_i absent
      rw [if_neg absent]
      exact h
  · have h := congrArg Prod.snd (part ch)
    split at h
    · rename_i mem
      rw [decide_eq_true mem, Bool.true_and]
      rw [channelPart, well] at h
      exact Option.some.inj h
    · rename_i absent
      rw [decide_eq_false absent, Bool.false_and, Bool.or_false]
      rw [channelPart, channelPart, well] at h
      exact Option.some.inj h

/-! ### The disagreement timer and HIGH_LEVEL -/

theorem disagreeS_effect (s : State) (l : Link) (v : Nat) :
    let t := s.afterWrite l .disagreeS v
    (ran s.lvu.disagreement.timer v s.uptime = true →
      t.lvu.disagreement = s.lvu.disagreement.expired ∧ t.condition .levelDisagree = t.lvu.disagreement.present) ∧
    (ran s.lvu.disagreement.timer v s.uptime = false → OnlyIn [.alm, .lnk, .cfg] s t) := by
  have moved : s.afterWrite l .disagreeS v = ((s.written l .disagreeS v).lapse s.lvu.disagreement.timer v
    State.endDisagreement).confirmWrite l := rfl
  have time : (s.written l .disagreeS v).uptime = s.uptime := rfl
  rw [moved, State.lapse_eq, time]
  refine ⟨fun ended => ?_, fun running => ?_⟩
  · rw [if_pos ended]
    obtain ⟨_, state, told⟩ := (s.written l .disagreeS v).endDisagreement_levels
    generalize (s.written l .disagreeS v).endDisagreement = w at *
    exact ⟨state, told.trans (congrArg Disagreement.present state.symm)⟩
  · rw [if_neg (by rw [running]; exact Bool.false_ne_true)]
    exact only_confirmed (bs := []) (.refl _ _)

theorem highAlarm_effect (s : State) (l : Link) (v : Nat) :
    let t := s.afterWrite l .highAlarm v
    t.lvu =
      { s.lvu with
        highLevel :=
          match s.controlLevel with
          | some level => if v ≤ level then true else if level + 100 < v then false else s.lvu.highLevel
          | none => s.lvu.highLevel } ∧
    OnlyIn [.lvu, .alm, .lnk, .cfg] s t := by
  have moved : s.afterWrite l .highAlarm v = (s.written l .highAlarm v).judgeHighLevel.confirmWrite l := rfl
  rw [moved]
  exact ⟨(s.written l .highAlarm v).judgeHighLevel_lvu, only_confirmed (only_judgeHighLevel _)⟩

/-! ### Meter silence and the prediction -/

theorem meterSilenceS_effect (s : State) (l : Link) (v : Nat) :
    let t := s.afterWrite l .meterSilenceS v
    (ran s.fbl.silence.timer v s.uptime = true →
      t.fbl = { s.fbl with silence := .expired, meterSilent := true } ∧ t.condition .meterSilent = true) ∧
    (ran s.fbl.silence.timer v s.uptime = false → t.fbl = s.fbl) ∧
    OnlyIn [.fbl, .alm, .lnk, .cfg] s t := by
  have moved : s.afterWrite l .meterSilenceS v =
    ((s.written l .meterSilenceS v).lapse s.fbl.silence.timer v State.endSilence).confirmWrite l := rfl
  have time : (s.written l .meterSilenceS v).uptime = s.uptime := rfl
  have ends : OnlyIn [.fbl, .alm] (s.written l .meterSilenceS v) (s.written l .meterSilenceS v).endSilence :=
    (only_modFbl _ _).next (cs := [.fbl, .alm]) (only_setSilent _ _)
  rw [moved, State.lapse_eq, time]
  refine ⟨fun ended => ?_, fun running => ?_, only_confirmed (.when _ ends)⟩
  · rw [if_pos ended]
    exact ⟨only_setCondition _ _ _ .fbl (by decide), State.condition_setCondition_self _ _ _⟩
  · rw [if_neg (by rw [running]; exact Bool.false_ne_true)]
    rfl

theorem predictWarnS_effect (s : State) (l : Link) (v : Nat) :
    let t := s.afterWrite l .predictWarnS v
    t.fbl =
      { s.fbl with
        predicted :=
          if s.point1Open = true ∨ v = 0 then false
          else match s.fbl.overflowIn with
            | .seconds n => if n ≤ v then true else if v + 60 < n then false else s.fbl.predicted
            | .notFilling | .unknown => false } ∧
    t.condition .predictedOverflow = t.fbl.predicted ∧ OnlyIn [.fbl, .alm, .lnk, .cfg] s t := by
  have moved : s.afterWrite l .predictWarnS v = (s.written l .predictWarnS v).judgePredicted.confirmWrite l := rfl
  have now : (s.written l .predictWarnS v).predictedNow =
      if s.point1Open = true ∨ v = 0 then false
      else match s.fbl.overflowIn with
        | .seconds n => if n ≤ v then true else if v + 60 < n then false else s.fbl.predicted
        | .notFilling | .unknown => false := by
    have unfolded : (s.written l .predictWarnS v).predictedNow =
        if s.point1Open = true then false
        else if v = 0 then false
        else match s.fbl.overflowIn with
          | .seconds n => if n ≤ v then true else if v + 60 < n then false else s.fbl.predicted
          | .notFilling | .unknown => false := rfl
    rw [unfolded, ite_or]
  have fbl := (s.written l .predictWarnS v).judgePredicted_fbl
  have told := (s.written l .predictWarnS v).judgePredicted_condition
  rw [moved]
  refine ⟨fbl.trans ?_, told.trans ?_, only_confirmed (only_judgePredicted _)⟩
  · rw [now]
    rfl
  · exact (congrArg FlowBalance.predicted fbl).symm

end Sys2Proof.Machine
end

section
/-! What an accepted WRITE_SETTING does in the block that owns the setting, for every setting (R11, R16, R31, R48, R58, R66, R79, R85,
R91, R105, R137, R185). -/

namespace Sys2Proof.Machine

theorem afterWrite_limit (s : State) (l : Link) (x : Setting) (p : Pump) (v : Nat) (h : x = .ocLimit p ∨ x = .ucLimit p) :
    s.afterWrite l x v = ((s.written l x v).judgeFaults p).confirmWrite l := by
  rcases h with rfl | rfl <;> rfl

theorem afterWrite_starts (s : State) (l : Link) (x : Setting) (v : Nat)
    (h : x = .startsPerHour ∨ x = .maxRunning ∨ x = .genMaxRunning ∨ x = .blindedMaxPumps) :
    s.afterWrite l x v = (s.written l x v).reform.confirmWrite l := by
  rcases h with rfl | rfl | rfl | rfl <;> rfl

theorem afterWrite_stage (s : State) (l : Link) (x : Setting) (v : Nat) (h : x = .speedDelta ∨ x = .speedHys) :
    s.afterWrite l x v = (s.written l x v).judgeStage.confirmWrite l := by
  rcases h with rfl | rfl <;> rfl

theorem afterWrite_float (s : State) (l : Link) (x : Setting) (v : Nat) (h : x = .hhFloat ∨ x = .llFloat ∨ x = .floatTol) :
    s.afterWrite l x v = (s.written l x v).judgeFloats.confirmWrite l := by
  rcases h with rfl | rfl | rfl <;> rfl

theorem afterWrite_head (s : State) (l : Link) (x : Setting) (v : Nat) (h : x = .startHead ∨ x = .endHead) :
    s.afterWrite l x v = (((s.written l x v).judgePoint .n1).judgePoint .n2).reform.confirmWrite l := by
  rcases h with rfl | rfl <;> rfl

theorem afterWrite_inert (s : State) (l : Link) (x : Setting) (v : Nat)
    (h : x = .initLimit ∨ x = .disagreeMm ∨ x = .midSpeed ∨ x = .rampPct ∨ x = .jamRetries ∨ x = .pulseLitres ∨
      ∃ p, x = .ratedFlow p) :
    s.afterWrite l x v = (s.written l x v).confirmWrite l := by
  rcases h with rfl | rfl | rfl | rfl | rfl | rfl | ⟨p, rfl⟩ <;> rfl

theorem afterWrite_outputs (s : State) (l : Link) (x : Setting) (v : Nat) (h : (∃ k, x = .route k) ∨ ∃ m, x = .outMode m) :
    s.afterWrite l x v = (s.written l x v).judgeOutputs.confirmWrite l := by
  rcases h with ⟨k, rfl⟩ | ⟨m, rfl⟩ <;> rfl

theorem RakeState.inWork_of_named {k : RakeState} (h : k = .waiting ∨ k = .forward ∨ k = .backoff) : k.inWork = true := by
  rcases h with rfl | rfl | rfl <;> rfl

theorem DutyPump.raise_override (d : DutyPump) (v : Nat) :
    ({ d with override := d.override.map (·.raise v) } : DutyPump) =
      match d.override with
      | some ⟨.forceRun (some w), l⟩ => { d with override := some ⟨.forceRun (some (max w v)), l⟩ }
      | _ => d := by
  split
  · rename_i w l here
    rw [here]
    rfl
  · rename_i other
    have same : d.override.map (·.raise v) = d.override := by
      cases here : d.override with
      | none => rfl
      | some o =>
        obtain ⟨action, l⟩ := o
        rcases action with (_ | w) | _
        · rfl
        · exact absurd here (other w l)
        · rfl
    rw [same]

/-- A home-leave or a cycle duration fails each screen whose timer has run it (R94, R96). -/
theorem rakeDuration_effect (s : State) (l : Link) (x : Setting) (v : Nat) (h : x = .homeLeaveS ∨ x = .cycleMaxS)
    (sc : Screen) (r : ScreenRec) (here : s.scr.screens.get sc = some r) :
    let t := s.afterWrite l x v
    let due : Bool := ran (if x = .homeLeaveS then r.homeLeave else r.cycle) v s.uptime
    (due = true → r.rake = .forward →
      t.scr.screens.get sc =
        some { r with
          rake := .failed, homeLeave := none, cycle := none, reverse := none
          cause := some (if x = .homeLeaveS then .homeNotLeft else .cycleTime) } ∧
      t.condition (.rakeFailed sc) = true ∧ t.requestOf (.screen sc) = none) ∧
    (due = false → r.rake ≠ .idle → t.scr.screens.get sc = some r) := by
  rcases h with rfl | rfl
  · have effect := failLapsed_effect (s.written l .homeLeaveS v) (·.homeLeave) v .homeNotLeft sc r here
    rw [afterWrite_homeLeaveS, if_pos rfl, if_pos rfl]
    generalize (s.written l .homeLeaveS v).failLapsed (·.homeLeave) v .homeNotLeft = w at *
    exact effect
  · have effect := failLapsed_effect (s.written l .cycleMaxS v) (·.cycle) v .cycleTime sc r here
    rw [afterWrite_cycleMaxS, if_neg (by decide), if_neg (by decide)]
    generalize (s.written l .cycleMaxS v).failLapsed (·.cycle) v .cycleTime = w at *
    exact effect

/-- Settles O35: each setting by the lemma of the block that owns it, shown through the state that an accepted write leaves. -/
theorem settingEffects : Obligations.SettingEffects := by
  intro s l v taking seat write put answered
  have put_eq : ∀ x, put x = s.written l x v := fun x => s.put_eq_written l x v
  refine ⟨?minRun, ?minOff, ?levels, ?drive, ?spacing, ?faults, ?lockout, ?pumps, ?screens, ?confirm, ?endConfirm, ?crest,
    ?points, ?outputs, ?hold, ?rescales, ?disagree, ?minSpeed, ?stopConfirm, ?rest, ?forgive, ?limits, ?interval, ?durations,
    ?reverse, ?blind, ?rakeStart, ?silence, ?predict, ?trend, ?starts, ?stage, ?highAlarm, ?floats, ?heads, ?inert⟩
  case minRun => exact gives_write taking seat fun _ => (afterWrite_minRunS s l v).trans (by rw [← put_eq]; rfl)
  case minOff => exact gives_write taking seat fun _ => (afterWrite_minOffS s l v).trans (by rw [← put_eq]; rfl)
  case levels =>
    exact fun x k h => gives_write taking seat fun _ =>
      ⟨(afterWrite_level s l x v k h).trans (by rw [put_eq]; rfl), afterWrite_level_calls s l x v k h⟩
  case drive => exact fun p => gives_write taking seat fun acc => hasDrive_effect s l p v acc
  case spacing =>
    intro x h
    refine gives_write taking seat fun acc => ⟨fun other => ?_, fun mine => ?_⟩
    · rw [afterWrite_spacing_other s l x v h other]
      exact only_confirmed (bs := []) (.refl _ _)
    · have effect := spacing_effect s l x v acc h mine
      rw [← put_eq] at effect
      exact effect
  case faults =>
    intro c
    have effect := faultDuration_effect s l c v
    cases c <;> exact gives_write taking seat fun _ => effect
  case lockout => exact gives_write taking seat fun acc => lockoutTrips_effect s l v acc
  case pumps =>
    exact fun ok => gives_write taking seat fun _ p =>
      ⟨pumpsInstalled_gone s l v p, pumpsInstalled_come s l v p ok, pumpsInstalled_hot s l v p⟩
  case screens => exact fun ok => gives_write taking seat fun _ => screensInstalled_effect s l v ok
  case confirm => exact gives_write taking seat fun _ pt r here recorded => ovfConfirmS_effect s l v pt r here recorded
  case endConfirm => exact gives_write taking seat fun _ pt r here recorded => endConfirmS_effect s l v pt r here recorded
  case crest => exact fun pt => gives_write taking seat fun _ => crest_effect s l pt v
  case points => exact gives_write taking seat fun acc => pointsInstalled_effect s l v acc.range.2
  case outputs => exact fun x h => gives_write taking seat fun _ => judgeOutputs_effect s l x v (afterWrite_outputs s l x v h)
  case hold =>
    exact gives_write taking seat fun acc key => seatHoldS_effect s l v seat (le_trans (by decide) acc.range.1) key
  case rescales => exact fun x scaling => gives_write taking seat fun _ => rescales_effect s l x v scaling
  case disagree => exact gives_write taking seat fun _ => disagreeS_effect s l v
  case minSpeed =>
    refine gives_write taking seat fun _ => ⟨fun p => ?_, (minSpeed_effect s l v).2⟩
    exact ((minSpeed_effect s l v).1 p).trans (DutyPump.raise_override _ v)
  case stopConfirm => exact gives_write taking seat fun _ => stopConfirmS_effect s l v
  case rest => exact fun ok => gives_write taking seat fun _ p => tripRestS_effect s l v ok p
  case forgive => exact gives_write taking seat fun _ => tripForgiveS_effect s l v
  case limits =>
    exact fun x p h => gives_write taking seat fun _ => (afterWrite_limit s l x p v h).trans (by rw [put_eq]; rfl)
  case interval =>
    refine gives_write taking seat fun _ sc r here => ?_
    obtain ⟨zero, start, kept, passed⟩ := rakeIntervalMin_effect s l v sc r here
    refine ⟨zero, start, kept, fun set was ended => ?_⟩
    obtain ⟨q, found, k⟩ := passed set was ended
    exact ⟨q, found, k.interval, k.hot, k.cool, fun work => k.inWork (RakeState.inWork_of_named work), k.out⟩
  case durations => exact fun x h => gives_write taking seat fun _ sc r here => rakeDuration_effect s l x v h sc r here
  case reverse => exact fun ok => gives_write taking seat fun _ sc r here => reverseS_effect s l v ok sc r here
  case blind =>
    intro x h
    obtain ⟨moved, unknown, known⟩ := blindLimit_effect s l x v h
    exact gives_write taking seat fun _ => ⟨moved.trans (by rw [put_eq]; rfl), unknown, known⟩
  case rakeStart => exact gives_write taking seat fun _ => by rw [put_eq]; rfl
  case silence => exact gives_write taking seat fun _ => meterSilenceS_effect s l v
  case predict => exact gives_write taking seat fun _ => predictWarnS_effect s l v
  case trend => exact gives_write taking seat fun _ => by rw [put_eq]; rfl
  case starts =>
    exact fun x h => gives_write taking seat fun _ => (afterWrite_starts s l x v h).trans (by rw [put_eq]; rfl)
  case stage => exact fun x h => gives_write taking seat fun _ => (afterWrite_stage s l x v h).trans (by rw [put_eq]; rfl)
  case highAlarm => exact gives_write taking seat fun _ => highAlarm_effect s l v
  case floats => exact fun x h => gives_write taking seat fun _ => (afterWrite_float s l x v h).trans (by rw [put_eq]; rfl)
  case heads => exact fun x h => gives_write taking seat fun _ => (afterWrite_head s l x v h).trans (by rw [put_eq]; rfl)
  case inert => exact fun x h => gives_write taking seat fun _ => (afterWrite_inert s l x v h).trans (by rw [put_eq]; rfl)

end Sys2Proof.Machine
end

section
/-! The formations of one event: what each stop, each settled list and each grant makes of the next one, and that the ten formations
the model allows always suffice (R39 to R42, log entry 14). -/

namespace Sys2Proof.Machine

/-! ### The list fitted to the slots (R40) -/

theorem mem_dropLast_of_not {f : Pump → Bool} {m : List Pump} {p : Pump} (h : p ∈ m) (n : f p = false) : p ∈ dropLast f m := by
  unfold dropLast
  split
  · rename_i q e
    have hq := List.find?_some e
    simp only [List.mem_filter, h, true_and, bne_iff_ne, ne_eq]
    rintro rfl
    exact Bool.false_ne_true (n.symm.trans hq)
  · exact h

/-- The first line of R40 keeps every commanded member. -/
theorem State.mem_fitUpTo_of_commanded (s : State) {p : Pump} (on : s.runCmd p = true) (out n : Nat) (m : List Pump) (h : p ∈ m) :
    p ∈ s.fitUpTo out n m := by
  induction n generalizing m with
  | zero => exact h
  | succ n ih =>
    unfold State.fitUpTo
    split
    · exact ih _ (mem_dropLast_of_not h (by simp [on]))
    · exact h

theorem State.mem_fit_of_commanded (s : State) {p : Pump} (on : s.runCmd p = true) {m : List Pump} (h : p ∈ m) : p ∈ s.fit m :=
  s.mem_fitUpTo_of_commanded on _ _ _ h

theorem State.fit_subset (s : State) (m : List Pump) : s.fit m ⊆ m := s.fitUpTo_subset _ _ _

/-- Of the pumps running out, the drops change nothing. -/
theorem State.runningOut_fit (s : State) (m : List Pump) : s.runningOut (s.fit m) = s.runningOut m := by
  refine List.filter_congr fun p _ => ?_
  by_cases on : s.runCmd p = true
  · have e : p ∈ s.fit m ↔ p ∈ m := ⟨fun h => s.fit_subset m h, s.mem_fit_of_commanded on⟩
    simp only [List.contains_eq_mem, e]
  · simp [on]

/-- The pumps of a list that are not commanded, each once. -/
def State.idleMembers (s : State) (m : List Pump) : List Pump := No4.all.filter fun p => !s.runCmd p && m.contains p

/-- A drop takes one of the members that are not commanded, with every place it has. -/
theorem State.idleMembers_dropLast (s : State) (m : List Pump) (h : m.any (fun p => !s.runCmd p) = true) :
    (s.idleMembers (dropLast (fun p => !s.runCmd p) m)).length < (s.idleMembers m).length := by
  obtain ⟨p, mem, off⟩ := List.any_eq_true.mp h
  unfold dropLast
  split
  · rename_i q e
    have off := List.find?_some e
    have mem := List.mem_reverse.mp (List.mem_of_find?_eq_some e)
    have split : s.idleMembers (m.filter (· != q)) = (s.idleMembers m).filter (· != q) := by
      simp only [State.idleMembers, List.filter_filter]
      refine List.filter_congr fun x _ => ?_
      simp only [List.contains_eq_mem, List.mem_filter, Bool.decide_and, Bool.decide_eq_true]
      ac_rfl
    rw [split]
    refine List.length_filter_lt_length_iff_exists.mpr ⟨q, ?_, by simp⟩
    simp_all [State.idleMembers, No4.mem_all]
  · rename_i e
    exact absurd off (by simpa using List.find?_eq_none.mp e p (by simpa using mem))

/-- A list once fitted has room in the slots, or no member is left to drop. -/
theorem State.fitUpTo_fits (s : State) (out n : Nat) (m : List Pump) (enough : (s.idleMembers m).length ≤ n) :
    (s.fitUpTo out n m).length + out ≤ s.slots ∨ ∀ p ∈ s.fitUpTo out n m, s.runCmd p = true := by
  induction n generalizing m with
  | zero =>
    refine .inr fun p hp => ?_
    have none : s.idleMembers m = [] := List.eq_nil_of_length_eq_zero (by omega)
    have := List.filter_eq_nil_iff.mp none p (No4.mem_all p)
    simp_all [State.fitUpTo]
  | succ n ih =>
    unfold State.fitUpTo
    split
    · rename_i h
      simp only [Bool.and_eq_true] at h
      have := s.idleMembers_dropLast m h.2
      exact ih _ (by omega)
    · rename_i h
      by_cases room : m.length + out ≤ s.slots
      · exact .inl room
      · refine .inr fun p hp => ?_
        simp only [Bool.and_eq_true, decide_eq_true_eq, List.any_eq_true, Bool.not_eq_true', not_and, not_exists] at h
        by_contra off
        exact h (by omega) p hp (by simpa using off)

theorem State.fit_fits (s : State) (m : List Pump) :
    (s.fit m).length + (s.runningOut m).length ≤ s.slots ∨ ∀ p ∈ s.fit m, s.runCmd p = true :=
  s.fitUpTo_fits _ 4 m (List.length_filter_le _ _)

/-! ### The first pump to stop -/

/-- The pump that the next formation stops, if any: one that runs out with its min-run timer expired or for an immediate cause (R41),
else, where the commanded pumps exceed the slots, the one that started last (R40). -/
def State.stops (s : State) : Option Pump :=
  match s.mustStop s.wanted with
  | some p => some p
  | none => if s.slots < (s.fit s.wanted).length + (s.runningOut s.wanted).length then s.latestStarted else none

/-- A formation acted on with no pump to stop (R27, R41). -/
def State.settled (s : State) : State := s.settleRunSet (s.fit s.wanted)

/-- A fold whose every step gives a value ends without one only over an empty list. -/
theorem foldl_none {α : Type} {g : Option α → α → Option α} (value : ∀ b x, (g b x).isSome = true) (xs : List α) (best : Option α)
    (h : xs.foldl g best = none) : xs = [] ∧ best = none := by
  induction xs generalizing best with
  | nil => exact ⟨rfl, h⟩
  | cons x rest ih =>
    have := value best x
    rw [(ih _ h).2] at this
    cases this

theorem State.latestStarted_none {s : State} (h : s.latestStarted = none) (p : Pump) : s.runCmd p = false := by
  have k := (foldl_none (fun b x => ?_) _ _ h).1
  · simpa using List.filter_eq_nil_iff.mp k p (No4.mem_all p)
  · cases b with
    | none => rfl
    | some q =>
      dsimp only
      split <;> rfl

/-- Where no pump is stopped, the list fits the slots. -/
theorem State.stops_none {s : State} (h : s.stops = none) :
    s.mustStop s.wanted = none ∧ (s.fit s.wanted).length + (s.runningOut s.wanted).length ≤ s.slots := by
  unfold State.stops at h
  split at h
  · cases h
  · rename_i k
    refine ⟨k, ?_⟩
    split at h
    · rename_i full
      rcases s.fit_fits s.wanted with room | all
      · exact room
      · have off := State.latestStarted_none h
        have no_member : s.fit s.wanted = [] :=
          List.eq_nil_iff_forall_not_mem.mpr fun p hp => Bool.false_ne_true ((off p).symm.trans (all p hp))
        have no_out : s.runningOut s.wanted = [] := List.filter_eq_nil_iff.mpr fun p _ => by simp [off p]
        simp [no_member, no_out] at full
    · omega

theorem State.stops_commanded {s : State} {p : Pump} (h : s.stops = some p) : s.runCmd p = true := by
  unfold State.stops at h
  split at h
  · rename_i k
    exact State.mustStop_commanded (k.trans h)
  · split at h
    · exact State.latestStarted_commanded h
    · cases h

theorem State.settleRunSet_permit (s : State) (m : List Pump) : (s.settleRunSet m).spm.permit = s.spm.permit := by
  have ask : ∀ (v : State) (p : Pump), ((v.setRun p .waiting).join (.pump p)).spm.permit = v.spm.permit := fun v p => by
    rw [State.join_spm, show (v.setRun p .waiting).spm = v.spm from only_setRun v p _ .spm (by decide)]
  have unwait : ∀ (v : State) (p : Pump), (v.unwait p).spm.permit = v.spm.permit := fun v p => by
    rw [State.unwait, State.withdraw_spm, show (v.setRun p .stopped).spm = v.spm from only_setRun v p _ .spm (by decide)]
  unfold State.settleRunSet
  dsimp only
  rw [State.each_keeps _ (·.spm.permit) ask,
    show ∀ (v : State) c, (v.reportIf c .pumps).spm = v.spm from fun v c => only_reportIf v c _ .spm (by decide)]
  exact State.each_keeps _ (·.spm.permit) unwait _ s

/-- One formation: a stop and the next formation, or the list settled and, in OPEN with a request waiting, a grant and the next. -/
theorem State.reformUpTo_succ (n : Nat) (s : State) :
    s.reformUpTo (n + 1) =
      match s.stops with
      | some p => (s.stopPump p).reformUpTo n
      | none =>
        if s.spm.permit = .opened ∧ s.settled.spm.waiting ≠ [] then s.settled.grantFirst.reformUpTo n else s.settled := by
  rw [State.reformUpTo]
  dsimp only
  cases must : s.mustStop s.wanted with
  | some p =>
    have first : s.stops = some p := by simp only [State.stops, must]
    rw [first]
  | none =>
    by_cases full : s.slots < (s.fit s.wanted).length + (s.runningOut s.wanted).length
    · cases latest : s.latestStarted with
      | some p =>
        have first : s.stops = some p := by simp only [State.stops, must, if_pos full, latest]
        rw [first]
        simp only [if_pos full]
      | none =>
        have none : s.stops = none := by simp only [State.stops, must, if_pos full, latest]
        exact absurd (State.stops_none none).2 (by omega)
    · have none : s.stops = none := by simp only [State.stops, must, if_neg full]
      rw [none]
      simp only [if_neg full]
      rw [← State.settled, State.settled, State.settleRunSet_permit, ← State.settled]
      cases s.spm.permit with
      | opened => cases w : s.settled.spm.waiting <;> simp
      | spacing => simp

end Sys2Proof.Machine
end

section
/-! What a settled list makes of the pumps and their requests, and the run set after a re-formation (R27, R39 to R42, R53). -/

namespace Sys2Proof.Machine

/-! ### A settled list -/

/-- The run state of a pump that is not commanded shows whether it is a member (R27). -/
def RunState.settle (r : RunState) (member : Bool) : RunState := if r.commanded then r else if member then .waiting else .stopped

theorem RunState.settle_commanded (r : RunState) (member : Bool) : (r.settle member).commanded = r.commanded := by
  cases r <;> cases member <;> rfl

theorem State.setRun_pumps (s : State) (p q : Pump) (r : RunState) :
    (s.setRun p r).dsq.pumps.get q = if q = p then { s.dsq.pumps.get p with run := r } else s.dsq.pumps.get q := by
  rw [State.setRun_dsq]
  split
  · rename_i e
    rw [e]
    exact Quad.get_modify_self _ _ _
  · rename_i ne
    exact Quad.get_modify_ne _ _ ne

/-- Setting the pumps of a list to a run state sets each of them and no other. -/
theorem State.each_setRun_pumps (f : State → Pump → State) (r : RunState)
    (own : ∀ v p q, (f v p).dsq.pumps.get q = (v.setRun p r).dsq.pumps.get q) (ps : List Pump) (s : State) (q : Pump) :
    (s.each ps f).dsq.pumps.get q = if q ∈ ps then { s.dsq.pumps.get q with run := r } else s.dsq.pumps.get q := by
  induction ps generalizing s with
  | nil => simp
  | cons p rest ih =>
    rw [State.each_cons, ih, own, State.setRun_pumps]
    by_cases e : q = p
    · subst e
      simp
    · simp [e]

theorem State.unwait_pumps (s : State) (p q : Pump) :
    (s.unwait p).dsq.pumps.get q = (s.setRun p .stopped).dsq.pumps.get q := rfl

/-- A settled list moves the run states of the pumps that are not commanded, and of a pump nothing else. -/
theorem State.settleRunSet_pumps (s : State) (m : List Pump) (p : Pump) :
    (s.settleRunSet m).dsq.pumps.get p =
      { s.dsq.pumps.get p with run := (s.runState p).settle (m.contains p) } := by
  have first := State.each_setRun_pumps State.unwait .stopped State.unwait_pumps
    (No4.all.filter fun p => s.runState p == .waiting && !m.contains p) s p
  have told : ∀ (v : State) c, (v.reportIf c .pumps).dsq = v.dsq := fun v c => only_reportIf v c _ .dsq (by decide)
  unfold State.settleRunSet
  dsimp only
  rw [State.each_setRun_pumps (fun v p => (v.setRun p .waiting).join (.pump p)) .waiting fun _ _ _ => rfl]
  simp only [told, State.runState, List.mem_filter] at first ⊢
  rw [first]
  by_cases member : p ∈ m <;> cases run : (s.dsq.pumps.get p).run <;>
    simp [member, run, No4.mem_all, RunState.settle, RunState.commanded] <;> rw [← run]

theorem State.settleRunSet_runSet (s : State) (m : List Pump) : (s.settleRunSet m).dsq.runSet = m := by
  have told : ∀ (v : State) c, (v.reportIf c .pumps).dsq = v.dsq := fun v c => only_reportIf v c _ .dsq (by decide)
  unfold State.settleRunSet
  dsimp only
  rw [State.each_keeps _ (·.dsq.runSet) fun v p => by simp [State.setRun_dsq]]
  rw [told]

theorem State.settleRunSet_queue (s : State) (m : List Pump) : (s.settleRunSet m).dsq.queue = s.dsq.queue := by
  have told : ∀ (v : State) c, (v.reportIf c .pumps).dsq = v.dsq := fun v c => only_reportIf v c _ .dsq (by decide)
  unfold State.settleRunSet
  dsimp only
  rw [State.each_keeps _ (·.dsq.queue) fun v p => by simp [State.setRun_dsq], told]
  exact State.each_keeps State.unwait (·.dsq.queue) State.unwait_queue _ s

/-! ### What the formation reads -/

/-- Two states that a formation does not tell apart: they differ in the run states of the pumps that are not commanded at most, of what
the formation reads. -/
structure FormsAlike (s t : State) : Prop where
  only : OnlyIn [.dsq, .spm, .ppr, .fbl, .alm] s t
  queue : t.dsq.queue = s.dsq.queue
  calls : t.dsq.calls = s.dsq.calls
  latch : t.dsq.latch = s.dsq.latch
  pumps : ∀ p, t.dsq.pumps.get p = { s.dsq.pumps.get p with run := t.runState p }
  commands : ∀ p, t.runCmd p = s.runCmd p

namespace FormsAlike
variable {s t : State} (h : FormsAlike s t)
include h

theorem runCmd : t.runCmd = s.runCmd := funext h.commands
theorem forced : t.forced = s.forced := funext fun p => by simp only [State.forced, h.pumps p]
theorem forceStopped : t.forceStopped = s.forceStopped := funext fun p => by simp only [State.forceStopped, h.pumps p]
theorem img : t.img = s.img := congrArg SettingsStore.live (h.only .cfg (by decide))
theorem inputs : t.inputs = s.inputs := h.only .inputs (by decide)
theorem levels : SameLevels s t := .of_only h.only (by decide)

theorem episodeOpen : t.episodeOpen = s.episodeOpen := funext fun pt => by
  simp only [State.episodeOpen, show t.ovm = s.ovm from h.only .ovm (by decide)]

theorem storm : t.storm = s.storm := by simp only [State.storm, h.episodeOpen]

theorem eligible : t.eligible = s.eligible := funext fun p => by
  simp only [State.eligible, State.startLimitMet, h.queue, h.forceStopped, h.commands p, h.pumps p, h.img, h.storm, h.forced]

theorem demand : t.demand = s.demand := by
  have mode : t.levelMode = s.levelMode := by simp only [State.levelMode, h.levels.serving]
  have called : t.calledCount = s.calledCount := by simp only [State.calledCount, h.calls]
  have blinded : t.isBlinded = s.isBlinded := State.isBlinded_congr (congrArg _ (h.only .scr (by decide)))
  have open1 : t.point1Open = s.point1Open := congrFun h.episodeOpen .n1
  unfold State.demand
  rw [mode, called, blinded, open1, h.storm, h.img, h.queue, h.latch, h.inputs]

theorem wanted : t.wanted = s.wanted := by
  have inHand : t.levelInHand = s.levelInHand := by
    simp only [State.levelInHand, State.hasServed, h.levels.chanState]
  unfold State.wanted
  rw [h.inputs, inHand, h.queue, h.eligible, h.forced, h.demand]

theorem runningOut (m : List Pump) : t.runningOut m = s.runningOut m := by simp only [State.runningOut, h.runCmd]

theorem slots : t.slots = s.slots := by
  have installed : t.pumpIn = s.pumpIn := funext fun p => State.pumpIn_congr h.inputs (h.only .cfg (by decide)) p
  have feedback : t.runFb = s.runFb := funext fun p => by simp only [State.runFb, h.inputs]
  have outside : t.outsideCount = s.outsideCount := by
    simp only [State.outsideCount, State.pumpList, h.runCmd, installed, feedback]
  have cap : t.cap = s.cap := by simp only [State.cap, h.inputs, h.img]
  simp only [State.slots, outside, cap]

theorem fit (m : List Pump) : t.fit m = s.fit m := by
  have each : ∀ out n m, t.fitUpTo out n m = s.fitUpTo out n m := fun out n => by
    induction n with
    | zero => exact fun _ => rfl
    | succ n ih =>
      intro m
      simp only [State.fitUpTo, h.slots, h.runCmd, ih]
  simp only [State.fit, h.runningOut, each]

theorem mustStop (m : List Pump) : t.mustStop m = s.mustStop m := by
  simp only [State.mustStop, h.runningOut, h.pumps, h.forceStopped, h.inputs]

theorem stops : t.stops = s.stops := by
  have latest : t.latestStarted = s.latestStarted := by
    simp only [State.latestStarted, h.runCmd, h.pumps]
  simp only [State.stops, h.wanted, h.mustStop, h.slots, h.fit, h.runningOut, latest]

end FormsAlike

theorem alike_settleRunSet (s : State) (m : List Pump) : FormsAlike s (s.settleRunSet m) := by
  have told : ∀ (v : State) c, (v.reportIf c .pumps).dsq = v.dsq := fun v c => only_reportIf v c _ .dsq (by decide)
  have kept : ((s.settleRunSet m).dsq.calls, (s.settleRunSet m).dsq.latch) = (s.dsq.calls, s.dsq.latch) := by
    unfold State.settleRunSet
    dsimp only
    rw [← State.each_keeps State.unwait (fun v => (v.dsq.calls, v.dsq.latch)) (fun v p => by simp [State.unwait, State.setRun_dsq]) _ s]
    refine (State.each_keeps _ (fun v => (v.dsq.calls, v.dsq.latch)) (fun v p => by simp [State.setRun_dsq]) _ _).trans ?_
    rw [told]
  obtain ⟨calls, latch⟩ := Prod.mk.inj kept
  refine ⟨(only_settleRunSet s m).mono (by decide), s.settleRunSet_queue m, calls, latch, fun p => ?_, fun p => ?_⟩
  · rw [State.runState, State.settleRunSet_pumps]
  · rw [State.runCmd, State.runState, State.settleRunSet_pumps]
    exact RunState.settle_commanded _ _

/-! ### The run set after a re-formation -/

/-- The run set is the formation on the state as it stands, acted on: no pump is left to stop, start or withdraw (R39 to R41). -/
structure Formed (t : State) : Prop where
  runSet : t.dsq.runSet = t.fit t.wanted
  stops : t.stops = none
  runs : ∀ p, t.runState p = (t.runState p).settle (t.dsq.runSet.contains p)

theorem formed_settled {s : State} (h : s.stops = none) : Formed s.settled := by
  have alike := alike_settleRunSet s (s.fit s.wanted)
  refine ⟨?_, alike.stops.trans h, fun p => ?_⟩
  · rw [State.settled, alike.wanted, alike.fit]
    exact s.settleRunSet_runSet _
  · rw [State.runState, State.settled, State.settleRunSet_pumps, State.settleRunSet_runSet]
    simp only [RunState.settle]
    cases s.runState p <;> cases (s.fit s.wanted).contains p <;> rfl

/-- A formed state has nothing to settle. -/
theorem Formed.settled {t : State} (h : Formed t) : t.settled = t := by
  have runs := h.runs
  have out : (No4.all.filter fun p => t.runState p == .waiting && !t.dsq.runSet.contains p) = [] :=
    List.filter_eq_nil_iff.mpr fun p _ => by
      have := runs p
      cases e : t.runState p <;> cases m : t.dsq.runSet.contains p <;> simp_all [RunState.settle, RunState.commanded]
  have asks : (t.dsq.runSet.filter fun p => t.runState p == .stopped) = [] :=
    List.filter_eq_nil_iff.mpr fun p hp => by
      have := runs p
      have m : t.dsq.runSet.contains p = true := by simpa using hp
      cases e : t.runState p <;> simp_all [RunState.settle, RunState.commanded]
  have still : (No4.all.any fun p => t.dsq.runSet.contains p != t.dsq.runSet.contains p) = false := by simp
  unfold State.settled State.settleRunSet
  dsimp only
  rw [← h.runSet, out]
  simp only [State.each_nil, still, State.reportIf, Bool.false_eq_true, if_false, asks]

/-! ### Formation after formation -/

/-- What the formations of one event come to (R42). -/
inductive Forms : State → State → Prop
  | stop {s t : State} {p : Pump} (first : s.stops = some p) (rest : Forms (s.stopPump p) t) : Forms s t
  | grant {s t : State} (none : s.stops = none) (opened : s.spm.permit = .opened) (asked : s.settled.ranked ≠ [])
      (rest : Forms s.settled.grantFirst t) : Forms s t
  | done {s : State} (none : s.stops = none) (quiet : s.spm.permit = .opened → s.settled.ranked = []) : Forms s s.settled

theorem Forms.unique {s t u : State} (h : Forms s t) (k : Forms s u) : u = t := by
  induction h generalizing u with
  | stop first rest ih =>
    cases k with
    | stop first' rest' =>
      cases first.symm.trans first'
      exact ih rest'
    | grant none => cases first.symm.trans none
    | done none => cases first.symm.trans none
  | grant none opened asked rest ih =>
    cases k with
    | stop first => cases none.symm.trans first
    | grant _ _ _ rest' => exact ih rest'
    | done _ quiet => exact absurd (quiet opened) asked
  | done none quiet =>
    cases k with
    | stop first => cases none.symm.trans first
    | grant _ opened asked => exact absurd (quiet opened) asked
    | done => rfl

/-- The commanded pumps, in number order. -/
def State.commandedPumps (s : State) : List Pump := No4.all.filter s.runCmd

theorem State.stopPump_dsq (s : State) (p : Pump) : (s.stopPump p).dsq.pumps = (s.dropPump p).dsq.pumps := by
  unfold State.stopPump State.alternate
  split
  · exact State.setQueue_pumps _ _
  · rfl

theorem State.runState_stopPump_self (s : State) (p : Pump) : (s.stopPump p).runState p = .stopped := by
  rw [State.runState, State.stopPump_dsq]
  exact s.dropPump_runState p

theorem State.runState_stopPump_ne (s : State) {p q : Pump} (h : q ≠ p) : (s.stopPump p).runState q = s.runState q := by
  rw [State.runState, State.stopPump_dsq]
  exact s.dropPump_runState_ne h

theorem State.commandedPumps_stopPump (s : State) {p : Pump} (on : s.runCmd p = true) :
    (s.stopPump p).commandedPumps.length < s.commandedPumps.length := by
  have split : (s.stopPump p).commandedPumps = s.commandedPumps.filter (· != p) := by
    simp only [State.commandedPumps, List.filter_filter]
    refine List.filter_congr fun q _ => ?_
    by_cases e : q = p
    · subst e
      simp [State.runCmd, s.runState_stopPump_self, RunState.commanded]
    · simp [State.runCmd, s.runState_stopPump_ne e, e]
  rw [split]
  exact List.length_filter_lt_length_iff_exists.mpr ⟨p, by simp [State.commandedPumps, No4.mem_all, on], by simp⟩

theorem State.grantFirst_of_nil {s : State} (h : s.ranked = []) : s.grantFirst = s := by simp [State.grantFirst, h]

theorem State.grantFirst_of_cons {s : State} {r : Request} {rest : List Request} (h : s.ranked = r :: rest) :
    s.grantFirst = (s.recordGrant r.who).grantTo r.who := by simp [State.grantFirst, h]

theorem State.grantFirst_spm {s : State} {r : Request} {rest : List Request} (h : s.ranked = r :: rest) :
    s.grantFirst.spm = (s.recordGrant r.who).spm := by
  rw [State.grantFirst_of_cons h]
  exact only_grantTo _ _ .spm (by decide)

/-- A formed state where no grant comes stays as it is. -/
theorem Formed.reformUpTo {t : State} (h : Formed t) (quiet : t.spm.permit = .opened → t.ranked = []) (n : Nat) :
    t.reformUpTo n = t := by
  induction n with
  | zero => rfl
  | succ n ih =>
    rw [State.reformUpTo_succ, h.stops]
    dsimp only
    split
    · rename_i k
      rw [h.settled, State.grantFirst_of_nil (quiet k.1), ih]
    · exact h.settled

theorem State.settled_permit (s : State) : s.settled.spm.permit = s.spm.permit := s.settleRunSet_permit _

theorem State.ranked_of_no_request {s : State} (h : s.spm.waiting = []) : s.ranked = [] := by
  have none : ∀ w, s.requestOf w = none := fun w => by simp [State.requestOf, h]
  simp [State.ranked, State.waitingPumps, State.waitingScreens, none]

/-- Formations for every commanded pump to stop, one for the list, and in OPEN five more after a grant are enough. -/
theorem forms_reformUpTo (n : Nat) (s : State)
    (enough : s.commandedPumps.length + (if s.spm.permit = .opened then 6 else 1) ≤ n) : Forms s (s.reformUpTo n) := by
  induction n generalizing s with
  | zero => split at enough <;> omega
  | succ n ih =>
    rw [State.reformUpTo_succ]
    cases first : s.stops with
    | some p =>
      have less := s.commandedPumps_stopPump (State.stops_commanded first)
      have permit : (s.stopPump p).spm = s.spm := only_stopPump s p .spm (by decide)
      exact .stop first (ih _ (by rw [permit]; omega))
    | none =>
      dsimp only
      split
      · rename_i k
        cases ranked : s.settled.ranked with
        | nil =>
          rw [State.grantFirst_of_nil ranked, (formed_settled first).reformUpTo fun _ => ranked]
          exact .done first fun _ => ranked
        | cons r rest =>
          refine .grant first k.1 (by simp [ranked]) (ih _ ?_)
          have few : s.settled.grantFirst.commandedPumps.length ≤ 4 := List.length_filter_le _ _
          rw [if_pos k.1] at enough
          simp only [State.grantFirst_spm ranked, State.recordGrant_spm, reduceCtorEq, if_false]
          omega
      · rename_i k
        refine .done first fun opened => State.ranked_of_no_request ?_
        by_contra asked
        exact k ⟨opened, asked⟩

/-- The ten formations that the model allows are enough (log entry 14). -/
theorem forms_reform (s : State) : Forms s s.reform := by
  refine forms_reformUpTo 10 s ?_
  have few : s.commandedPumps.length ≤ 4 := List.length_filter_le _ _
  split <;> omega

theorem Forms.reform_eq {s t : State} (h : Forms s t) : s.reform = t := h.unique (forms_reform s)

theorem State.reform_of_stop {s : State} {p : Pump} (h : s.stops = some p) : s.reform = (s.stopPump p).reform :=
  (Forms.stop h (forms_reform _)).reform_eq

theorem Forms.formed {s t : State} (h : Forms s t) : Formed t ∧ (t.spm.permit = .opened → t.ranked = []) := by
  induction h with
  | stop first rest ih => exact ih
  | grant none opened asked rest ih => exact ih
  | done none quiet => exact ⟨formed_settled none, fun opened => quiet (by rwa [State.settled_permit] at opened)⟩

theorem formed_reform (s : State) : Formed s.reform := (forms_reform s).formed.1

theorem State.reform_quiet (s : State) : s.reform.spm.permit = .opened → s.reform.ranked = [] := (forms_reform s).formed.2

/-- A commanded pump outside the run set runs out its min-run timer, with no immediate cause to stop (R40, R41). -/
theorem Formed.runsOut {t : State} (h : Formed t) {p : Pump} (on : t.runCmd p = true) (out : p ∉ t.dsq.runSet) :
    (t.dsq.pumps.get p).minRun.isSome = true ∧ t.inputs.floatLowLow = false ∧ t.forceStopped p = false := by
  have left : p ∈ t.runningOut t.wanted := by
    rw [← t.runningOut_fit, ← h.runSet]
    simp [State.runningOut, No4.mem_all, on, out]
  have k := List.find?_eq_none.mp (State.stops_none h.stops).1 p left
  simp only [Bool.or_eq_true, beq_iff_eq, not_or, Bool.not_eq_true] at k
  exact ⟨Option.isSome_iff_ne_none.mpr k.1.1, k.1.2, k.2⟩

theorem Formed.fits {t : State} (h : Formed t) : t.dsq.runSet.length + (t.runningOut t.dsq.runSet).length ≤ t.slots := by
  have room := (State.stops_none h.stops).2
  rwa [h.runSet, t.runningOut_fit]

theorem Formed.not_mem_of_stopped {t : State} (h : Formed t) {p : Pump} (off : t.runState p = .stopped) : p ∉ t.dsq.runSet := by
  intro mem
  have := h.runs p
  simp [off, RunState.settle, RunState.commanded, mem] at this

theorem Formed.mem_of_waiting {t : State} (h : Formed t) {p : Pump} (waits : t.runState p = .waiting) : p ∈ t.dsq.runSet := by
  by_contra out
  have := h.runs p
  simp [waits, RunState.settle, RunState.commanded, out] at this

/-- While FLOAT_LOW_LOW is active the run set is empty and every pump STOPPED (R35, R39, R41). -/
theorem Formed.dry {t : State} (h : Formed t) (low : t.inputs.floatLowLow = true) (p : Pump) : t.runState p = .stopped := by
  have empty : t.dsq.runSet = [] := by
    have none : t.wanted = [] := by simp [State.wanted, low]
    exact h.runSet.trans (List.subset_nil.mp (none ▸ t.fit_subset t.wanted))
  have out : p ∉ t.dsq.runSet := by simp [empty]
  have off : t.runCmd p = false := by
    by_contra on
    have := (h.runsOut (by simpa using on) out).2.1
    exact Bool.false_ne_true (this.symm.trans low)
  cases run : t.runState p with
  | stopped => rfl
  | waiting => exact absurd (h.mem_of_waiting run) out
  | starting => simp [State.runCmd, run, RunState.commanded] at off
  | running => simp [State.runCmd, run, RunState.commanded] at off

end Sys2Proof.Machine
end

section
/-! What a grant makes of a pump, and what the formations of one event keep of overrides and requests (R27, R28, R42, R55, R61). -/

namespace Sys2Proof.Machine

/-! ### The pump that a grant reaches -/

/-- A pump as a grant leaves it (R28, R49, R67). -/
def DutyPump.granted (d : DutyPump) (feedback drive : Bool) (now : Nat) (m : DutySettings) : DutyPump :=
  let begun := { d with
    startTime := some now, history := addStartEntry d.history (now / 1000)
    minRun := if m.minRunS = 0 then none else some now, minOff := none
    run := if feedback then .running else .starting }
  if drive then { begun.setRef m.minSpeed with rampNext := some (now + 1000) } else begun

theorem State.commandPump_dsq (s : State) (p : Pump) :
    (s.commandPump p).dsq =
      { s.dsq with pumps := s.dsq.pumps.modify p (·.granted false (s.img.drive p) s.uptime s.img.duty) } := by
  refine (only_setWatch _ _ _ .dsq (by decide)).trans ?_
  simp only [State.credit_dsq, State.setRun_dsq, State.modDuty_dsq, Quad.modify_modify]
  congr 2
  funext d
  cases drive : s.img.drive p <;> simp [DutyPump.granted, DutyPump.setRef, State.timer, State.upSeconds]

theorem DutyPump.granted_running (d : DutyPump) (drive : Bool) (now : Nat) (m : DutySettings) :
    { d.granted false drive now m with run := .running } = d.granted true drive now m := by
  cases drive <;> rfl

/-- Of the Duty Sequencer a grant writes the granted pump and nothing else. -/
theorem State.grantPump_granted (s : State) (p : Pump) :
    (s.grantPump p).dsq =
      { s.dsq with pumps := s.dsq.pumps.modify p (·.granted (s.runFb p) (s.img.drive p) s.uptime s.img.duty) } := by
  have fb : (s.commandPump p).runFb p = s.runFb p := by
    simp only [State.runFb, show (s.commandPump p).inputs = s.inputs from only_commandPump s p .inputs (by decide)]
  rw [State.grantPump_eq, fb]
  cases s.runFb p with
  | false =>
    exact (only_judgeFaults _ _ .dsq (by decide)).trans (s.commandPump_dsq p)
  | true =>
    rw [if_pos rfl, State.startConfirm_dsq, State.commandPump_dsq, Quad.modify_modify]
    exact congrArg (fun f => ({ s.dsq with pumps := s.dsq.pumps.modify p f } : DutySequencer))
      (funext fun d => d.granted_running _ _ _)

theorem DutyPump.granted_override (d : DutyPump) (feedback drive : Bool) (now : Nat) (m : DutySettings) :
    (d.granted feedback drive now m).override = d.override := by
  cases drive <;> rfl

theorem DutyPump.granted_run (d : DutyPump) (feedback drive : Bool) (now : Nat) (m : DutySettings) :
    (d.granted feedback drive now m).run = if feedback then .running else .starting := by
  cases drive <;> rfl

theorem State.grantPump_runState_self (s : State) (p : Pump) :
    (s.grantPump p).runState p = if s.runFb p then .running else .starting := by
  simp [State.runState, State.grantPump_granted, DutyPump.granted_run]

/-! ### What every formation keeps -/

/-- The override of a pump. -/
def State.overrideOf (s : State) (p : Pump) : Option Override := (s.dsq.pumps.get p).override

theorem State.overrideOf_dropPump (s : State) (p q : Pump) : (s.dropPump p).overrideOf q = s.overrideOf q := by
  simp only [State.overrideOf, State.dropPump_dsq]
  cases p <;> cases q <;> rfl

theorem State.overrideOf_grantTo (s : State) (w : Requester) (q : Pump) : (s.grantTo w).overrideOf q = s.overrideOf q := by
  cases w with
  | pump p =>
    simp only [State.overrideOf, State.grantTo, State.grantPump_granted]
    by_cases e : q = p
    · subst e
      simp [DutyPump.granted_override]
    · simp [e]
  | screen sc => simp only [State.overrideOf, State.grantTo, show (s.grantScreen sc).dsq = s.dsq from only_grantScreen s sc .dsq (by decide)]

/-- What a stop, a settled list and a grant each keep holds along the formations. -/
theorem Forms.keeps {P : State → Prop} (stop : ∀ s p, s.runCmd p = true → P s → P (s.stopPump p)) (settle : ∀ s, P s → P s.settled)
    (grant : ∀ s, s.spm.permit = .opened → P s → P s.grantFirst) {s t : State} (h : Forms s t) (k : P s) : P t := by
  induction h with
  | stop first rest ih => exact ih (stop _ _ (State.stops_commanded first) k)
  | grant none opened asked rest ih => exact ih (grant _ ((State.settled_permit _).trans opened) (settle _ k))
  | done none quiet => exact settle _ k

theorem State.overrideOf_grantFirst (s : State) (p : Pump) : s.grantFirst.overrideOf p = s.overrideOf p := by
  unfold State.grantFirst
  split
  · exact State.overrideOf_grantTo _ _ _
  · rfl

/-- A re-formation leaves every override as it was (R43). -/
theorem State.overrideOf_reform (s : State) (p : Pump) : s.reform.overrideOf p = s.overrideOf p := by
  refine (forms_reform s).keeps (P := fun u => u.overrideOf p = s.overrideOf p) (fun u q _ k => ?_) (fun u k => ?_)
    (fun u _ k => (u.overrideOf_grantFirst p).trans k) rfl
  · rw [State.overrideOf, State.stopPump_dsq]
    exact (u.overrideOf_dropPump q p).trans k
  · rw [State.overrideOf, State.settled, State.settleRunSet_pumps]
    exact k

/-! ### Requests and run states -/

/-- A pump that does not wait has no request. -/
def Unasked (p : Pump) (s : State) : Prop := s.runState p ≠ .waiting → s.requestOf (.pump p) = none

/-- A pump that waits has its request of this moment (R55). -/
def Stamped (p : Pump) (s : State) : Prop := s.runState p = .waiting → s.requestOf (.pump p) = some ⟨.pump p, s.uptime⟩

theorem State.runState_grantTo_self (s : State) (p : Pump) : ((s.grantTo (.pump p)).runState p).commanded = true := by
  rw [State.grantTo, State.grantPump_runState_self]
  split <;> rfl

theorem State.requestOf_recordGrant_self (s : State) (w : Requester) : (s.recordGrant w).requestOf w = none :=
  s.requestOf_withdraw_self w

section
variable {asks : Bool} {s t : State} {p : Pump}

/-- What a move does to the run state and the request of one pump: both stay, the request goes with the wait, or the pump asks. -/
theorem DutyMove.asking (h : DutyMove asks s t) (p : Pump) :
    (t.runState p = s.runState p ∧ t.requestOf (.pump p) = s.requestOf (.pump p)) ∨
      (t.runState p ≠ .waiting ∧ (t.requestOf (.pump p) = none ∨ s.runCmd p = true ∧ t.requestOf (.pump p) = s.requestOf (.pump p))) ∨
      (t.runState p = .waiting ∧ t.requestOf (.pump p) = (s.join (.pump p)).requestOf (.pump p)) := by
  have still : ∀ {bs : List Block}, OnlyIn bs s t → Block.spm ∉ bs → t.requestOf (.pump p) = s.requestOf (.pump p) :=
    fun o n => State.requestOf_congr (o .spm n) _
  cases h with
  | drop _ q on =>
    have kept := still (only_dropPump s q) (by decide)
    by_cases e : p = q
    · subst e
      exact .inr (.inl ⟨by simp [s.dropPump_runState p], .inr ⟨on, kept⟩⟩)
    · exact .inl ⟨s.dropPump_runState_ne e, kept⟩
  | unwait _ q off =>
    have run : (s.setRun q .stopped).requestOf (.pump p) = s.requestOf (.pump p) :=
      State.requestOf_congr (only_setRun s q _ .spm (by decide)) _
    by_cases e : p = q
    · subst e
      refine .inr (.inl ⟨?_, .inl (State.requestOf_withdraw_self _ _)⟩)
      rw [show (s.unwait p).runState p = .stopped from State.runState_setRun_self s p _]
      decide
    · refine .inl ⟨s.runState_unwait_ne e, ?_⟩
      rw [State.unwait, State.requestOf_withdraw_ne _ (by simpa using e), run]
  | uncommand _ q => exact .inl ⟨s.runState_setOverride q p _, still (only_setOverride s q _) (by decide)⟩
  | queue _ q same =>
    exact .inl ⟨by simp only [State.runState, State.setQueue_pumps], still (only_setQueue s q) (by decide)⟩
  | runSet _ m c =>
    refine .inl ⟨?_, still (bs := [.dsq, .alm]) ((only_dsq s _).next (only_reportIf _ _ _) (by decide) (by decide)) (by decide)⟩
    simp only [State.runState, show ∀ v : State, (v.reportIf c .pumps).dsq = v.dsq from fun v => only_reportIf v c _ .dsq (by decide)]
  | ask _ q queued =>
    have spm : (s.setRun q .waiting).spm = s.spm := only_setRun s q _ .spm (by decide)
    have time : (s.setRun q .waiting).uptime = s.uptime := only_setRun s q _ .uptime (by decide)
    by_cases e : p = q
    · subst e
      refine .inr (.inr ⟨s.runState_setRun_self p _, ?_⟩)
      simp only [State.requestOf, State.join_spm, spm, time]
    · exact .inl ⟨s.runState_setRun_ne _ e, (State.requestOf_join_ne _ (by simpa using e)).trans (State.requestOf_congr spm _)⟩
  | grant _ r ranked opened =>
    have spm : ((s.recordGrant r.who).grantTo r.who).requestOf (.pump p) = (s.recordGrant r.who).requestOf (.pump p) :=
      State.requestOf_congr (only_grantTo _ r.who .spm (by decide)) _
    by_cases e : r.who = .pump p
    · refine .inr (.inl ⟨?_, .inl ?_⟩)
      · have on := (s.recordGrant (.pump p)).runState_grantTo_self p
        rw [e]
        intro waits
        rw [waits] at on
        cases on
      · rw [spm, e]
        exact State.requestOf_recordGrant_self _ _
    · exact .inl ⟨((s.recordGrant r.who).grantTo_other e).1, spm.trans (State.requestOf_recordGrant_ne _ (Ne.symm e))⟩

theorem DutyMove.unasked (h : DutyMove asks s t) (k : Unasked p s) : Unasked p t := by
  intro out
  rcases h.asking p with ⟨r, q⟩ | ⟨_, q | ⟨on, q⟩⟩ | ⟨r, _⟩
  · rw [q]
    exact k (r ▸ out)
  · exact q
  · rw [q]
    refine k fun waits => ?_
    rw [State.runCmd_of_waiting waits] at on
    cases on
  · exact absurd r out

theorem DutyMoves.unasked (h : DutyMoves asks s t) (k : Unasked p s) : Unasked p t := h.keeps (fun _ _ m => m.unasked) k

theorem DutyMoves.stamped (h : DutyMoves asks s t) (k : Unasked p s) (l : Stamped p s) : Stamped p t := by
  have i := h.keeps (P := fun u => Unasked p u ∧ Stamped p u) (fun a b m ⟨ua, st⟩ => by
    refine ⟨m.unasked ua, fun waits => ?_⟩
    have time : b.uptime = a.uptime := m.only .uptime (by decide)
    rw [time]
    rcases m.asking p with ⟨r, q⟩ | ⟨out, _⟩ | ⟨_, q⟩
    · rw [q]
      exact st (r ▸ waits)
    · exact absurd waits out
    · rw [q]
      by_cases w : a.runState p = .waiting
      · have here := st w
        simp only [State.requestOf] at here
        simp [State.requestOf, List.find?_append, here]
      · exact State.requestOf_join_self _ (ua w)) ⟨k, l⟩
  exact i.2

end

theorem RequestsOk.unasked {s : State} (ok : RequestsOk s) (p : Pump) : Unasked p s := by
  intro out
  cases e : s.requestOf (.pump p) with
  | none => rfl
  | some r => exact absurd (ok.pumps r (List.mem_of_find?_eq_some e) p (State.requestOf_who e)) out

/-! ### The pump stopped where the slots are too few -/

/-- The fold that looks for the latest start ends with an element that none exceeds. -/
theorem foldl_latest {α : Type} (start : α → Nat) {g : Option α → α → Option α} (first : ∀ x, g none x = some x)
    (better : ∀ q x, g (some q) x = if start q ≤ start x then some x else some q) (xs : List α) (best : Option α) {p : α}
    (h : xs.foldl g best = some p) :
    (∀ q ∈ xs, start q ≤ start p) ∧ ∀ q, best = some q → start q ≤ start p := by
  induction xs generalizing best with
  | nil =>
    refine ⟨by simp, fun q e => ?_⟩
    cases h.symm.trans e
    exact Nat.le_refl _
  | cons x rest ih =>
    obtain ⟨later, mine⟩ := ih _ h
    cases best with
    | none => exact ⟨by simpa using ⟨mine x (first x), later⟩, fun q e => by cases e⟩
    | some b =>
      rw [better] at mine
      split at mine
      · rename_i le
        have x_le := mine x rfl
        refine ⟨by simpa using ⟨x_le, later⟩, ?_⟩
        rintro q ⟨⟩
        exact le.trans x_le
      · rename_i lt
        have b_le := mine b rfl
        refine ⟨by simpa using ⟨by omega, later⟩, ?_⟩
        rintro q ⟨⟩
        exact b_le

theorem State.latestStarted_latest {s : State} {p : Pump} (h : s.latestStarted = some p) (q : Pump) (on : s.runCmd q = true) :
    (s.dsq.pumps.get q).startTime.getD 0 ≤ (s.dsq.pumps.get p).startTime.getD 0 :=
  (foldl_latest (fun p => (s.dsq.pumps.get p).startTime.getD 0) (fun _ => rfl) (fun _ _ => rfl) _ none h).1 q
    (List.mem_filter.mpr ⟨No4.mem_all q, on⟩)

/-! ### Fitting a list without repeats -/

/-- Of the members that are not commanded, those that the places left over hold; the commanded ones all stay (R40). -/
def State.placed (s : State) (places : Nat) (m : List Pump) : List Pump :=
  m.filter fun p => s.runCmd p || ((m.filter fun p => !s.runCmd p).take places).contains p

/-- A drop takes the last member that is not commanded. -/
theorem dropLast_eq {f : Pump → Bool} {m : List Pump} {q : Pump} (e : (m.filter f).getLast? = some q) :
    dropLast f m = m.filter (· != q) := by
  have found : m.reverse.find? f = some q := by
    rw [← List.head?_filter, List.filter_reverse, List.head?_reverse, e]
  rw [dropLast, found]

/-- While every member that is not commanded has its place, all stay. -/
theorem State.placed_of_room (s : State) (places : Nat) (m : List Pump) (room : (m.filter fun p => !s.runCmd p).length ≤ places) :
    s.placed places m = m := by
  rw [State.placed, List.take_of_length_le room]
  refine List.filter_eq_self.mpr fun p hp => ?_
  cases on : s.runCmd p <;> simp [hp, on]

/-- The last member that is not commanded has no place where there are fewer places than such members. -/
theorem State.placed_filter (s : State) (places : Nat) (m : List Pump) (nodup : m.Nodup) {q : Pump}
    (last : (m.filter fun p => !s.runCmd p).getLast? = some q) (few : places < (m.filter fun p => !s.runCmd p).length) :
    s.placed places (m.filter (· != q)) = s.placed places m := by
  have free_nodup := nodup.filter fun p => !s.runCmd p
  have off : s.runCmd q = false := by simpa using (List.mem_filter.mp (List.mem_of_getLast? last)).2
  obtain ⟨front, split⟩ := List.getLast?_eq_some_iff.mp last
  have fresh : q ∉ front := by
    rw [split] at free_nodup
    exact fun h => (List.nodup_append.mp free_nodup).2.2 q h q (by simp) rfl
  have rest : ((m.filter (· != q)).filter fun p => !s.runCmd p) = front := by
    rw [List.filter_comm, split]
    simp only [List.filter_append, List.filter_cons, bne_self_eq_false, Bool.false_eq_true, if_false, List.filter_nil, List.append_nil]
    exact List.filter_eq_self.mpr fun p hp => by
      simp only [bne_iff_ne, ne_eq]
      rintro rfl
      exact fresh hp
  have short : places ≤ front.length := by
    rw [split] at few
    simp at few
    omega
  simp only [State.placed, rest, split, List.take_append_of_le_length short, List.filter_filter]
  refine List.filter_congr fun p _ => ?_
  by_cases e : p = q
  · subst e
    have out : p ∉ front.take places := fun h => fresh (List.mem_of_mem_take h)
    simp [off, out]
  · simp [e]

theorem State.fitUpTo_placed (s : State) (out n : Nat) (m : List Pump) (nodup : m.Nodup)
    (enough : (m.filter fun p => !s.runCmd p).length ≤ n) :
    s.fitUpTo out n m = s.placed (s.slots - out - (m.length - (m.filter fun p => !s.runCmd p).length)) m := by
  induction n generalizing m with
  | zero =>
    rw [State.fitUpTo, State.placed_of_room _ _ _ (by omega)]
  | succ n ih =>
    have most : (m.filter fun p => !s.runCmd p).length ≤ m.length := List.length_filter_le _ _
    unfold State.fitUpTo
    by_cases full : s.slots < m.length + out
    · cases last : (m.filter fun p => !s.runCmd p).getLast? with
      | none =>
        have none_free := List.getLast?_eq_none_iff.mp last
        have no_any : m.any (fun p => !s.runCmd p) = false := by
          simpa using List.filter_eq_nil_iff.mp none_free
        rw [no_any, Bool.and_false, if_neg (by decide), State.placed_of_room _ _ _ (by simp [none_free])]
      | some q =>
        have mem := List.mem_of_getLast? last
        have q_mem := (List.mem_filter.mp mem)
        have some_any : m.any (fun p => !s.runCmd p) = true := List.any_eq_true.mpr ⟨q, q_mem.1, q_mem.2⟩
        have gone : (m.filter (· != q)).length + 1 = m.length := by
          have := nodup.erase_eq_filter q
          rw [← this, List.length_erase_of_mem q_mem.1]
          have := List.length_pos_of_mem q_mem.1
          omega
        have free_gone : ((m.filter (· != q)).filter fun p => !s.runCmd p).length + 1 = (m.filter fun p => !s.runCmd p).length := by
          have := (nodup.filter fun p => !s.runCmd p).erase_eq_filter q
          rw [List.filter_comm, ← this, List.length_erase_of_mem mem]
          have := List.length_pos_of_mem mem
          omega
        rw [if_pos (by simp [full, some_any]), dropLast_eq last, ih _ (nodup.filter _) (by omega)]
        rw [show (m.filter (· != q)).length - ((m.filter (· != q)).filter fun p => !s.runCmd p).length =
          m.length - (m.filter fun p => !s.runCmd p).length by omega]
        exact s.placed_filter _ _ nodup last (by omega)
    · rw [if_neg (by simp [full]), State.placed_of_room _ _ _ (by omega)]

end Sys2Proof.Machine
end

section
/-! MIN_RUN_EXPIRY, MIN_OFF_EXPIRY, START_HISTORY_AGE_OUT, the re-formation as a whole, and FLOAT_LOW_LOW (R27, R31, R32, R35 to
R42, R58). -/

namespace Sys2Proof.Machine

/-! ### Expiries -/

theorem runTimers_expire (s : State) (p : Pump) (t0 h : Nat) (rest : List Nat) (run : s.isHeld = false) :
    ((s.dsq.pumps.get p).minRun = some t0 →
      Gives (.minRunExpiry p) s fun t =>
        t = ((s.reach (t0 + s.img.duty.minRunS * 1000)).modDuty p fun d => { d with minRun := none }).reform) ∧
    ((s.dsq.pumps.get p).minOff = some t0 →
      Gives (.minOffExpiry p) s fun t =>
        t = ((s.reach (t0 + s.img.duty.minOffS * 1000)).modDuty p fun d => { d with minOff := none }).reform) ∧
    ((s.dsq.pumps.get p).history = h :: rest →
      Gives (.startHistoryAgeOut p) s fun t =>
        t = ((s.reach ((h + 3600) * 1000)).modDuty p fun d => { d with history := rest }).reform) := by
  refine ⟨fun running => ⟨_, rfl, ?_⟩, fun running => ⟨_, rfl, ?_⟩, fun oldest => ⟨_, rfl, ?_⟩⟩
  · rw [running]
    exact State.onExpiry_some _ _ _ _ run
  · rw [running]
    exact State.onExpiry_some _ _ _ _ run
  · rw [State.live_running _ _ run]
    simp only [oldest]
    rfl

/-! ### The figures of a formation -/

theorem State.eligible_iff (s : State) (p : Pump) :
    s.eligible p = true ↔
      p ∈ s.dsq.queue ∧ s.forceStopped p = false ∧
        ((s.dsq.pumps.get p).run = .starting ∨ (s.dsq.pumps.get p).run = .running ∨
          ((s.dsq.pumps.get p).minOff = none ∧
            ((s.dsq.pumps.get p).history.length < s.img.duty.startsPerHour ∨ s.storm = true ∨ s.forced p = true))) := by
  have on : s.runCmd p = true ↔ (s.dsq.pumps.get p).run = .starting ∨ (s.dsq.pumps.get p).run = .running := by
    simp only [State.runCmd, State.runState]
    cases (s.dsq.pumps.get p).run <;> simp [RunState.commanded]
  simp only [State.eligible, State.startLimitMet, Bool.and_eq_true, Bool.or_eq_true, on, List.contains_eq_mem,
    decide_eq_true_eq, Bool.not_eq_true', beq_iff_eq]
  tauto

theorem State.slots_eq (s : State) :
    s.slots =
      (if s.inputs.onGenerator then s.img.duty.genMaxRunning else s.img.duty.maxRunning) -
        (No4.all.filter fun p => s.pumpIn p && s.runFb p && !s.runCmd p).length := by
  simp only [State.slots, State.cap, State.outsideCount, State.pumpList, List.filter_filter]
  congr 3
  funext p
  ac_rfl

theorem State.wanted_eq (s : State) :
    s.wanted =
      if s.inputs.floatLowLow = true ∨ s.levelInHand = false then []
      else
        (s.dsq.queue.filter s.eligible).filter s.forced ++
          ((s.dsq.queue.filter s.eligible).filter fun p => !s.forced p).take
            (s.demand - ((s.dsq.queue.filter s.eligible).filter s.forced).length) := by
  unfold State.wanted
  refine if_congr ?_ rfl rfl
  simp

/-! ### The re-formation -/

theorem reform_frame (s : State) :
    OnlyIn [.dsq, .spm, .ppr, .scr, .fbl, .alm, .src] s s.reform ∧
    s.reform.src.log = s.src.log ∧ s.reform.src.clock = s.src.clock ∧
    s.reform.scr.blinded = s.scr.blinded ∧ s.reform.dsq.calls = s.dsq.calls ∧ s.reform.dsq.latch = s.dsq.latch ∧
    s.reform.dsq.stage = s.dsq.stage ∧ s.reform.fbl.pumped = s.fbl.pumped ∧
    (∀ p, (s.reform.dsq.pumps.get p).override = (s.dsq.pumps.get p).override) ∧
    (∀ p, (s.reform.ppr.get p).trips = (s.ppr.get p).trips ∧ (s.reform.ppr.get p).rest = (s.ppr.get p).rest ∧
      (s.reform.ppr.get p).forgive = (s.ppr.get p).forgive) := by
  have moves := moves_reform s
  obtain ⟨calls, latch, stage⟩ := moves.calls
  have judged := moves.judged
  refine ⟨only_reform s, ?_, ?_, moves.blinded, calls, latch, stage, ?_, s.overrideOf_reform,
    fun p => ⟨(judged p).trips, (judged p).rest, (judged p).forgive⟩⟩
  · rw [moves.src]
  · rw [moves.src]
  · rw [moves.fbl]

/-- What holds of the pumps and the permit once the run set is formed, whatever the state before. -/
theorem reform_runSet (s : State) :
    s.reform.dsq.runSet = s.reform.fit s.reform.wanted ∧
    s.reform.dsq.runSet.length +
        (No4.all.filter fun p => s.reform.runCmd p && !s.reform.dsq.runSet.contains p).length ≤ s.reform.slots ∧
    (∀ p,
      (s.reform.runState p = .stopped →
        p ∉ s.reform.dsq.runSet ∧ (s.runState p = .waiting → s.reform.requestOf (.pump p) = none)) ∧
      (s.reform.runState p = .waiting →
        p ∈ s.reform.dsq.runSet ∧
        (RequestsOk s → s.runState p = .stopped → s.reform.requestOf (.pump p) = some ⟨.pump p, s.uptime⟩)) ∧
      (s.reform.runCmd p = true → p ∉ s.reform.dsq.runSet →
        (s.reform.dsq.pumps.get p).minRun.isSome = true ∧ s.reform.inputs.floatLowLow = false ∧
          s.reform.forceStopped p = false)) ∧
    (s.reform.spm.permit = .opened → s.reform.ranked = []) := by
  have formed := formed_reform s
  have moves := moves_reform s
  have time : s.reform.uptime = s.uptime := only_reform s .uptime (by decide)
  refine ⟨formed.runSet, formed.fits, fun p => ⟨fun off => ⟨formed.not_mem_of_stopped off, fun waited => ?_⟩,
    fun waits => ⟨formed.mem_of_waiting waits, fun ok off => ?_⟩, formed.runsOut⟩, s.reform_quiet⟩
  · exact moves.unasked (p := p) (fun n => absurd waited n) (by simp [off])
  · have stamped : Stamped p s := fun w => by
      rw [off] at w
      cases w
    rw [moves.stamped (ok.unasked p) stamped waits, time]

/-- Settles O8: the formations of one event are followed to their end, where nothing is left to stop, start or withdraw. -/
theorem runTimersReform : Obligations.RunTimersReform := by
  refine ⟨runTimers_expire, reform_frame, State.eligible_iff, State.slots_eq, State.wanted_eq, fun s m nodup => ?_,
    reform_runSet, fun s quiet few => ?_⟩
  · exact s.fitUpTo_placed _ 4 m nodup (((nodup.filter _).subperm fun p _ => No4.mem_all p).length_le)
  · cases latest : s.latestStarted with
    | none =>
      have none : s.stops = none := by simp [State.stops, quiet, latest]
      exact absurd (State.stops_none none).2 (by omega)
    | some p =>
      have first : s.stops = some p := by simp [State.stops, quiet, few, latest]
      exact ⟨p, State.latestStarted_commanded latest, State.latestStarted_latest latest, State.reform_of_stop first⟩

/-! ### FLOAT_LOW_LOW -/

theorem State.floatMoved_runState (s : State) (f : FloatSwitch) (a : Bool) (p : Pump) :
    (s.floatMoved f a).runState p = s.runState p := by
  have told : ∀ (u : State) x b, (u.setCondition x b).dsq = u.dsq := fun u x b => only_setCondition u x b .dsq (by decide)
  cases f <;> simp only [State.floatMoved, State.runState, told]

/-- Settles O7: with FLOAT_LOW_LOW active the formed run set is empty, and a pump that does not wait has no request. -/
theorem lowLowStopsEveryPump : Obligations.LowLowStopsEveryPump := by
  intro s run ok off
  refine ⟨_, rfl, ?_⟩
  rw [State.onChange_running s _ _ (by rw [show s.inputs.getFloat .lowLow = false from off]; decide) run]
  set low : State := { s with inputs := s.inputs.setFloat .lowLow true } with low_eq
  set u := (low.floatMoved .lowLow true).judgeFloats with u_eq
  have moved : OnlyIn [.dsq, .alm] low (low.floatMoved .lowLow true) := only_floatMoved _ _ _
  have judged : OnlyIn [.lvu, .alm] (low.floatMoved .lowLow true) u := only_judgeFloats _
  have lowLow : u.inputs.floatLowLow = true := by
    rw [judged .inputs (by decide), moved .inputs (by decide)]
    rfl
  have runs : ∀ p, u.runState p = s.runState p := fun p => by
    rw [State.runState, judged .dsq (by decide)]
    exact State.floatMoved_runState low _ _ p
  have spm : u.spm = s.spm := (judged .spm (by decide)).trans (moved .spm (by decide))
  have dry : ∀ p, u.reform.runState p = .stopped :=
    (formed_reform u).dry (by rw [only_reform u .inputs (by decide)]; exact lowLow)
  have unasked : ∀ p, Unasked p u := fun p out => (State.requestOf_congr spm _).trans (ok.unasked p (runs p ▸ out))
  refine ⟨dry, fun r mem p who => ?_⟩
  have none := (moves_reform u).unasked (unasked p) (by simp [dry p])
  exact List.find?_eq_none.mp none r mem (by simp [who])

end Sys2Proof.Machine
end

section
/-! The invariants of requests, of the dry run and of the seat, and what it takes of a change to keep them (R35, R39, R41, R55, R56, R93,
R94, R99, R105, R180 to R182). -/

namespace Sys2Proof.Machine

/-! ### The invariants unit by unit -/

theorem State.requestOf_eq_none (s : State) (w : Requester) : s.requestOf w = none ↔ ∀ r ∈ s.spm.waiting, r.who ≠ w := by
  simp [State.requestOf]

/-- A reverse timer runs in BACKOFF alone, home-leave and cycle timers in FORWARD alone. -/
structure ScreenRec.TimersOk (r : ScreenRec) : Prop where
  reverse : r.reverse.isSome = true → r.rake = .backoff
  forward : (r.homeLeave.isSome || r.cycle.isSome) = true → r.rake = .forward

/-- One screen's part of `RequestsOk`. -/
structure ScreenOk (sc : Screen) (s : State) : Prop where
  unasked : s.rakeOf sc ≠ some .waiting → s.requestOf (.screen sc) = none
  timers : ∀ r, s.scr.screens.get sc = some r → r.TimersOk
  installed : s.screenIn sc = false → s.scr.screens.get sc = none

theorem requestsOk_iff (s : State) : RequestsOk s ↔ (∀ p, Unasked p s) ∧ ∀ sc, ScreenOk sc s := by
  constructor
  · intro ok
    exact ⟨ok.unasked, fun sc => ⟨ok.request_none, fun r here => ⟨ok.reverse sc r here, ok.forward sc r here⟩, ok.installed sc⟩⟩
  · rintro ⟨pumps, screens⟩
    refine ⟨fun r mem p who => ?_, fun r mem sc who => ?_, fun sc r here => ((screens sc).timers r here).reverse,
      fun sc r here => ((screens sc).timers r here).forward, fun sc => (screens sc).installed⟩
    · by_contra out
      exact (s.requestOf_eq_none _).mp (pumps p out) r mem who
    · by_contra out
      exact (s.requestOf_eq_none _).mp ((screens sc).unasked out) r mem who

theorem Unasked.congr {p : Pump} {s t : State} (run : t.runState p = s.runState p)
    (request : t.requestOf (.pump p) = s.requestOf (.pump p)) (h : Unasked p s) : Unasked p t := fun out => by
  rw [request]
  exact h (run ▸ out)

theorem ScreenOk.congr {sc : Screen} {s t : State} (record : t.scr.screens.get sc = s.scr.screens.get sc)
    (request : t.requestOf (.screen sc) = s.requestOf (.screen sc)) (installed : t.screenIn sc = s.screenIn sc)
    (h : ScreenOk sc s) : ScreenOk sc t := by
  refine ⟨fun out => ?_, fun r here => h.timers r (record ▸ here), fun none => ?_⟩
  · rw [request]
    refine h.unasked ?_
    rwa [State.rakeOf, record] at out
  · rw [record]
    exact h.installed (installed ▸ none)

/-! ### Keeping the invariants -/

/-- A change within which, at its end at least, the invariants of requests, of the dry run and of the seat stand where they stood. -/
structure Keeps (s t : State) : Prop where
  held : t.isHeld = s.isHeld
  requests : RequestsOk s → RequestsOk t
  dry : s.isHeld = false → RequestsOk s → DryRunOk s → DryRunOk t
  seat : s.isHeld = false → SeatOk s → SeatOk t

namespace Keeps
variable {s t u : State}

theorem refl (s : State) : Keeps s s := ⟨rfl, id, fun _ _ h => h, fun _ h => h⟩

theorem trans (h : Keeps s t) (k : Keeps t u) : Keeps s u :=
  ⟨k.held.trans h.held, fun r => k.requests (h.requests r),
    fun run r d => k.dry (h.held.trans run) (h.requests r) (h.dry run r d), fun run o => k.seat (h.held.trans run) (h.seat run o)⟩

theorem choose (c : Prop) [Decidable c] (h : c → Keeps s t) (k : ¬ c → Keeps s u) : Keeps s (if c then t else u) := by
  split
  · exact h ‹_›
  · exact k ‹_›

theorem when (c : Prop) [Decidable c] (h : c → Keeps s t) : Keeps s (if c then t else s) := .choose c h fun _ => .refl s

theorem each {α : Type} {f : State → α → State} (h : ∀ s a, Keeps s (f s a)) (xs : List α) (s : State) : Keeps s (s.each xs f) := by
  induction xs generalizing s with
  | nil => exact .refl _
  | cons a rest ih => exact (h s a).trans (ih _)

end Keeps

/-- What the seat's invariant reads stands, but for overrides that are gone. -/
structure SeatKeeps (s t : State) : Prop where
  key : t.inputs.localKey = s.inputs.localKey
  seat : t.lnk.seat = s.lnk.seat
  timer : t.lnk.holdTimer = s.lnk.holdTimer
  owners : ∀ p o, t.overrideOf p = some o → ∃ o', s.overrideOf p = some o' ∧ o'.owner = o.owner

theorem SeatKeeps.seatOk {s t : State} (h : SeatKeeps s t) (ok : SeatOk s) : SeatOk t := by
  refine ⟨fun on => ?_, fun p o here => ?_, fun on => ?_⟩
  · rw [h.seat, h.timer]
    exact ok.key (h.key ▸ on)
  · obtain ⟨o', was, same⟩ := h.owners p o here
    rw [h.seat, ok.owners p o' was, same]
  · rw [h.seat]
    exact ok.timer (h.timer ▸ on)

/-- The seat's invariant reads the inputs, the links and the overrides alone. -/
theorem SeatKeeps.of_only {s t : State} {bs : List Block} (only : OnlyIn bs s t) (inputs : Block.inputs ∉ bs)
    (lnk : Block.lnk ∉ bs) (owners : ∀ p o, t.overrideOf p = some o → ∃ o', s.overrideOf p = some o' ∧ o'.owner = o.owner) :
    SeatKeeps s t := by
  have i : t.inputs = s.inputs := only .inputs inputs
  have l : t.lnk = s.lnk := only .lnk lnk
  exact ⟨by rw [i], by rw [l], by rw [l], owners⟩

/-- The parts that none of the three invariants reads. -/
abbrev asideParts : List Block := [.pending, .marker, .uptime, .lvu, .ppr, .ovm, .fbl, .alm, .src]

theorem DryRunOk.congr {s t : State} (inputs : t.inputs = s.inputs) (runs : ∀ p, t.runState p = s.runState p) (h : DryRunOk s) :
    DryRunOk t := fun low p => (runs p).trans (h (inputs ▸ low) p)

theorem State.screenIn_congr {s t : State} (h : t.cfg = s.cfg) (sc : Screen) : t.screenIn sc = s.screenIn sc := by
  cases s; cases t; cases h; rfl

/-- A change of the Duty Sequencer that moves no run state and gives no pump an override of another link. -/
theorem keeps_duty {s t : State} (only : OnlyIn (.dsq :: asideParts) s t) (runs : ∀ p, t.runState p = s.runState p)
    (owners : ∀ p o, t.overrideOf p = some o → ∃ o', s.overrideOf p = some o' ∧ o'.owner = o.owner) : Keeps s t := by
  have spm : t.spm = s.spm := only .spm (by decide)
  have scr : t.scr = s.scr := only .scr (by decide)
  refine ⟨only .isHeld (by decide), fun ok => ?_, fun _ _ => .congr (only .inputs (by decide)) runs,
    fun _ => (SeatKeeps.of_only only (by decide) (by decide) owners).seatOk⟩
  obtain ⟨pumps, screens⟩ := (requestsOk_iff s).mp ok
  exact (requestsOk_iff t).mpr ⟨fun p => (pumps p).congr (runs p) (State.requestOf_congr spm _),
    fun sc => (screens sc).congr (by rw [scr]) (State.requestOf_congr spm _) (State.screenIn_congr (only .cfg (by decide)) sc)⟩

theorem keeps_duty_same {s t : State} (only : OnlyIn (.dsq :: asideParts) s t) (runs : ∀ p, t.runState p = s.runState p)
    (overrides : ∀ p, t.overrideOf p = s.overrideOf p) : Keeps s t :=
  keeps_duty only runs fun p o here => ⟨o, overrides p ▸ here, rfl⟩

theorem keeps_aside {s t : State} (only : OnlyIn asideParts s t) : Keeps s t := by
  have dsq : t.dsq = s.dsq := only .dsq (by decide)
  exact keeps_duty_same (only.mono (by decide)) (fun p => by rw [State.runState, dsq]; rfl) fun p => by rw [State.overrideOf, dsq]; rfl

/-- A change that stays among the parts that the invariants do not read. -/
theorem OnlyIn.keeps {s t : State} {bs : List Block} (only : OnlyIn bs s t) (aside : bs ⊆ asideParts) : Keeps s t :=
  keeps_aside (only.mono aside)

/-! ### Notes, reports and judgements that the invariants do not read -/

theorem keeps_setCondition (s : State) (a : AlarmPoint) (b : Bool) : Keeps s (s.setCondition a b) := (only_setCondition s a b).keeps (by decide)

theorem keeps_report (s : State) (k : Category) : Keeps s (s.report k) := (only_report s k).keeps (by decide)

theorem keeps_judgeFaults (s : State) (p : Pump) : Keeps s (s.judgeFaults p) := (only_judgeFaults s p).keeps (by decide)

theorem keeps_setWatch (s : State) (p : Pump) (w : Watch) : Keeps s (s.setWatch p w) := (only_setWatch s p w).keeps (by decide)

theorem keeps_reach (s : State) (n : Nat) : Keeps s (s.reach n) := (only_reach s n).keeps (by decide)

theorem keeps_append (s : State) (b : RecordBody) : Keeps s (s.append b) := (only_append s b).keeps (by decide)

theorem keeps_modFbl (s : State) (f : FlowBalance → FlowBalance) : Keeps s (s.modFbl f) := (only_modFbl s f).keeps (by decide)

theorem keeps_judgePoint (s : State) (pt : Point) : Keeps s (s.judgePoint pt) := (only_judgePoint s pt).keeps (by decide)

theorem keeps_modProt (s : State) (p : Pump) (f : ProtectedPump → ProtectedPump) : Keeps s (s.modProt p f) := (only_modProt s p f).keeps (by decide)

theorem keeps_judgeOutputs (s : State) : Keeps s (s.judgeOutputs ) := (only_judgeOutputs s).keeps (by decide)

theorem keeps_setChan (s : State) (ch : Channel) (r : ChannelRec) : Keeps s (s.setChan ch r) := (only_setChan s ch r).keeps (by decide)

theorem keeps_predict (s : State) : Keeps s (s.predict ) := (only_predict s).keeps (by decide)

theorem keeps_modSrc (s : State) (f : StationRecord → StationRecord) : Keeps s (s.modSrc f) := (only_modSrc s f).keeps (by decide)

theorem keeps_lvu (s : State) (v : LevelUnit) : Keeps s { s with lvu := v } := (only_lvu s v).keeps (by decide)

theorem keeps_followInstalls (s : State) : Keeps s (s.followInstalls ) := (only_followInstalls s).keeps (by decide)

theorem keeps_credit (s : State) (f : Accumulators → Accumulators) : Keeps s (s.credit f) := (only_credit s f).keeps (by decide)

/-! ### One screen's turn -/

/-- A screen's own turn leaves the other screen's record and every other request. -/
structure ScreenTurn (sc : Screen) (s t : State) : Prop where
  only : OnlyIn [.spm, .scr, .alm, .src] s t
  records : ∀ x, x ≠ sc → t.scr.screens.get x = s.scr.screens.get x
  requests : ∀ w, w ≠ .screen sc → t.requestOf w = s.requestOf w

namespace ScreenTurn
variable {sc : Screen} {s t u : State}

theorem refl (sc : Screen) (s : State) : ScreenTurn sc s s := ⟨.refl _ _, fun _ _ => rfl, fun _ _ => rfl⟩

theorem trans (h : ScreenTurn sc s t) (k : ScreenTurn sc t u) : ScreenTurn sc s u :=
  ⟨h.only.trans k.only, fun x n => (k.records x n).trans (h.records x n), fun w n => (k.requests w n).trans (h.requests w n)⟩

/-- A change that leaves the permit's list alone. -/
theorem of_spm {bs : List Block} (only : OnlyIn bs s t) (subset : bs ⊆ [.scr, .alm, .src])
    (records : ∀ x, x ≠ sc → t.scr.screens.get x = s.scr.screens.get x) : ScreenTurn sc s t :=
  ⟨only.mono fun b hb => List.mem_cons_of_mem _ (subset hb), records,
    fun w _ => State.requestOf_congr (only .spm fun h => absurd (subset h) (by decide)) w⟩

theorem of_scr {bs : List Block} (only : OnlyIn bs s t) (subset : bs ⊆ [.alm, .src]) : ScreenTurn sc s t :=
  .of_spm only (fun b hb => List.mem_cons_of_mem _ (subset hb)) fun x _ => by
    rw [only .scr fun h => absurd (subset h) (by decide)]

end ScreenTurn

theorem turn_modScreen (s : State) (sc : Screen) (f : ScreenRec → ScreenRec) : ScreenTurn sc s (s.modScreen sc f) :=
  .of_spm (only_modScreen s sc f) (by decide) fun _ n => Duo.get_modify_ne _ _ n

theorem turn_setRake (s : State) (sc : Screen) (k : RakeState) : ScreenTurn sc s (s.setRake sc k) :=
  .of_spm (only_setRake s sc k) (by decide) fun _ n => s.setRake_screens_ne k n

theorem turn_withdraw (s : State) (sc : Screen) : ScreenTurn sc s (s.withdraw (.screen sc)) :=
  ⟨(only_withdraw s _).mono (by decide), fun _ _ => rfl, fun _ n => s.requestOf_withdraw_ne n⟩

theorem turn_join (s : State) (sc : Screen) : ScreenTurn sc s (s.join (.screen sc)) :=
  ⟨(only_join s _).mono (by decide), fun _ _ => rfl, fun _ n => s.requestOf_join_ne n⟩

theorem turn_recordGrant (s : State) (sc : Screen) : ScreenTurn sc s (s.recordGrant (.screen sc)) :=
  ⟨(only_recordGrant s _).mono (by decide), fun _ _ => rfl, fun _ n => s.requestOf_recordGrant_ne n⟩

theorem turn_setCondition (s : State) (sc : Screen) (a : AlarmPoint) (b : Bool) : ScreenTurn sc s (s.setCondition a b) :=
  .of_scr (only_setCondition s a b) (by decide)

theorem turn_grantScreen (s : State) (sc : Screen) : ScreenTurn sc s (s.grantScreen sc) :=
  .of_spm (only_grantScreen s sc) (by decide) fun _ n => s.grantScreen_screens_ne n

theorem turn_askScreen (s : State) (sc : Screen) : ScreenTurn sc s (s.askScreen sc) := by
  cases k : s.spm.permit with
  | spacing =>
    rw [s.askScreen_spacing sc k]
    exact (turn_setRake s sc _).trans (turn_join _ sc)
  | opened =>
    rw [s.askScreen_opened sc k]
    exact ((turn_setRake s sc _).trans (turn_recordGrant _ sc)).trans (turn_grantScreen _ sc)

theorem turn_failScreen (s : State) (sc : Screen) (c : RakeCause) : ScreenTurn sc s (s.failScreen sc c) :=
  (((turn_modScreen s sc _).trans (turn_setRake _ sc _)).trans (turn_withdraw _ sc)).trans (turn_setCondition _ sc _ _)

/-- A screen's turn keeps the invariants where it leaves its own screen in order. -/
theorem ScreenTurn.keeps {sc : Screen} {s t : State} (h : ScreenTurn sc s t) (own : ScreenOk sc s → ScreenOk sc t) : Keeps s t := by
  have dsq : t.dsq = s.dsq := h.only .dsq (by decide)
  have runs : ∀ p, t.runState p = s.runState p := fun p => by simp only [State.runState, dsq]
  refine ⟨h.only .isHeld (by decide), fun ok => ?_, fun _ _ => .congr (h.only .inputs (by decide)) runs,
    fun _ => (SeatKeeps.of_only h.only (by decide) (by decide) fun p o here => ⟨o, ?_, rfl⟩).seatOk⟩
  · obtain ⟨pumps, screens⟩ := (requestsOk_iff s).mp ok
    refine (requestsOk_iff t).mpr ⟨fun p => (pumps p).congr (runs p) (h.requests _ (by simp)), fun x => ?_⟩
    by_cases e : x = sc
    · exact e ▸ own (e ▸ screens x)
    · exact (screens x).congr (h.records x e) (h.requests _ (by simpa using e)) (State.screenIn_congr (h.only .cfg (by decide)) x)
  · rwa [State.overrideOf, dsq] at here

/-! ### What a screen's own operations make of its record -/

theorem State.jam_record (s : State) (sc : Screen) :
    (s.jam sc).scr.screens.get sc =
      (s.scr.screens.get sc).map fun r =>
        { r with rake := .backoff, homeLeave := none, cycle := none, reverse := some s.uptime, retries := r.retries + 1 } := by
  rw [State.jam, State.setRake_screens_self, State.modScreen_scr, Duo.get_modify_self, Option.map_map]
  rfl

theorem State.grantScreen_record (s : State) (sc : Screen) :
    (s.grantScreen sc).scr.screens.get sc =
      (s.scr.screens.get sc).map (·.granted (s.inputs.rakeHome.get sc) (s.inputs.rakeTorque.get sc) s.uptime) := by
  have time : ∀ f, ((s.modScreen sc f).setRake sc .forward).uptime = s.uptime := fun f =>
    only_setRake _ sc _ .uptime (by decide)
  unfold State.grantScreen
  dsimp only
  cases s.inputs.rakeTorque.get sc with
  | true =>
    rw [if_pos rfl, State.jam_record, time, State.setRake_screens_self, State.modScreen_scr, Duo.get_modify_self, Option.map_map,
      Option.map_map]
    rfl
  | false =>
    rw [if_neg (by decide), State.setRake_screens_self, State.modScreen_scr, Duo.get_modify_self, Option.map_map]
    rfl

theorem ScreenRec.granted_timersOk (r : ScreenRec) (home torque : Bool) (now : Nat) (idle : r.reverse = none) :
    (r.granted home torque now).TimersOk := by
  cases torque with
  | true => exact ⟨fun _ => rfl, fun h => by simp [ScreenRec.granted] at h⟩
  | false => exact ⟨fun h => by simp [ScreenRec.granted, idle] at h, fun _ => rfl⟩

/-- A record none of whose timers runs, as in every rake state but FORWARD and BACKOFF. -/
structure ScreenRec.Still (r : ScreenRec) : Prop where
  reverse : r.reverse = none
  homeLeave : r.homeLeave = none
  cycle : r.cycle = none

theorem ScreenRec.TimersOk.still {r : ScreenRec} (h : r.TimersOk) (backoff : r.rake ≠ .backoff) (forward : r.rake ≠ .forward) :
    r.Still := by
  obtain ⟨reverse, forward'⟩ := h
  refine ⟨?_, ?_, ?_⟩
  · by_contra k
    exact backoff (reverse (Option.isSome_iff_ne_none.mpr k))
  · by_contra k
    exact forward (forward' (by simp [Option.isSome_iff_ne_none.mpr k]))
  · by_contra k
    exact forward (forward' (by simp [Option.isSome_iff_ne_none.mpr k]))

theorem ScreenRec.Still.timersOk {r : ScreenRec} (h : r.Still) : r.TimersOk :=
  ⟨fun k => by simp [h.reverse] at k, fun k => by simp [h.homeLeave, h.cycle] at k⟩

/-- A screen whose record stands still is in order, whatever its rake state, once it has no request or waits. -/
theorem ScreenOk.of_still {sc : Screen} {s t : State} (h : ScreenOk sc s) (cfg : t.cfg = s.cfg)
    (gone : s.scr.screens.get sc = none → t.scr.screens.get sc = none) (still : ∀ q, t.scr.screens.get sc = some q → q.TimersOk)
    (unasked : t.rakeOf sc ≠ some .waiting → t.requestOf (.screen sc) = none) : ScreenOk sc t :=
  ⟨unasked, still, fun out => gone (h.installed (State.screenIn_congr cfg sc ▸ out))⟩

theorem screenOk_failScreen {s : State} {sc : Screen} (c : RakeCause) (h : ScreenOk sc s) : ScreenOk sc (s.failScreen sc c) := by
  have record := s.failScreen_record sc c
  refine h.of_still ((turn_failScreen s sc c).only .cfg (by decide)) (fun none => by rw [record, none]; rfl) (fun q here => ?_)
    fun _ => s.failScreen_request sc c
  rw [record] at here
  obtain ⟨r, _, rfl⟩ := Option.map_eq_some_iff.mp here
  exact ScreenRec.Still.timersOk ⟨rfl, rfl, rfl⟩

/-- A screen that asks waits with its request, or is granted at once (R55). -/
theorem screenOk_askScreen {s : State} {sc : Screen} {r : ScreenRec} (here : s.scr.screens.get sc = some r) (still : r.Still)
    (h : ScreenOk sc s) : ScreenOk sc (s.askScreen sc) := by
  have cfg : (s.askScreen sc).cfg = s.cfg := (turn_askScreen s sc).only .cfg (by decide)
  cases k : s.spm.permit with
  | spacing =>
    have record := s.askScreen_record_spacing sc k
    rw [here] at record
    refine h.of_still cfg (fun none => by rw [here] at none; cases none) (fun q at_q => ?_) fun out => ?_
    · cases record.symm.trans at_q
      exact ScreenRec.Still.timersOk ⟨still.reverse, still.homeLeave, still.cycle⟩
    · exact absurd (by rw [State.rakeOf, record]; rfl) out
  | opened =>
    rw [s.askScreen_opened sc k] at cfg ⊢
    have record := State.grantScreen_record ((s.setRake sc .waiting).recordGrant (.screen sc)) sc
    rw [State.recordGrant_scr, State.setRake_screens_self, here] at record
    refine h.of_still cfg (fun none => by rw [here] at none; cases none) (fun q at_q => ?_) fun _ => ?_
    · cases record.symm.trans at_q
      exact ScreenRec.granted_timersOk _ _ _ _ still.reverse
    · exact (State.requestOf_congr (only_grantScreen _ sc .spm (by decide)) _).trans (State.requestOf_recordGrant_self _ _)

theorem keeps_failScreen (s : State) (sc : Screen) (c : RakeCause) : Keeps s (s.failScreen sc c) :=
  (turn_failScreen s sc c).keeps (screenOk_failScreen c)

theorem State.record_of_rakeOf {s : State} {sc : Screen} {k : RakeState} (h : s.rakeOf sc = some k) :
    ∃ r, s.scr.screens.get sc = some r ∧ r.rake = k := Option.map_eq_some_iff.mp h

theorem keeps_askScreen_idle (s : State) {sc : Screen} (idle : s.rakeOf sc = some .idle) : Keeps s (s.askScreen sc) := by
  obtain ⟨r, here, rake⟩ := State.record_of_rakeOf idle
  refine (turn_askScreen s sc).keeps fun ok => screenOk_askScreen here ((ok.timers r here).still ?_ ?_) ok <;> simp [rake]

theorem State.pickIdle_idle {s : State} {sc : Screen} (h : s.pickIdle = some sc) : s.rakeOf sc = some .idle := by
  have idle : ∀ x, s.isIdle x = true → s.rakeOf x = some .idle := fun x k => by simpa [State.isIdle] using k
  unfold State.pickIdle at h
  split at h
  · split at h <;> cases h <;> exact idle _ ‹_›
  · cases h
    exact idle _ ‹_›
  · cases h
    exact idle _ ‹_›
  · cases h

theorem keeps_fireUpTo (n : Nat) (s : State) : Keeps s (s.fireUpTo n) := by
  induction n generalizing s with
  | zero => exact .refl s
  | succ n ih =>
    unfold State.fireUpTo
    refine .when _ fun _ => ?_
    split
    · rename_i sc pick
      exact .choose _ (fun _ => (keeps_failScreen s sc _).trans (ih _)) fun _ => keeps_askScreen_idle s (State.pickIdle_idle pick)
    · exact .refl s

theorem keeps_fire (s : State) : Keeps s s.fire := keeps_fireUpTo 2 s

theorem keeps_failAndFire (s : State) (sc : Screen) (c : RakeCause) : Keeps s (s.failAndFire sc c) :=
  (keeps_failScreen s sc c).trans (keeps_fire _)

/-- A change of a screen's record that leaves its rake state and its timers. -/
theorem keeps_modScreen (s : State) (sc : Screen) (f : ScreenRec → ScreenRec) (rake : ∀ r, (f r).rake = r.rake)
    (timers : ∀ r, r.TimersOk → (f r).TimersOk) : Keeps s (s.modScreen sc f) := by
  have record : (s.modScreen sc f).scr.screens.get sc = (s.scr.screens.get sc).map f := Duo.get_modify_self _ _ _
  refine (turn_modScreen s sc f).keeps fun ok => ?_
  refine ok.of_still rfl (fun none => by rw [record, none]; rfl) (fun q here => ?_) fun out => ok.unasked ?_
  · rw [record] at here
    obtain ⟨r, at_r, rfl⟩ := Option.map_eq_some_iff.mp here
    exact timers r (ok.timers r at_r)
  · rw [State.rakeOf, record, Option.map_map] at out
    rw [State.rakeOf]
    rwa [show (fun r : ScreenRec => r.rake) ∘ f = fun r => r.rake from funext rake] at out

theorem keeps_trigger (s : State) (sc : Screen) : Keeps s (s.trigger sc) := by
  have again : Keeps s (s.modScreen sc fun r => { r with again := true }) :=
    keeps_modScreen s sc _ (fun _ => rfl) fun r h => ⟨h.reverse, h.forward⟩
  unfold State.trigger
  split
  · rename_i idle
    exact .choose _ (fun _ => keeps_failAndFire s sc _) fun _ => keeps_askScreen_idle s idle
  · exact again
  · exact again
  · exact again
  · exact .refl s
  · exact .refl s
  · exact .refl s

end Sys2Proof.Machine
end

section
/-! The operations of Chapters 1 to 6 keep the invariants of requests, of the dry run and of the seat. -/

namespace Sys2Proof.Machine

/-! ### Screens in FORWARD and BACKOFF -/

/-- A screen whose rake state is set once its timers are stopped has no request left, unless it waits. -/
theorem ScreenOk.rested {sc : Screen} {s t : State} (h : ScreenOk sc s) (turn : ScreenTurn sc s t)
    (record : ∃ f : ScreenRec → ScreenRec, t.scr.screens.get sc = (s.scr.screens.get sc).map f ∧
      ∀ r, s.scr.screens.get sc = some r → r.TimersOk → (f r).TimersOk)
    (request : t.requestOf (.screen sc) = s.requestOf (.screen sc)) (out : s.rakeOf sc ≠ some .waiting) : ScreenOk sc t := by
  obtain ⟨f, record, timers⟩ := record
  refine h.of_still (turn.only .cfg (by decide)) (fun gone => by rw [record, gone]; rfl) (fun q here => ?_)
    fun _ => request.trans (h.unasked out)
  rw [record] at here
  obtain ⟨r, at_r, rfl⟩ := Option.map_eq_some_iff.mp here
  exact timers r at_r (h.timers r at_r)

theorem State.modScreen_setRake_record (s : State) (sc : Screen) (f : ScreenRec → ScreenRec) (k : RakeState) :
    ((s.modScreen sc f).setRake sc k).scr.screens.get sc = (s.scr.screens.get sc).map fun r => { f r with rake := k } := by
  rw [State.setRake_screens_self, State.modScreen_scr, Duo.get_modify_self, Option.map_map]
  rfl

theorem State.modScreen_setRake_request (s : State) (sc : Screen) (f : ScreenRec → ScreenRec) (k : RakeState) (w : Requester) :
    ((s.modScreen sc f).setRake sc k).requestOf w = s.requestOf w :=
  State.requestOf_congr (only_setRake _ sc k .spm (by decide)) w

/-- A screen that does not wait goes to another rake state, its timers as that state has them. -/
theorem keeps_modScreen_setRake (s : State) (sc : Screen) (f : ScreenRec → ScreenRec) (k : RakeState)
    (out : s.rakeOf sc ≠ some .waiting)
    (timers : ∀ r, s.scr.screens.get sc = some r → r.TimersOk → ({ f r with rake := k } : ScreenRec).TimersOk) :
    Keeps s ((s.modScreen sc f).setRake sc k) := by
  have turn := (turn_modScreen s sc f).trans (turn_setRake _ sc k)
  exact turn.keeps fun ok =>
    ok.rested turn ⟨_, s.modScreen_setRake_record sc f k, timers⟩ (s.modScreen_setRake_request sc f k _) out

theorem keeps_jam (s : State) (sc : Screen) (out : s.rakeOf sc ≠ some .waiting) : Keeps s (s.jam sc) :=
  keeps_modScreen_setRake s sc _ .backoff out fun _ _ _ => ⟨fun _ => rfl, fun h => by simp at h⟩

theorem keeps_completeCycle (s : State) (sc : Screen) (forward : s.rakeOf sc = some .forward) : Keeps s (s.completeCycle sc) := by
  obtain ⟨q, here, rake⟩ := State.record_of_rakeOf forward
  have ended := keeps_modScreen_setRake s sc (fun r =>
    { r with
      homeLeave := none, cycle := none, retries := 0, again := false
      lastEnd := some s.uptime, interval := s.intervalTimer }) .idle (by simp [forward]) fun r at_r ok => by
    cases here.symm.trans at_r
    have reverse : q.reverse = none := by
      by_contra k
      have := ok.reverse (Option.isSome_iff_ne_none.mpr k)
      rw [rake] at this
      cases this
    exact ScreenRec.Still.timersOk ⟨reverse, rfl, rfl⟩
  have credited := ended.trans (keeps_credit _ (·.addCycle sc))
  exact .choose _ (fun _ => credited.trans (keeps_trigger _ _)) fun _ => credited

/-- The end of a backoff: a screen whose reverse timer runs is in BACKOFF, so its record stands still once the timer is gone (R99). -/
theorem keeps_endBackoff (s : State) (sc : Screen) (runs : (s.screenTimer sc (·.reverse)).isSome = true) :
    Keeps s (s.endBackoff sc) := by
  obtain ⟨r, here, running⟩ : ∃ r, s.scr.screens.get sc = some r ∧ r.reverse.isSome = true := by
    unfold State.screenTimer at runs
    cases here : s.scr.screens.get sc with
    | none => simp [here] at runs
    | some r => exact ⟨r, rfl, by simpa [here] using runs⟩
  set stopped := s.modScreen sc fun r => { r with reverse := none } with stopped_eq
  have record : stopped.scr.screens.get sc = some { r with reverse := none } := by
    rw [stopped_eq, State.modScreen_scr, Duo.get_modify_self, here]
    rfl
  have turn : ScreenTurn sc s stopped := turn_modScreen s sc _
  have own : ScreenOk sc s → ScreenOk sc stopped ∧ ({ r with reverse := none } : ScreenRec).Still := fun ok => by
    have backoff := (ok.timers r here).reverse running
    have still : ({ r with reverse := none } : ScreenRec).Still := by
      refine ⟨rfl, ?_, ?_⟩
      · by_contra k
        have := (ok.timers r here).forward (by simp [Option.isSome_iff_ne_none.mpr k])
        rw [backoff] at this
        cases this
      · by_contra k
        have := (ok.timers r here).forward (by simp [Option.isSome_iff_ne_none.mpr k])
        rw [backoff] at this
        cases this
    refine ⟨ok.of_still rfl (fun gone => by rw [here] at gone; cases gone) (fun q at_q => ?_) fun _ => ok.unasked ?_, still⟩
    · cases record.symm.trans at_q
      exact still.timersOk
    · rw [State.rakeOf, here, Option.map_some, backoff]
      simp
  unfold State.endBackoff
  dsimp only
  rw [← stopped_eq]
  refine .choose _ (fun _ => ?_) fun _ => ?_
  · exact (turn.trans (turn_askScreen stopped sc)).keeps fun ok => screenOk_askScreen record (own ok).2 (own ok).1
  · have jammed : Keeps s (stopped.setRake sc .jammed) := by
      refine (turn.trans (turn_setRake stopped sc .jammed)).keeps fun ok => ?_
      have out : stopped.rakeOf sc ≠ some .waiting := by
        have backoff := (ok.timers r here).reverse running
        rw [State.rakeOf, record, Option.map_some]
        simp [backoff]
      refine (own ok).1.rested (turn_setRake stopped sc .jammed) ⟨_, stopped.setRake_screens_self sc .jammed, fun q at_q _ => ?_⟩
        (State.requestOf_congr (only_setRake stopped sc _ .spm (by decide)) _) out
      cases record.symm.trans at_q
      exact ScreenRec.Still.timersOk ⟨rfl, (own ok).2.homeLeave, (own ok).2.cycle⟩
    exact ((jammed.trans (keeps_setCondition _ _ _)).trans (keeps_append _ _)).trans (keeps_fire _)

theorem keeps_scr {s t : State} (only : OnlyIn (.scr :: asideParts) s t) (screens : t.scr.screens = s.scr.screens) : Keeps s t := by
  have dsq : t.dsq = s.dsq := only .dsq (by decide)
  have spm : t.spm = s.spm := only .spm (by decide)
  refine ⟨only .isHeld (by decide), fun ok => ?_,
    fun _ _ => .congr (only .inputs (by decide)) fun p => by simp only [State.runState, dsq],
    fun _ => (SeatKeeps.of_only only (by decide) (by decide) fun p o here => ⟨o, ?_, rfl⟩).seatOk⟩
  · obtain ⟨pumps, own⟩ := (requestsOk_iff s).mp ok
    exact (requestsOk_iff t).mpr ⟨fun p => (pumps p).congr (by simp only [State.runState, dsq]) (State.requestOf_congr spm _),
      fun sc => (own sc).congr (by rw [screens]) (State.requestOf_congr spm _) (State.screenIn_congr (only .cfg (by decide)) sc)⟩
  · rwa [State.overrideOf, dsq] at here

theorem State.setBlinded_screens (s : State) (b : Blinded) : (s.setBlinded b).scr.screens = s.scr.screens := by
  unfold State.setBlinded
  dsimp only
  rw [only_setCondition _ _ _ .scr (by decide), only_reportIf _ _ _ .scr (by decide)]

theorem keeps_setBlinded (s : State) (b : Blinded) : Keeps s (s.setBlinded b) :=
  keeps_scr ((only_setBlinded s b).mono (by decide)) (s.setBlinded_screens b)

theorem keeps_judgeBlinded (s : State) : Keeps s s.judgeBlinded := by
  unfold State.judgeBlinded
  repeat' split
  all_goals (try dsimp only)
  all_goals (repeat' split)
  all_goals first | exact keeps_setBlinded s _ | exact .refl s

/-! ### The moves of the Duty Sequencer -/

section
variable {asks : Bool} {s t : State}

theorem State.overrideOf_congr {s t : State} (h : t.dsq = s.dsq) (p : Pump) : t.overrideOf p = s.overrideOf p := by
  simp only [State.overrideOf, h]

theorem State.overrideOf_setRun (s : State) (p q : Pump) (r : RunState) : (s.setRun p r).overrideOf q = s.overrideOf q := by
  simp only [State.overrideOf, State.setRun_pumps]
  split
  · rename_i e
    rw [e]
  · rfl

theorem State.overrideOf_setOverride (s : State) (p q : Pump) (o : Option Override) :
    (s.setOverride p o).overrideOf q = if q = p then o else s.overrideOf q := by
  simp only [State.overrideOf, State.setOverride_dsq]
  by_cases e : q = p <;> simp [e]

/-- A move cancels an override or leaves it (R24, R43). -/
theorem DutyMove.override (h : DutyMove asks s t) (p : Pump) : t.overrideOf p = s.overrideOf p ∨ t.overrideOf p = none := by
  cases h with
  | drop _ q on => exact .inl (s.overrideOf_dropPump q p)
  | unwait _ q off => exact .inl (s.overrideOf_setRun q p _)
  | uncommand _ q =>
    rw [State.overrideOf_setOverride]
    split
    · exact .inr rfl
    · exact .inl rfl
  | queue _ q same => exact .inl (by simp only [State.overrideOf, State.setQueue_pumps])
  | runSet _ m c =>
    exact .inl (by
      simp only [State.overrideOf, show ∀ v : State, (v.reportIf c .pumps).dsq = v.dsq from fun v => only_reportIf v c _ .dsq (by decide)])
  | ask _ q queued => exact .inl (s.overrideOf_setRun q p _)
  | grant _ r ranked opened => exact .inl ((s.recordGrant r.who).overrideOf_grantTo r.who p)

theorem DutyMove.seat (h : DutyMove asks s t) : SeatKeeps s t := by
  refine .of_only h.only (by decide) (by decide) fun p o here => ?_
  rcases h.override p with e | e
  · exact ⟨o, e ▸ here, rfl⟩
  · rw [e] at here
    cases here

/-- A grant to a screen leaves it in order, its request gone (R61, R93). -/
theorem screenOk_grantScreen {s : State} {sc : Screen} (h : ScreenOk sc s) (waits : s.rakeOf sc = some .waiting) :
    ScreenOk sc ((s.recordGrant (.screen sc)).grantScreen sc) := by
  obtain ⟨r, here, rake⟩ := State.record_of_rakeOf waits
  have record := State.grantScreen_record (s.recordGrant (.screen sc)) sc
  rw [State.recordGrant_scr, here] at record
  have cfg : ((s.recordGrant (.screen sc)).grantScreen sc).cfg = s.cfg := only_grantScreen _ sc .cfg (by decide)
  refine h.of_still cfg (fun gone => by rw [here] at gone; cases gone) (fun q at_q => ?_) fun _ => ?_
  · cases record.symm.trans at_q
    refine ScreenRec.granted_timersOk _ _ _ _ ((h.timers r here).still ?_ ?_).reverse <;> simp [rake]
  · exact (State.requestOf_congr (only_grantScreen _ sc .spm (by decide)) _).trans (State.requestOf_recordGrant_self _ _)

theorem State.mem_ranked_screen {s : State} {r : Request} (h : r ∈ s.ranked) {sc : Screen} (who : r.who = .screen sc) :
    s.requestOf (.screen sc) = some r := by
  rcases State.mem_ranked h with ⟨p, k, _⟩ | ⟨x, k, q⟩ <;> rw [k] at who <;> cases who
  exact q

theorem State.mem_waiting_of_requestOf {s : State} {w : Requester} {r : Request} (h : s.requestOf w = some r) : r ∈ s.spm.waiting :=
  List.mem_of_find?_eq_some h

/-- Only waiting requests are ranked (R57). -/
theorem State.mem_waiting_of_ranked {s : State} {r : Request} (h : r ∈ s.ranked) : r ∈ s.spm.waiting := by
  have pump : r ∈ s.waitingPumps → r ∈ s.spm.waiting := fun m => by
    obtain ⟨p, _, e⟩ := List.mem_filterMap.mp m
    exact State.mem_waiting_of_requestOf e
  unfold State.ranked at h
  rcases List.mem_append.mp h with m | m
  · rcases List.mem_append.mp m with m | m <;> exact pump (List.mem_filter.mp m).1
  · unfold State.waitingScreens at m
    split at m
    case h_1 a b ea eb =>
      have one : r = a ∨ r = b := by split at m <;> simp_all [or_comm]
      rcases one with rfl | rfl
      · exact State.mem_waiting_of_requestOf ea
      · exact State.mem_waiting_of_requestOf eb
    case h_2 a ea _ =>
      exact List.mem_singleton.mp m ▸ State.mem_waiting_of_requestOf ea
    case h_3 b _ eb =>
      exact List.mem_singleton.mp m ▸ State.mem_waiting_of_requestOf eb
    case h_4 => cases m

/-- Every move leaves each screen in order: only a grant moves one (R61). -/
theorem DutyMove.screenOk (h : DutyMove asks s t) {sc : Screen} (ok : ScreenOk sc s) : ScreenOk sc t := by
  rcases h.inside_or_grant with ⟨o, _, q⟩ | ⟨_, _, r, ranked, rfl⟩
  · exact ok.congr (by rw [o .scr (by decide)]) (q sc) (State.screenIn_congr (o .cfg (by decide)) sc)
  by_cases mine : r.who = .screen sc
  · have waits : s.rakeOf sc = some .waiting := by
      by_contra out
      have none := ok.unasked out
      rw [State.mem_ranked_screen ranked mine] at none
      cases none
    rw [mine]
    exact screenOk_grantScreen ok waits
  · have spm := State.requestOf_congr (only_grantTo (s.recordGrant r.who) r.who .spm (by decide)) (.screen sc)
    have cfg : ((s.recordGrant r.who).grantTo r.who).cfg = s.cfg := only_grantTo _ r.who .cfg (by decide)
    refine ok.congr ?_ (spm.trans (s.requestOf_recordGrant_ne (Ne.symm mine))) (State.screenIn_congr cfg sc)
    revert mine
    cases r.who with
    | pump p =>
      intro _
      exact congrArg (·.screens.get sc) (only_grantPump (s.recordGrant (.pump p)) p .scr (by decide))
    | screen x =>
      intro mine
      exact State.grantScreen_screens_ne _ fun e => mine (by rw [e])

theorem DutyMove.requests (h : DutyMove asks s t) (ok : RequestsOk s) : RequestsOk t := by
  obtain ⟨pumps, screens⟩ := (requestsOk_iff s).mp ok
  exact (requestsOk_iff t).mpr ⟨fun p => h.unasked (pumps p), fun sc => h.screenOk (screens sc)⟩

/-- Without requests and grants a STOPPED pump stays STOPPED. -/
theorem DutyMove.stays_stopped (h : DutyMove false s t) {p : Pump} (off : s.runState p = .stopped) : t.runState p = .stopped := by
  cases h with
  | drop _ q on =>
    by_cases e : p = q
    · exact e ▸ s.dropPump_runState p
    · exact (s.dropPump_runState_ne e).trans off
  | unwait _ q _ =>
    by_cases e : p = q
    · exact e ▸ s.runState_setRun_self p _
    · exact (s.runState_unwait_ne e).trans off
  | uncommand _ q => exact (s.runState_setOverride q p _).trans off
  | queue _ q same => exact (show _ from by simp only [State.runState, State.setQueue_pumps]; exact off)
  | runSet _ m c =>
    rw [State.runState, show ∀ v : State, (v.reportIf c .pumps).dsq = v.dsq from fun v => only_reportIf v c _ .dsq (by decide)]
    exact off

end

theorem DutyMove.keeps {s t : State} (h : DutyMove false s t) : Keeps s t :=
  ⟨h.only .isHeld (by decide), h.requests,
    fun _ _ dry low p => h.stays_stopped (dry ((h.only .inputs (by decide)) ▸ low) p), fun _ => h.seat.seatOk⟩

theorem DutyMoves.invariants {s t : State} (h : DutyMoves false s t) : Keeps s t :=
  DutyMoves.keeps (P := Keeps s) h (fun _ _ m k => k.trans m.keeps) (.refl s)

/-- A re-formation leaves every pump STOPPED while FLOAT_LOW_LOW is active, whatever stood before (R35, R41). -/
theorem keeps_reform_of {s u : State} (h : RequestsOk s → RequestsOk u) (held : u.isHeld = s.isHeld)
    (seat : s.isHeld = false → SeatOk s → SeatOk u) : Keeps s u.reform := by
  have moves := moves_reform u
  refine ⟨(moves.only .isHeld (by decide)).trans held, fun ok => ?_, fun _ _ _ low => (formed_reform u).dry low, fun run ok => ?_⟩
  · exact moves.keeps (P := RequestsOk) (fun _ _ m => m.requests) (h ok)
  · exact moves.keeps (P := SeatOk) (fun _ _ m => m.seat.seatOk) (seat run ok)

theorem keeps_reform (s : State) : Keeps s s.reform := keeps_reform_of id rfl fun _ => id

theorem Keeps.reform {s t : State} (h : Keeps s t) : Keeps s t.reform := h.trans (keeps_reform t)

theorem keeps_requeue (s : State) (n : Nat) : Keeps s (s.requeue n) := (moves_requeue s n).invariants

theorem keeps_dutyEvent (s : State) (n : Nat) : Keeps s (s.dutyEvent n) := (keeps_requeue s n).reform

theorem keeps_dropPump (s : State) (p : Pump) (on : s.runCmd p = true) : Keeps s (s.dropPump p) := (DutyMove.drop s p on).keeps

theorem keeps_startConfirm (s : State) (p : Pump) (starting : s.runState p = .starting) : Keeps s (s.startConfirm p) := by
  have runs : ∀ q, (s.startConfirm p).runState q = if q = p then .running else s.runState q := fun q => by
    simp only [State.runState, State.startConfirm_dsq]
    by_cases e : q = p <;> simp [e]
  have only := only_startConfirm s p
  refine ⟨only .isHeld (by decide), fun ok => ?_, fun _ _ dry low q => ?_,
    fun _ => (SeatKeeps.of_only only (by decide) (by decide) fun q o here => ⟨o, ?_, rfl⟩).seatOk⟩
  · obtain ⟨pumps, screens⟩ := (requestsOk_iff s).mp ok
    have spm : (s.startConfirm p).spm = s.spm := only .spm (by decide)
    refine (requestsOk_iff _).mpr ⟨fun q out => (State.requestOf_congr spm _).trans (pumps q fun waits => out ?_), fun sc =>
      (screens sc).congr (by rw [only .scr (by decide)]) (State.requestOf_congr spm _) (State.screenIn_congr (only .cfg (by decide)) sc)⟩
    rw [runs, if_neg (by rintro rfl; rw [starting] at waits; cases waits), waits]
  · have := dry (only .inputs (by decide) ▸ low) p
    rw [starting] at this
    cases this
  · simp only [State.overrideOf, State.startConfirm_dsq] at here ⊢
    by_cases e : q = p <;> simp_all

/-- The grant to a ranked requester: with FLOAT_LOW_LOW active no pump waits, so that it goes to a screen (R35, R61). -/
theorem keeps_grant (s : State) {r : Request} (ranked : r ∈ s.ranked) : Keeps s ((s.recordGrant r.who).grantTo r.who) := by
  have opened : ∀ u : State, u = { s with spm := { s.spm with permit := .opened } } →
      DutyMove true u ((u.recordGrant r.who).grantTo r.who) := fun u e => .grant u r (e ▸ ranked) (e ▸ rfl)
  have move := opened _ rfl
  have same : (({ s with spm := { s.spm with permit := .opened } } : State).recordGrant r.who) = s.recordGrant r.who := rfl
  rw [same] at move
  refine ⟨move.only .isHeld (by decide), fun ok => move.requests ⟨ok.pumps, ok.screens, ok.reverse, ok.forward, ok.installed⟩,
    fun _ ok dry low p => ?_, fun _ ok => move.seat.seatOk ⟨ok.key, ok.owners, ok.timer⟩⟩
  have off := dry (move.only .inputs (by decide) ▸ low)
  have screen : r.who ≠ .pump p := by
    intro who
    have := ok.pumps r (State.mem_waiting_of_ranked ranked) p who
    rw [off p] at this
    cases this
  exact ((s.recordGrant r.who).grantTo_other screen).1.trans (off p)

end Sys2Proof.Machine
end

section
/-! The invariants of requests, of the dry run and of the seat through the permit, the trips, the pump's inputs, the levels and the
episodes. -/

namespace Sys2Proof.Machine

/-! ### The permit -/

/-- A change of the permit that leaves its list (R58 to R60). -/
theorem keeps_spm {s t : State} (only : OnlyIn (.spm :: asideParts) s t) (waiting : t.spm.waiting = s.spm.waiting) : Keeps s t := by
  have dsq : t.dsq = s.dsq := only .dsq (by decide)
  have scr : t.scr = s.scr := only .scr (by decide)
  have runs : ∀ p, t.runState p = s.runState p := fun p => by simp only [State.runState, dsq]
  have requests : ∀ w, t.requestOf w = s.requestOf w := fun w => by simp only [State.requestOf, waiting]
  refine ⟨only .isHeld (by decide), fun ok => ?_, fun _ _ => .congr (only .inputs (by decide)) runs,
    fun _ => (SeatKeeps.of_only only (by decide) (by decide) fun p o here => ⟨o, ?_, rfl⟩).seatOk⟩
  · obtain ⟨pumps, screens⟩ := (requestsOk_iff s).mp ok
    exact (requestsOk_iff t).mpr ⟨fun p => (pumps p).congr (runs p) (requests _),
      fun sc => (screens sc).congr (by rw [scr]) (requests _) (State.screenIn_congr (only .cfg (by decide)) sc)⟩
  · rwa [State.overrideOf_congr dsq] at here

theorem keeps_reclose (s : State) : Keeps s s.reclose :=
  keeps_spm ((only_reclose s).mono (by decide)) (by
    unfold State.reclose
    split
    · split <;> rfl
    · rfl)

theorem keeps_outsideStart (s : State) (p : Pump) : Keeps s (s.outsideStart p) :=
  keeps_spm ((only_outsideStart s p).mono (by decide)) rfl

theorem keeps_expireSpacing (s : State) : Keeps s s.expireSpacing := by
  cases first : s.ranked.head? with
  | none =>
    simp only [State.expireSpacing, first]
    exact keeps_spm ((only_spm s _).mono (by decide)) rfl
  | some r =>
    simp only [State.expireSpacing, State.grantFirst, first]
    exact keeps_grant s (List.mem_of_mem_head? first)

theorem keeps_endSpacing (s : State) : Keeps s s.endSpacing := by
  have expired := keeps_expireSpacing s
  unfold State.endSpacing
  split
  · exact expired.reform
  · exact expired

theorem keeps_spacingChanged (s : State) : Keeps s s.spacingChanged := .when _ fun _ => keeps_endSpacing s

theorem keeps_generatorMoved (s : State) (a : Bool) : Keeps s (s.generatorMoved a) := by
  have told : Keeps s ((s.append (.generator a)).setCondition .onGenerator a).reclose :=
    ((keeps_append s _).trans (keeps_setCondition _ _ _)).trans (keeps_reclose _)
  exact (told.trans (.when _ fun _ => keeps_expireSpacing _)).reform

/-! ### Trips and the returns from them -/

theorem keeps_tripPump (s : State) (p : Pump) (c : FaultCond) : Keeps s (s.tripPump p c) := by
  rw [tripPump_eq]
  exact (Keeps.when _ fun on => keeps_dropPump s p on).trans ((noted_recordTrip _ p c _).only.keeps (by decide))

theorem keeps_trip (s : State) (p : Pump) (c : FaultCond) : Keeps s (s.trip p c) := (keeps_tripPump s p c).trans (keeps_dutyEvent _ _)

theorem keeps_expireFault (s : State) (p : Pump) (c : FaultCond) : Keeps s (s.expireFault p c) := .when _ fun _ => keeps_tripPump s p c

theorem keeps_overtempAtOnce (s : State) (p : Pump) : Keeps s (s.overtempAtOnce p) := .when _ fun _ => keeps_expireFault s p _

theorem keeps_recover (s : State) (p : Pump) : Keeps s (s.recover p) :=
  ((((keeps_modProt s p _).trans (keeps_report _ _)).trans (keeps_setCondition _ _ _)).trans
    (keeps_judgeFaults _ p)).trans (keeps_overtempAtOnce _ p)

theorem keeps_returnHealthy (s : State) (p : Pump) : Keeps s (s.returnHealthy p) := (keeps_recover s p).trans (keeps_dutyEvent _ _)

theorem keeps_endRest (s : State) (p : Pump) : Keeps s (s.endRest p) :=
  .choose _ (fun _ => (only_awaitCool s p).keeps (by decide)) fun _ => keeps_returnHealthy s p

theorem keeps_clear (s : State) (l : Link) (p : Pump) : Keeps s (s.clear l p) :=
  ((((((keeps_modProt s p _).trans (keeps_report _ _)).trans (keeps_setCondition _ _ _)).trans
    (keeps_append _ _)).trans (keeps_judgeFaults _ p)).trans (keeps_overtempAtOnce _ p)).trans (keeps_dutyEvent _ _)

/-! ### A pump's inputs -/

theorem keeps_watchMode (s : State) (p : Pump) : Keeps s (s.watchMode p) :=
  .choose _ (fun _ => .when _ fun _ => keeps_setWatch s p _) fun _ => keeps_setWatch s p _

theorem keeps_modeMoved (s old : State) (p : Pump) : Keeps s (s.modeMoved old p) :=
  .choose _ (fun _ => .refl s) fun _ =>
    (((keeps_report s _).trans (keeps_setCondition _ _ _)).trans (keeps_watchMode _ p)).trans (keeps_dutyEvent _ _)

theorem keeps_feedbackOn (s : State) (p : Pump) : Keeps s (s.feedbackOn p) := by
  have outside : Keeps s (if (s.outsideStart p).inAuto p then
      (s.outsideStart p).setWatch p (.uncommanded (some (s.outsideStart p).uptime)) else s.outsideStart p) :=
    (keeps_outsideStart s p).trans (.when _ fun _ => keeps_setWatch _ p _)
  cases run : s.runState p <;> simp only [State.feedbackOn, run]
  case starting => exact keeps_startConfirm s p run
  case running => exact keeps_judgeFaults s p
  all_goals exact outside

theorem keeps_feedbackOff (s : State) (p : Pump) : Keeps s (s.feedbackOff p) :=
  .choose _ (fun _ => keeps_judgeFaults s p) fun _ => keeps_setWatch s p _

theorem keeps_overtempMoved (s : State) (p : Pump) (a : Bool) : Keeps s (s.overtempMoved p a) :=
  .choose _ (fun _ => keeps_returnHealthy s p) fun _ =>
    (keeps_judgeFaults s p).trans (.when _ fun _ => keeps_trip _ p _)

theorem only_sealMoved (s : State) (p : Pump) (a : Bool) : OnlyIn [.ppr, .alm] s (s.sealMoved p a) :=
  .choose _ ((only_modProt s p _).mono (by decide)) ((only_modProt s p _).next (only_setCondition _ _ _) (by decide) (by decide))

/-! ### The Duty Sequencer's figures -/

/-- A change of the Duty Sequencer that leaves every run state and every override. -/
theorem keeps_dsq (s : State) (d : DutySequencer) (runs : ∀ p, (d.pumps.get p).run = s.runState p)
    (overrides : ∀ p, (d.pumps.get p).override = s.overrideOf p) : Keeps s { s with dsq := d } :=
  keeps_duty_same ((only_dsq s d).mono (by decide)) runs overrides

theorem keeps_modDuty (s : State) (p : Pump) (f : DutyPump → DutyPump) (run : ∀ d, (f d).run = d.run)
    (kept : ∀ d, (f d).override = d.override) : Keeps s (s.modDuty p f) := by
  refine keeps_dsq s _ (fun q => ?_) fun q => ?_
  · by_cases e : q = p
    · rw [e, Quad.get_modify_self, run, State.runState]
    · rw [Quad.get_modify_ne _ _ e, State.runState]
  · by_cases e : q = p
    · rw [e, Quad.get_modify_self, kept, State.overrideOf]
    · rw [Quad.get_modify_ne _ _ e, State.overrideOf]

theorem keeps_judgeCalls (s : State) : Keeps s s.judgeCalls := by
  unfold State.judgeCalls
  split
  · exact keeps_dsq s _ (fun _ => rfl) fun _ => rfl
  · exact .refl s

theorem keeps_judgeStage (s : State) : Keeps s s.judgeStage := by
  unfold State.judgeStage
  split
  · exact keeps_dsq s _ (fun _ => rfl) fun _ => rfl
  · exact .refl s

/-! ### Levels -/

theorem keeps_diffMoved (s : State) (b : Bool) : Keeps s (s.diffMoved b) :=
  (keeps_judgeBlinded s).reform.trans (.when _ fun _ => keeps_fire _)

theorem keeps_levelTold (s : State) : Keeps s s.levelTold :=
  ((((only_offerPeak s).keeps (by decide)).trans (keeps_judgeCalls _)).trans (keeps_judgeStage _)).trans (keeps_judgePoint _ _)

theorem keeps_settleLevel (s old : State) : Keeps s (s.settleLevel old) := by
  rw [State.settleLevel_eq]
  dsimp only
  have judged : Keeps s s.levelJudged := (only_levelJudged s).keeps (by decide)
  exact (((judged.trans (.when _ fun _ => keeps_levelTold _)).trans ((only_followSource _ old.source).keeps (by decide))).trans
    (.when _ fun _ => keeps_predict _)).reform

theorem keeps_wellMoved (s old : State) : Keeps s (s.wellMoved old) :=
  (((only_judgeDisagreement s).keeps (by decide)).trans ((only_judgeLevelMode _ old).keeps (by decide))).trans (keeps_settleLevel _ old)

theorem keeps_channelMoved (s old : State) (ch : Channel) : Keeps s (s.channelMoved old ch) := by
  rw [State.channelMoved_eq]
  refine .choose _ (fun _ => .refl s) fun _ => ((only_channelTold s old ch).keeps (by decide)).trans ?_
  generalize s.channelTold old ch = u
  cases ch with
  | wellPri => exact keeps_wellMoved u old
  | wellSec => exact keeps_wellMoved u old
  | inlet => exact (Keeps.when _ fun _ => keeps_judgePoint u _).trans (keeps_diffMoved _ _)
  | screenOut => exact keeps_diffMoved u _
  | cur p => exact keeps_judgeFaults u p

theorem keeps_endDisagreement (s : State) : Keeps s s.endDisagreement := (keeps_lvu s _).trans (keeps_settleLevel _ s)

theorem keeps_latch (s : State) (b : Bool) : Keeps s { s with dsq := { s.dsq with latch := b } } :=
  keeps_dsq s _ (fun _ => rfl) fun _ => rfl

theorem keeps_floatMoved (s : State) (f : FloatSwitch) (a : Bool) : Keeps s (s.floatMoved f a) := by
  cases f with
  | lowLow => exact (keeps_latch s _).trans (keeps_setCondition _ _ _)
  | high => exact keeps_latch s _
  | highHigh => exact keeps_setCondition s _ _

/-! ### Screens -/

theorem keeps_endInterval (s : State) (sc : Screen) : Keeps s (s.endInterval sc) :=
  (keeps_modScreen s sc (fun r => { r with interval := none }) (fun _ => rfl) fun _ h => ⟨h.reverse, h.forward⟩).trans
    (keeps_trigger _ sc)

theorem keeps_homeMoved (s : State) (sc : Screen) (a : Bool) : Keeps s (s.homeMoved sc a) := by
  unfold State.homeMoved
  split
  · rename_i r here
    refine .when _ fun forward => .choose _ (fun _ => .when _ fun _ => keeps_completeCycle s sc ?_) fun _ => ?_
    · rw [State.rakeOf, here, Option.map_some, forward]
    · refine keeps_modScreen s sc _ (fun _ => rfl) fun _ h => ⟨h.reverse, fun on => h.forward ?_⟩
      simp only [Option.isSome_none, Bool.false_or] at on
      simp [on]
  · exact .refl s

theorem keeps_torque (s : State) (sc : Screen) (a : Bool) :
    Keeps s (if a && s.rakeOf sc == some .forward then s.jam sc else s) :=
  .when _ fun on => keeps_jam s sc (by
    simp only [Bool.and_eq_true, beq_iff_eq] at on
    simp [on.2])

/-- A reset screen was JAMMED or FAILED: it has no request, and its timers stand still (R100). -/
theorem keeps_resetRake (s : State) (sc : Screen) (out : s.rakeOf sc = some .jammed ∨ s.rakeOf sc = some .failed) :
    Keeps s (s.resetRake sc) := by
  have idle : Keeps s ((s.modScreen sc fun r =>
      { r with retries := 0, again := false, cause := none, interval := s.intervalTimer }).setRake sc .idle) := by
    refine keeps_modScreen_setRake s sc _ .idle (by rcases out with h | h <;> simp [h]) fun r here ok => ?_
    have rake : r.rake = .jammed ∨ r.rake = .failed := by simpa [State.rakeOf, here] using out
    obtain ⟨reverse, homeLeave, cycle⟩ : r.Still := ok.still (by rcases rake with h | h <;> simp [h]) (by rcases rake with h | h <;> simp [h])
    exact ScreenRec.Still.timersOk ⟨reverse, homeLeave, cycle⟩
  exact ((idle.trans (keeps_setCondition _ _ _)).trans (keeps_setCondition _ _ _)).trans (keeps_fire _)

/-! ### Flow, alarms and the record -/

theorem only_creditRuns (s : State) : OnlyIn [.src] s s.creditRuns := .each (fun t _ => .when _ (only_credit t _)) _ s

theorem only_balancePart (s : State) : OnlyIn [.fbl, .src] s s.balancePart :=
  .choose _ ((only_modFbl s _).mono (by decide)) (only_balanceSecond s)

theorem only_pulseSilence (s : State) : OnlyIn [.fbl, .alm] s s.pulseSilence :=
  OnlyIn.next (as := [.fbl]) (.when _ (only_modFbl s _)) (only_setSilent _ _) (by decide) (by decide)

theorem only_endSilence (s : State) : OnlyIn [.fbl, .alm] s s.endSilence := (only_modFbl s _).next (only_setSilent _ _) (by decide) (by decide)

theorem keeps_clockTick (s : State) (r : ClockReading) : Keeps s (s.clockTick r) :=
  (((only_elapse s _).keeps (by decide)).trans (keeps_modSrc _ _)).trans (.choose _ (fun _ => .refl _) fun _ => (only_closeDay _ _ _).keeps (by decide))

theorem keeps_setClock (s : State) (l : Link) (r : ClockReading) : Keeps s (s.setClock l r) := by
  have src : ∀ (u : State) f, Keeps u (u.modSrc f) := fun u f => keeps_modSrc u f
  unfold State.setClock
  dsimp only
  split
  · exact ((((src s _).trans (src _ _)).trans (keeps_setCondition _ _ _)).trans (keeps_append _ _)).trans
      (keeps_report _ _)
  · exact (((src s _).trans (Keeps.choose _ (fun _ => .refl _) fun _ => (only_closeDay _ _ _).keeps (by decide))).trans (src _ _)).trans
      ((keeps_append _ _).trans (keeps_report _ _))

end Sys2Proof.Machine
end

section
/-! The invariants of requests, of the dry run and of the seat through the inputs, the links, the seat, the overrides and the clock. -/

namespace Sys2Proof.Machine

/-! ### Inputs, links and the seat -/

/-- A change of the inputs, the links and the overrides that leaves FLOAT_LOW_LOW and the run states. -/
theorem keeps_seat {s t : State} (only : OnlyIn (.inputs :: .lnk :: .dsq :: asideParts) s t)
    (low : t.inputs.floatLowLow = s.inputs.floatLowLow) (runs : ∀ p, t.runState p = s.runState p)
    (seat : s.isHeld = false → SeatOk s → SeatOk t) : Keeps s t := by
  have scr : t.scr = s.scr := only .scr (by decide)
  have spm : t.spm = s.spm := only .spm (by decide)
  refine ⟨only .isHeld (by decide), fun ok => ?_, fun _ _ dry on p => (runs p).trans (dry (low ▸ on) p), seat⟩
  obtain ⟨pumps, screens⟩ := (requestsOk_iff s).mp ok
  exact (requestsOk_iff t).mpr ⟨fun p => (pumps p).congr (runs p) (State.requestOf_congr spm _),
    fun sc => (screens sc).congr (by rw [scr]) (State.requestOf_congr spm _) (State.screenIn_congr (only .cfg (by decide)) sc)⟩

/-- A change of the links alone. -/
theorem keeps_lnk {s t : State} (only : OnlyIn [.lnk] s t) (seat : SeatOk s → SeatOk t) : Keeps s t := by
  have dsq : t.dsq = s.dsq := only .dsq (by decide)
  exact keeps_seat (only.mono (by decide)) (by rw [only .inputs (by decide)]) (fun p => by simp only [State.runState, dsq])
    fun _ => seat

theorem keeps_modLink (s : State) (l : Link) (f : LinkRec → LinkRec) : Keeps s (s.modLink l f) :=
  keeps_lnk (only_modLink s l f) fun ok => ⟨ok.key, ok.owners, ok.timer⟩

theorem keeps_give (s : State) (l : Link) (code : Byte) (r : Reply) : Keeps s (s.give l code r) := by
  cases r <;> exact keeps_modLink s l _

/-- A frame of the holder restarts the hold timer while LOCAL_KEY is inactive (R180). -/
theorem keeps_arrive (s : State) (l : Link) : Keeps s (s.arrive l) := by
  refine .choose _ (fun on => keeps_lnk ((only_modLink s l _).trans (only_lnk _ _)) fun ok => ?_) fun _ => keeps_modLink s l _
  simp only [State.holds, Bool.and_eq_true, beq_iff_eq, Bool.not_eq_true'] at on
  obtain ⟨seat, key⟩ := on
  refine ⟨fun active => ?_, ok.owners, fun _ free => ?_⟩
  · rw [show s.inputs.localKey = true from active] at key
    cases key
  · rw [show s.lnk.seat = .free from free] at seat
    cases seat

theorem keeps_pin (s : State) (i : Inputs) (low : i.floatLowLow = s.inputs.floatLowLow) (key : i.localKey = s.inputs.localKey) :
    Keeps s { s with inputs := i } :=
  keeps_seat ((only_inputs s i).mono (by decide)) low (fun _ => rfl) fun _ ok =>
    ⟨fun on => ok.key (key ▸ on), ok.owners, ok.timer⟩

/-- While the controller is held a change that leaves the requests and the screens may do what it will. -/
theorem keeps_held_pin (s : State) (i : Inputs) (held : s.isHeld = true) : Keeps s { s with inputs := i } := by
  refine ⟨rfl, fun ok => ⟨ok.pumps, ok.screens, ok.reverse, ok.forward, ok.installed⟩, fun run => ?_, fun run => ?_⟩ <;>
    rw [held] at run <;> cases run

/-! ### Commands in general -/

theorem keeps_live (s : State) (f : State → State) (h : s.isHeld = false → Keeps s (f s)) : Keeps s (s.live f) := by
  cases held : s.isHeld with
  | true =>
    rw [s.live_held f held]
    exact .refl s
  | false =>
    rw [s.live_running f held]
    exact h held

/-- The effect of an expiry comes at a state in which only time has passed. -/
theorem keeps_onExpiry (s : State) (t : Timer) (n : Nat) (f : State → State)
    (h : ∀ u, OnlyIn [.uptime, .src] s u → t.isSome = true → Keeps u (f u)) : Keeps s (s.onExpiry t n f) := by
  refine keeps_live s _ fun _ => ?_
  cases t with
  | none => exact .refl s
  | some t0 => exact (keeps_reach s _).trans (h _ (only_reach s _) rfl)

theorem keeps_onExpiry_of (s : State) (t : Timer) (n : Nat) (f : State → State) (h : ∀ u, Keeps u (f u)) :
    Keeps s (s.onExpiry t n f) := keeps_onExpiry s t n f fun u _ _ => h u

theorem keeps_onChange_of (s : State) (a b : Bool) (pin : Inputs → Inputs) (f : State → State)
    (h : s.isHeld = false → a ≠ b → Keeps s (f { s with inputs := pin s.inputs })) : Keeps s (s.onChange a b pin f) := by
  by_cases e : a = b
  · rw [e, s.onChange_same b pin f]
    exact .refl s
  · cases held : s.isHeld with
    | true =>
      rw [s.onChange_held pin f e held]
      exact keeps_held_pin s _ held
    | false =>
      rw [s.onChange_running pin f e held]
      exact h held e

theorem keeps_onChange (s : State) (a b : Bool) (pin : Inputs → Inputs) (f : State → State)
    (low : (pin s.inputs).floatLowLow = s.inputs.floatLowLow) (key : (pin s.inputs).localKey = s.inputs.localKey)
    (h : ∀ u, Keeps u (f u)) : Keeps s (s.onChange a b pin f) :=
  keeps_onChange_of s a b pin f fun _ _ => (keeps_pin s _ low key).trans (h _)

/-- The work of a request that needs the seat is done for its holder (R175). -/
theorem keeps_request (s : State) (l : Link) (code : Byte) (ok need : Bool) (work : State → State × Reply)
    (h : ∀ u, (need = true → u.lnk.seat = .held l) → Keeps u (work u).1) : Keeps s (s.request l code ok need work) := by
  refine .choose _ (fun _ => .refl s) fun _ => ?_
  dsimp only
  have arrived := keeps_arrive s l
  generalize s.arrive l = u at arrived
  have busy : Keeps s (u.giveBusy l code) := arrived.trans (keeps_modLink u l _)
  cases (u.link l).request with
  | working => exact busy
  | sending => exact busy
  | free =>
    cases checked : u.check l ok need with
    | some st => exact arrived.trans (keeps_give u l code _)
    | none =>
      refine (arrived.trans (h u fun needed => ?_)).trans (keeps_give _ l code _)
      by_contra away
      have other : u.holds l = false := by simpa [State.holds] using away
      cases ok <;> simp [State.check, needed, other] at checked

theorem keeps_read (s : State) (l : Link) (code : Byte) (ok : Bool) (d : State → List Byte) : Keeps s (s.read l code ok d) :=
  keeps_request s l code ok false _ fun u _ => .refl u

/-! ### Overrides -/

/-- The holder of the seat places its own override (R43, R46). -/
theorem keeps_setOverride (s : State) (l : Link) (p : Pump) (o : Option Override) (holds : s.lnk.seat = .held l)
    (own : ∀ x, o = some x → x.owner = l) : Keeps s (s.setOverride p o) := by
  have only := only_setOverride s p o
  refine keeps_seat (only.mono (by decide)) (by rw [only .inputs (by decide)]) (fun q => s.runState_setOverride p q o) fun _ ok => ?_
  have lnk : (s.setOverride p o).lnk = s.lnk := only .lnk (by decide)
  have inputs : (s.setOverride p o).inputs = s.inputs := only .inputs (by decide)
  refine ⟨fun on => ?_, fun q x here => ?_, fun on => ?_⟩
  · rw [lnk]
    exact ok.key (inputs ▸ on)
  · rw [lnk]
    have placed : (s.setOverride p o).overrideOf q = some x := here
    rw [State.overrideOf_setOverride] at placed
    split at placed
    · rw [own x placed, holds]
    · exact ok.owners q x placed
  · rw [lnk]
    exact ok.timer (lnk ▸ on)

theorem keeps_command (s : State) (l : Link) (p : Pump) (action speed : Nat) (holds : s.lnk.seat = .held l) :
    Keeps s (s.command l p action speed) := by
  have placed : ∀ o : Override, o.owner = l → Keeps s ((s.setOverride p (some o)).report .pumps) := fun o own =>
    (keeps_setOverride s l p _ holds fun x e => by cases e; exact own).trans (keeps_report _ _)
  unfold State.command
  split
  · exact keeps_setOverride s l p none holds fun x e => by cases e
  · exact placed _ rfl
  · exact placed _ rfl

theorem keeps_pumpCommand (s : State) (l : Link) (b : List Byte) (holds : s.lnk.seat = .held l) :
    Keeps s (s.pumpCommand l b).1 := by
  unfold State.pumpCommand
  dsimp only
  split
  · exact .refl s
  · split
    · exact .refl s
    · split
      · exact .refl s
      · exact (keeps_command s l _ _ _ holds).reform

theorem keeps_setQueue (s : State) (q : List Pump) : Keeps s (s.setQueue q) :=
  keeps_duty_same ((only_setQueue s q).mono (by decide)) (fun p => by simp only [State.runState, State.setQueue_pumps])
    fun p => by simp only [State.overrideOf, State.setQueue_pumps]

theorem keeps_setRotation (s : State) (b : List Byte) : Keeps s (s.setRotation b).1 := by
  unfold State.setRotation
  split
  · exact .refl s
  · split
    · exact .refl s
    · exact (keeps_setQueue s _).reform

theorem keeps_clearLockout (s : State) (l : Link) (b : List Byte) : Keeps s (s.clearLockout l b).1 := by
  unfold State.clearLockout
  split
  · exact .refl s
  · split
    · exact keeps_clear s l _
    · exact .refl s

theorem keeps_rakeRequest (s : State) (b : List Byte) : Keeps s (s.rakeRequest b).1 := by
  unfold State.rakeRequest
  split
  · exact .refl s
  · split
    · exact keeps_trigger s _
    · exact .refl s

theorem keeps_rakeReset (s : State) (b : List Byte) : Keeps s (s.rakeReset b).1 := by
  unfold State.rakeReset
  cases No2.ofNat? (part b 0 1) with
  | none => exact .refl s
  | some sc =>
    dsimp only
    cases rake : s.rakeOf sc with
    | none => exact .refl s
    | some k =>
      cases k with
      | jammed => exact keeps_resetRake s sc (.inl rake)
      | failed => exact keeps_resetRake s sc (.inr rake)
      | _ => exact .refl s

/-! ### The seat -/

/-- The holder changes: every override is cancelled, so that the new holder owns all there are (R182). -/
theorem keeps_changeSeat {s u : State} (holder : Seat) (cause : SeatCause) (only : OnlyIn [.inputs, .lnk] s u)
    (low : u.inputs.floatLowLow = s.inputs.floatLowLow)
    (key : SeatOk s → u.inputs.localKey = true → holder = .held .panel ∧ u.lnk.holdTimer = none)
    (timer : SeatOk s → u.lnk.holdTimer.isSome = true → holder ≠ .free) : Keeps s (u.changeSeat holder cause) := by
  let seated : State := { u with lnk := { u.lnk with seat := holder } }
  have cancelled := OnlyIn.each (fun (v : State) p => only_setOverride v p none) No4.all seated
  have all : OnlyIn (.inputs :: .lnk :: .dsq :: asideParts) s (seated.each No4.all fun v p => v.setOverride p none) :=
    ((only.next (cs := [.inputs, .lnk]) (only_lnk u _) (by decide) (by decide)).mono (by decide)).trans (cancelled.mono (by decide))
  have inputs : (seated.each No4.all fun v p => v.setOverride p none).inputs = u.inputs := cancelled .inputs (by decide)
  have lnk : (seated.each No4.all fun v p => v.setOverride p none).lnk = { u.lnk with seat := holder } :=
    cancelled .lnk (by decide)
  have runs : ∀ p, (seated.each No4.all fun v p => v.setOverride p none).runState p = s.runState p := fun p =>
    (State.each_keeps _ (·.runState p) (fun v q => v.runState_setOverride q p none) _ seated).trans
      (by simp only [State.runState, show seated.dsq = s.dsq from only .dsq (by decide)])
  have gone : ∀ p, (seated.each No4.all fun v p => v.setOverride p none).overrideOf p = none := by
    intro p
    cases p <;> simp [State.each, No4.all, State.overrideOf_setOverride]
  have kept : Keeps s (seated.each No4.all fun v p => v.setOverride p none) := by
    refine keeps_seat all (by rw [inputs, low]) runs fun _ ok => ⟨fun on => ?_, fun p o here => ?_, fun on => ?_⟩
    · rw [lnk]
      exact key ok (inputs ▸ on)
    · cases (gone p).symm.trans here
    · rw [lnk] at on ⊢
      exact timer ok on
  exact (kept.reform.trans (keeps_append _ _)).trans (keeps_report _ _)

/-- The hold timer starts in a held seat, and not while LOCAL_KEY is active (R180). -/
theorem seatOk_startHold {s u : State} (ok : SeatOk s) (only : OnlyIn [.inputs] s u)
    (key : u.inputs.localKey = true → s.lnk.seat = .held .panel) (held : s.lnk.seat ≠ .free) : SeatOk u.startHold := by
  have lnk : u.lnk = s.lnk := only .lnk (by decide)
  have dsq : u.dsq = s.dsq := only .dsq (by decide)
  refine ⟨fun on => ?_, fun p o here => ?_, fun _ => ?_⟩
  · have on : u.inputs.localKey = true := on
    exact ⟨(congrArg (·.seat) lnk).trans (key on), by simp [State.startHold, on]⟩
  · exact (congrArg (·.seat) lnk).trans (ok.owners p o (dsq ▸ here))
  · exact fun free => held ((congrArg (·.seat) lnk).symm.trans free)

theorem only_startHold (s : State) : OnlyIn [.lnk] s s.startHold := only_lnk s _

theorem only_stopHold (s : State) : OnlyIn [.lnk] s s.stopHold := only_lnk s _

theorem keeps_startHold (s : State) (held : SeatOk s → s.lnk.seat ≠ .free) : Keeps s s.startHold :=
  keeps_lnk (only_startHold s) fun ok => seatOk_startHold ok (.refl _ s) (fun on => (ok.key on).1) (held ok)

theorem keeps_stopHold (s : State) : Keeps s s.stopHold :=
  keeps_lnk (only_stopHold s) fun ok => ⟨fun on => ⟨(ok.key on).1, rfl⟩, ok.owners, fun on => by simp [State.stopHold] at on⟩

theorem State.changeSeat_seat (s : State) (holder : Seat) (cause : SeatCause) : (s.changeSeat holder cause).lnk.seat = holder := by
  unfold State.changeSeat
  dsimp only
  rw [only_report _ _ .lnk (by decide), only_append _ _ .lnk (by decide), only_reform _ .lnk (by decide),
    OnlyIn.each (fun (v : State) p => only_setOverride v p none) No4.all _ .lnk (by decide)]

theorem keeps_claimSeat (s : State) (l : Link) : Keeps s (s.claimSeat l).1 := by
  cases seat : s.lnk.seat with
  | free =>
    simp only [State.claimSeat, seat]
    have taken : Keeps s (s.changeSeat (.held l) .claim) :=
      keeps_changeSeat (.held l) .claim (.refl _ s) rfl
        (fun ok on => by cases seat.symm.trans (ok.key on).1) (fun _ _ => by simp)
    exact taken.trans (keeps_startHold _ fun _ => by rw [s.changeSeat_seat]; simp)
  | held h =>
    simp only [State.claimSeat, seat]
    split
    · exact keeps_startHold s fun _ => by rw [seat]; simp
    · split <;> exact .refl s

theorem keeps_releaseSeat (s : State) (l : Link) : Keeps s (s.releaseSeat l).1 := by
  unfold State.releaseSeat
  split
  · exact .refl s
  · split
    · exact .refl s
    · rename_i off
      exact keeps_changeSeat .free .release ((only_stopHold s).mono (by decide)) rfl
        (fun _ on => absurd on off) (fun _ on => by simp [State.stopHold] at on)

/-- The hold timer runs while LOCAL_KEY is inactive alone (R180). -/
theorem keeps_endHold (s : State) (runs : s.lnk.holdTimer.isSome = true) : Keeps s s.endHold :=
  keeps_changeSeat .free .expiry ((only_stopHold s).mono (by decide)) rfl
    (fun ok on => by rw [(ok.key on).2] at runs; cases runs) (fun _ on => by simp [State.stopHold] at on)

/-- LOCAL_KEY moves, and the seat with it (R181). -/
theorem keeps_keyMoved (s : State) (a : Bool) (moved : s.inputs.localKey ≠ a) :
    Keeps s (({ s with inputs := { s.inputs with localKey := a } } : State).keyMoved a) := by
  let u : State := { s with inputs := { s.inputs with localKey := a } }
  have pinned : OnlyIn [.inputs] s u := only_inputs s _
  have stopped : OnlyIn [.inputs, .lnk] s u.stopHold := pinned.next (only_stopHold u) (by decide) (by decide)
  show Keeps s (u.keyMoved a)
  cases a with
  | true =>
    refine Keeps.trans ?_ (keeps_report _ _)
    refine .choose _ (fun holds => ?_) fun _ => ?_
    · refine keeps_seat (stopped.mono (by decide)) rfl (fun _ => rfl) fun _ ok =>
        ⟨fun _ => ⟨eq_of_beq holds, rfl⟩, ok.owners, fun on => by simp [State.stopHold] at on⟩
    · exact keeps_changeSeat (.held .panel) .localKey stopped rfl (fun _ _ => ⟨rfl, rfl⟩) (fun _ _ => by simp)
  | false =>
    have on : s.inputs.localKey = true := by simpa using moved
    refine Keeps.trans ?_ (keeps_report _ _)
    refine keeps_seat ((pinned.next (cs := [.inputs, .lnk]) (only_startHold u) (by decide) (by decide)).mono (by decide)) rfl (fun _ => rfl) fun _ ok => ?_
    obtain ⟨seat, _⟩ := ok.key on
    exact seatOk_startHold ok pinned (fun off => by cases off) (by rw [seat]; simp)

end Sys2Proof.Machine
end

section
/-! The invariants of requests, of the dry run and of the seat through the writes of settings and tables, and through a start. -/

namespace Sys2Proof.Machine

/-! ### Writes that leave the installed screens -/

/-- A change of the settings that leaves the count of screens. -/
theorem keeps_cfg {s t : State} (only : OnlyIn (.cfg :: asideParts) s t)
    (count : t.img.units.screensInstalled = s.img.units.screensInstalled) : Keeps s t := by
  have dsq : t.dsq = s.dsq := only .dsq (by decide)
  have spm : t.spm = s.spm := only .spm (by decide)
  have scr : t.scr = s.scr := only .scr (by decide)
  have runs : ∀ p, t.runState p = s.runState p := fun p => by simp only [State.runState, dsq]
  refine ⟨only .isHeld (by decide), fun ok => ?_, fun _ _ => .congr (only .inputs (by decide)) runs,
    fun _ => (SeatKeeps.of_only only (by decide) (by decide) fun p o here => ⟨o, State.overrideOf_congr dsq p ▸ here, rfl⟩).seatOk⟩
  obtain ⟨pumps, screens⟩ := (requestsOk_iff s).mp ok
  exact (requestsOk_iff t).mpr ⟨fun p => (pumps p).congr (runs p) (State.requestOf_congr spm _),
    fun sc => (screens sc).congr (by rw [scr]) (State.requestOf_congr spm _) (by rw [State.screenIn, State.screenIn, count])⟩

theorem keeps_lapse (s : State) (t : Timer) (n : Nat) (f : State → State) (h : t.isSome = true → Keeps s (f s)) :
    Keeps s (s.lapse t n f) := by
  cases t with
  | none => exact .refl s
  | some t0 => exact .when _ fun _ => h rfl

theorem keeps_lapses {ι : Type} (timer : State → ι → Timer) (n : Nat) (f : State → ι → State)
    (h : ∀ s i, (timer s i).isSome = true → Keeps s (f s i)) (xs : List ι) (s : State) :
    Keeps s (s.each xs fun t i => t.lapse (timer t i) n fun t => f t i) :=
  .each (fun t i => keeps_lapse t _ n _ (h t i)) xs s

theorem keeps_expireFaults (s old : State) (c : FaultCond) : Keeps s (s.expireFaults old c) :=
  (Keeps.each (fun t p => keeps_expireFault t p c) No4.all s).trans (keeps_dutyEvent _ _)

theorem keeps_judgePump (s : State) (p : Pump) (w : Watch) : Keeps s (s.judgePump p w) :=
  (((only_meet s p w).keeps (by decide))).trans (keeps_judgeFaults _ p)

theorem keeps_pumpsWritten (s old : State) : Keeps s (s.pumpsWritten old) := by
  have gone := fun xs => Keeps.each (fun t p => (only_uninstallPump t p).keeps (by decide)) xs s
  have come := fun xs u => Keeps.each (f := State.installPump)
    (fun t p => (keeps_report t .pumps).trans (keeps_judgePump _ p (.uncommanded (some t.uptime)))) xs u
  have hot := fun xs u => Keeps.each keeps_overtempAtOnce xs u
  exact (((((gone _).trans (keeps_followInstalls _)).trans (come _ _)).trans (hot _ _)).trans (keeps_dutyEvent _ _)).trans
    (keeps_judgeOutputs _)

theorem only_ovm (s : State) (o : OverflowMonitor) : OnlyIn [.ovm] s { s with ovm := o } := by
  intro b hb
  cases b <;> first | rfl | simp at hb

theorem only_uninstallPoint2 (s : State) : OnlyIn episodeParts s s.uninstallPoint2 := by
  have kept : ∀ f, OnlyIn episodeParts s (s.modFbl f) := fun f => (only_modFbl s f).mono (by decide)
  have closed : ∀ u : State, OnlyIn episodeParts u
      (if u.episodeOpen .n2 then
        match (u.ovm.points.get .n2).bind (·.episode) with
        | some e => u.closeEpisode .n2 u.now e.age .sensorFault
        | none => u
      else u) := fun u => by
    split
    · split
      · exact only_closeEpisode u .n2 _ _ _
      · exact .refl _ _
    · exact .refl _ _
  have gone : ∀ u : State, ∀ o, OnlyIn episodeParts u (({ u with ovm := o } : State).clearPoint (.overflow .n2)) := fun u o =>
    ((only_ovm u o).mono (by decide)).trans ((only_clearPoint _ _).mono (by decide))
  exact ((kept _).trans (closed _)).trans (gone _ _)

theorem keeps_pointsWritten (s old : State) : Keeps s (s.pointsWritten old) := by
  unfold State.pointsWritten
  dsimp only
  refine Keeps.trans ?_ (keeps_judgeOutputs _)
  refine Keeps.reform ?_
  split
  · exact ((only_uninstallPoint2 s).keeps (by decide)).trans (keeps_followInstalls _)
  · exact (((only_ovm s _).keeps (by decide)).trans (keeps_followInstalls _)).trans (keeps_judgePoint _ _)
  · exact .refl s

theorem keeps_driveSet (s : State) (p : Pump) : Keeps s (s.driveSet p) :=
  .when _ fun _ => keeps_modDuty s p _ (fun _ => rfl) fun _ => rfl

theorem keeps_driveCleared (s : State) (p : Pump) : Keeps s (s.driveCleared p) :=
  keeps_modDuty s p _ (fun _ => rfl) fun _ => rfl

theorem Override.raise_owner (o : Override) (n : Nat) : (o.raise n).owner = o.owner := by
  unfold Override.raise
  split <;> rfl

/-- A raised fixed speed stays the holder's (R46, R48). -/
theorem keeps_raise (s : State) (p : Pump) (n : Nat) :
    Keeps s (s.modDuty p fun d => { d with override := d.override.map (·.raise n) }) := by
  refine keeps_duty ((only_modDuty s p _).mono (by decide)) (fun q => ?_) fun q o here => ?_
  · simp only [State.runState, State.modDuty]
    by_cases e : q = p
    · rw [e, Quad.get_modify_self]
    · rw [Quad.get_modify_ne _ _ e]
  · simp only [State.overrideOf, State.modDuty] at here ⊢
    by_cases e : q = p
    · rw [e, Quad.get_modify_self] at here
      obtain ⟨o', was, rfl⟩ := Option.map_eq_some_iff.mp here
      exact ⟨o', e ▸ was, (o'.raise_owner n).symm⟩
    · rw [Quad.get_modify_ne _ _ e] at here
      exact ⟨o, here, rfl⟩

theorem keeps_interval (s : State) (sc : Screen) (f : State → Timer) :
    Keeps s (s.modScreen sc fun r => { r with interval := f s }) :=
  keeps_modScreen s sc _ (fun _ => rfl) fun _ h => ⟨h.reverse, h.forward⟩

theorem keeps_rescale (s : State) (ch : Channel) : Keeps s (s.rescale ch) := by
  unfold State.rescale
  split
  · exact .when _ fun _ => (keeps_setChan s ch _).trans ((only_expectRescaled _ ch).keeps (by decide))
  · exact .refl s

/-- What the owning block does at a write of any setting but `screens_installed`. -/
theorem keeps_settingMoved (s old : State) (x : Setting) (other : x ≠ .screensInstalled) : Keeps s (s.settingMoved old x) := by
  have modDuty := fun (f : State → DutyPump → DutyPump) (run : ∀ t d, (f t d).run = d.run)
    (kept : ∀ t d, (f t d).override = d.override) =>
    Keeps.each (f := fun t p => t.modDuty p (f t)) (fun t p => keeps_modDuty t p _ (run t) (kept t)) No4.all s
  cases x
  case screensInstalled => exact absurd rfl other
  case pumpsInstalled => exact keeps_pumpsWritten s old
  case pointsInstalled => exact keeps_pointsWritten s old
  case zeroMm => exact .each keeps_rescale _ s
  case spanMm => exact .each keeps_rescale _ s
  case curSpan => exact .each keeps_rescale _ s
  case wellDepth => exact .each keeps_rescale _ s
  case initLimit | disagreeMm | midSpeed | rampPct | jamRetries | pulseLitres | ratedFlow => exact .refl s
  case disagreeS => exact keeps_lapse s _ _ _ fun _ => keeps_endDisagreement s
  case hhFloat | llFloat | floatTol => exact (only_judgeFloats s).keeps (by decide)
  case highAlarm => exact (only_judgeHighLevel s).keeps (by decide)
  case startLevel | stopLevel => exact ((keeps_judgeCalls s).trans (keeps_judgeStage _)).reform
  case minRunS => exact (modDuty (fun t d => { d with minRun := t.kept d.minRun s.img.duty.minRunS }) (fun _ _ => rfl) fun _ _ => rfl).reform
  case minOffS => exact (modDuty (fun t d => { d with minOff := t.kept d.minOff s.img.duty.minOffS }) (fun _ _ => rfl) fun _ _ => rfl).reform
  case startsPerHour | maxRunning | genMaxRunning | blindedMaxPumps => exact keeps_reform s
  case speedDelta | speedHys => exact keeps_judgeStage s
  case minSpeed => exact .each (fun t p => keeps_raise t p _) _ s
  case hasDrive p => exact .choose _ (fun _ => keeps_driveSet s p) fun _ => keeps_driveCleared s p
  case startSpacing | genSpacing =>
    exact .choose _ (fun _ => .refl s) fun _ => (keeps_reclose s).trans (keeps_spacingChanged _)
  case startConfirmS | runLostS | overtempS | ocS | ucS => exact keeps_expireFaults s old _
  case stopConfirmS => exact keeps_lapses _ _ _ (fun t p _ => keeps_setWatch t p _) _ s
  case tripRestS =>
    refine (keeps_lapses (fun t p => (t.ppr.get p).rest) _ (fun t p => if t.inputs.overtemp.get p then t.awaitCool p else t.recover p)
      (fun t p _ => ?_) _ s).trans (keeps_dutyEvent _ _)
    exact .choose _ (fun _ => (only_awaitCool t p).keeps (by decide)) fun _ => keeps_recover t p
  case tripForgiveS => exact keeps_lapses _ _ _ (fun t p _ => (only_forgive t p).keeps (by decide)) _ s
  case lockoutTrips =>
    exact ((only_ppr s (limitAll s.ppr s.img.prot.lockoutTrips)).keeps (by decide)).trans ((only_reportIf _ _ _).keeps (by decide))
  case ocLimit p => exact keeps_judgeFaults s p
  case ucLimit p => exact keeps_judgeFaults s p
  case rakeStart => exact keeps_diffMoved s _
  case rakeIntervalMin =>
    refine .choose _ (fun _ => .each (fun t sc => keeps_interval t sc fun _ => none) _ s) fun _ => .choose _ (fun _ => ?_) fun _ => ?_
    · exact .each (fun t sc => keeps_interval t sc fun t => some t.uptime) _ s
    · exact keeps_lapses _ _ _ (fun t sc _ => keeps_endInterval t sc) _ s
  case homeLeaveS => exact keeps_lapses _ _ _ (fun t sc _ => keeps_failAndFire t sc _) _ s
  case cycleMaxS => exact keeps_lapses _ _ _ (fun t sc _ => keeps_failAndFire t sc _) _ s
  case reverseS => exact keeps_lapses _ _ _ (fun t sc runs => keeps_endBackoff t sc runs) _ s
  case blindMm | blindS => exact (keeps_judgeBlinded s).reform
  case crest pt => exact ((keeps_judgePoint s pt).trans (.when _ fun _ => keeps_predict _)).reform
  case startHead | endHead => exact (Keeps.each (fun t pt => keeps_judgePoint t pt) _ s).reform
  case ovfConfirmS => exact (keeps_lapses _ _ _ (fun t pt _ => (only_openEpisode t pt).keeps (by decide)) _ s).reform
  case endConfirmS =>
    refine (Keeps.each (fun t pt => ?_) No2.all s).reform
    exact (keeps_lapse t _ _ (·.endNormally pt) fun _ => (only_endNormally t pt).keeps (by decide)).trans
      (keeps_lapse _ _ _ (·.endLost pt) fun _ => (only_endLost _ pt).keeps (by decide))
  case meterSilenceS => exact keeps_lapse s _ _ _ fun _ => (only_endSilence s).keeps (by decide)
  case trendBand => exact keeps_modFbl s fun b => { b with trend := trendOf b.rates s.img.flow.trendBand }
  case predictWarnS => exact (only_judgePredicted s).keeps (by decide)
  case route | outMode => exact keeps_judgeOutputs s
  case seatHoldS => exact keeps_lapse s _ _ _ fun runs => keeps_endHold s runs

/-! ### A write of `screens_installed` -/

theorem only_clearBlinded (s : State) : OnlyIn [.scr, .alm] s s.clearBlinded :=
  .when _ (((only_scr s _).next (cs := [.scr, .alm]) (only_reportIf _ _ _) (by decide) (by decide)).next (only_clearPoint _ _) (by decide)
    (by decide))

theorem only_screensSettled (s old : State) : OnlyIn [.lvu, .spm, .scr, .alm] s (s.screensSettled old) :=
  (((OnlyIn.mono (.each only_uninstallScreen _ s) (by decide)).trans ((only_followInstalls _).mono (by decide))).trans
    (OnlyIn.mono (.each only_installScreen _ _) (by decide))).trans ((only_clearBlinded _).mono (by decide))

/-- A screen that neither comes nor goes keeps its part. -/
theorem screensSettled_same (s old : State) (sc : Screen) (same : s.screenIn sc = old.screenIn sc) :
    screenPart sc (s.screensSettled old) = screenPart sc s := by
  have gone : sc ∉ No2.all.filter fun sc => old.screenIn sc && !s.screenIn sc := by simp [same]
  have come : sc ∉ No2.all.filter fun sc => s.screenIn sc && !old.screenIn sc := by simp [same]
  rw [State.screensSettled, screenPart_clearBlinded, State.each_other screenPart screenPart_installScreen_ne come,
    screenPart_of_only (only_followInstalls _) (points_followInstalls _) (by simp [channelFaults]) (by simp [channelFaults])
      (by decide) (by decide),
    State.each_other screenPart screenPart_uninstallScreen_ne gone]

/-- The pumps' requests stay in the list. -/
theorem screensSettled_pump (s old : State) (p : Pump) :
    (s.screensSettled old).requestOf (.pump p) = s.requestOf (.pump p) := by
  rw [State.screensSettled, State.requestOf_congr (only_clearBlinded _ .spm (by decide)),
    State.requestOf_congr (OnlyIn.each only_installScreen _ _ .spm (by decide)),
    State.requestOf_congr (only_followInstalls _ .spm (by decide))]
  refine State.each_keeps State.uninstallScreen (·.requestOf (.pump p)) (fun u sc => ?_) _ s
  have cleared : ∀ w : State, ((w.clearPoint (.rakeJam sc)).clearPoint (.rakeFailed sc)).requestOf (.pump p) = w.requestOf (.pump p) :=
    fun w => State.requestOf_congr (((only_clearPoint w _).trans (only_clearPoint _ _)) .spm (by decide)) _
  exact (cleared _).trans (u.requestOf_withdraw_ne (by simp))

/-- The screens taken out have neither record nor request, those put in are at their start (R105). -/
theorem screenOk_screensSettled {s u : State} {sc : Screen} (ok : ScreenOk sc s) (record : u.scr = s.scr) (list : u.spm = s.spm) :
    ScreenOk sc (u.screensSettled s) := by
  have cfg : (u.screensSettled s).screenIn sc = u.screenIn sc := State.screenIn_congr (only_screensSettled u s .cfg (by decide)) sc
  have before : u.requestOf (.screen sc) = s.requestOf (.screen sc) := State.requestOf_congr list _
  cases was : s.screenIn sc <;> cases inn : u.screenIn sc
  case false.true =>
    have part := screensSettled_come u s sc was inn
    obtain ⟨at_start, request⟩ : (u.screensSettled s).scr.screens.get sc = some (.atStart u.intervalTimer) ∧
        (u.screensSettled s).requestOf (.screen sc) = u.requestOf (.screen sc) :=
      ⟨congrArg Prod.fst part, congrArg (·.2.1) part⟩
    refine ⟨fun _ => ?_, fun r here => ?_, fun out => ?_⟩
    · rw [request, before]
      exact ok.unasked (by rw [State.rakeOf, ok.installed was]; simp)
    · cases at_start.symm.trans here
      exact ScreenRec.Still.timersOk ⟨rfl, rfl, rfl⟩
    · rw [cfg, inn] at out
      cases out
  case true.false =>
    have part := screensSettled_gone u s sc was inn
    have gone : (u.screensSettled s).scr.screens.get sc = none := congrArg Prod.fst part
    exact ⟨fun _ => congrArg (·.2.1) part, fun r here => (by cases gone.symm.trans here), fun _ => gone⟩
  all_goals
    have part := screensSettled_same u s sc (inn.trans was.symm)
    refine ok.congr ((congrArg Prod.fst part).trans (congrArg (·.screens.get sc) record)) ((congrArg (·.2.1) part).trans before) ?_
    rw [cfg, inn, was]

theorem keeps_screensSettled {s u : State} (only : OnlyIn [.cfg] s u) : Keeps s (u.screensSettled s) := by
  have all : OnlyIn [.lvu, .spm, .scr, .alm, .cfg] s (u.screensSettled s) :=
    (only.mono (by decide)).trans ((only_screensSettled u s).mono (by decide))
  have dsq : (u.screensSettled s).dsq = s.dsq := all .dsq (by decide)
  have runs : ∀ p, (u.screensSettled s).runState p = s.runState p := fun p => by simp only [State.runState, dsq]
  refine ⟨all .isHeld (by decide), fun ok => ?_, fun _ _ => .congr (all .inputs (by decide)) runs,
    fun _ => (SeatKeeps.of_only all (by decide) (by decide) fun p o here => ⟨o, State.overrideOf_congr dsq p ▸ here, rfl⟩).seatOk⟩
  obtain ⟨pumps, screens⟩ := (requestsOk_iff s).mp ok
  refine (requestsOk_iff _).mpr ⟨fun p => (pumps p).congr (runs p) ?_, fun sc =>
    screenOk_screensSettled (screens sc) (only .scr (by decide)) (only .spm (by decide))⟩
  exact (screensSettled_pump u s p).trans (State.requestOf_congr (only .spm (by decide)) _)

theorem keeps_screensWritten {s u : State} (only : OnlyIn [.cfg] s u) : Keeps s (u.screensWritten s) := by
  have settled := keeps_screensSettled only
  have fired : Keeps s (u.screensFired s (u.screensSettled s)) :=
    .choose _ (fun _ => settled.reform) fun _ => settled.reform.trans (keeps_fire _)
  exact fired.trans (keeps_judgeOutputs _)

/-! ### Writes, tables and saves -/

theorem Image.put_screensInstalled (m : Image) (x : Setting) (v : Nat) (other : x ≠ .screensInstalled) :
    (m.put x v).units.screensInstalled = m.units.screensInstalled := by
  cases x <;> first | rfl | exact absurd rfl other

theorem Image.putTable_screensInstalled (m : Image) (n : Nat) (pts : List TablePoint) :
    (m.putTable n pts).units.screensInstalled = m.units.screensInstalled := by
  unfold Image.putTable
  split <;> rfl

theorem keeps_putSetting (s : State) (x : Setting) (v : Nat) : Keeps s (s.putSetting x v) := by
  refine Keeps.trans ?_ (keeps_report _ _)
  have written : OnlyIn [.cfg] s (s.setLive (s.img.put x v)) := only_cfg s _
  by_cases screens : x = .screensInstalled
  · subst screens
    refine .choose _ (fun same => keeps_cfg (written.mono (by decide)) ?_) fun _ => keeps_screensWritten written
    exact same.symm
  · have live : Keeps s (s.setLive (s.img.put x v)) :=
      keeps_cfg (written.mono (by decide)) (s.img.put_screensInstalled x v screens)
    exact .choose _ (fun _ => live) fun _ => live.trans (keeps_settingMoved _ s x screens)

theorem keeps_writeSetting (s : State) (b : List Byte) : Keeps s (s.writeSetting b).1 := by
  unfold State.writeSetting
  dsimp only
  split
  · exact .refl s
  · split
    · exact .refl s
    · split
      · exact .refl s
      · exact keeps_putSetting s _ _

theorem keeps_setCfg (s : State) (c : SettingsStore) (live : c.live = s.cfg.live) : Keeps s { s with cfg := c } :=
  keeps_cfg ((only_cfg s c).mono (by decide)) (by rw [State.img, State.img, live])

theorem keeps_writeTable (s : State) (l : Link) (b : List Byte) : Keeps s (s.writeTable l b).1 := by
  unfold State.writeTable
  dsimp only
  split
  · exact .refl s
  · split
    · exact .refl s
    · exact keeps_setCfg s _ rfl

theorem keeps_endWrite (s : State) (w : TableWrite) : Keeps s (s.endWrite w) := by
  have live : Keeps s (s.setLive (s.img.putTable w.table w.points)) :=
    keeps_cfg ((only_cfg s _).mono (by decide)) (s.img.putTable_screensInstalled _ _)
  have told := live.trans (keeps_report _ .settings)
  have ended := fun u : State => keeps_setCfg u { u.cfg with writes := u.cfg.writes.erase w } rfl
  exact ((told.trans (ended _)).trans (.when (w.table = 0) fun _ => keeps_predict _)).trans
    (keeps_give _ w.link 0x31 (.done []))

theorem keeps_saveSettings (s : State) (l : Link) : Keeps s (s.saveSettings l).1 := by
  unfold State.saveSettings
  split
  · exact .refl s
  · exact keeps_setCfg s _ rfl

theorem keeps_endSave (s : State) (v : Save) : Keeps s (s.endSave v) := by
  have kept : Keeps s { s with cfg := { s.cfg with stored := some v.image, saving := none, settingsLost := false } } :=
    keeps_setCfg s _ rfl
  exact (((kept.trans (keeps_append _ (.settingsSaved v.link))).trans (keeps_setCondition _ .settingsLost false)).trans
    (keeps_report _ .settings)).trans (keeps_give _ v.link 0x32 (.done []))

end Sys2Proof.Machine
end

section
/-! Every step keeps the invariants of requests, of the dry run and of the seat: O55 and O58. -/

namespace Sys2Proof.Machine

/-! ### The commands -/

theorem only_pending (s : State) (q : List Instr) : OnlyIn [.pending] s { s with pending := q } := by
  intro b hb
  cases b <;> first | rfl | simp at hb

theorem only_marker (s : State) (m : Bool) : OnlyIn [.marker] s { s with marker := m } := by
  intro b hb
  cases b <;> first | rfl | simp at hb

/-- A command that neither holds nor starts the controller and carries no frame of its own. -/
def plainCommand : Instr → Bool
  | .hold | .start | .unknownRequest _ _ _ | .byteReceived _ _ => false
  | _ => true

/-- A frame is the request that its CODE names, or it is answered UNKNOWN (section 10.3). -/
theorem takeFrame_cases (l : Link) (code : Byte) (b : List Byte) (s : State) :
    (∃ i, plainCommand i = true ∧ takeFrame l code b s = exec i s) ∨ takeFrame l code b s = .next (s.unknown l code) := by
  unfold takeFrame
  split
  · exact .inl ⟨.readLevels l b, rfl, rfl⟩
  · exact .inl ⟨.readPumps l b, rfl, rfl⟩
  · exact .inl ⟨.readPermit l b, rfl, rfl⟩
  · exact .inl ⟨.readProtection l b, rfl, rfl⟩
  · exact .inl ⟨.readScreens l b, rfl, rfl⟩
  · exact .inl ⟨.readOverflow l b, rfl, rfl⟩
  · exact .inl ⟨.readBalance l b, rfl, rfl⟩
  · exact .inl ⟨.readAlarms l b, rfl, rfl⟩
  · exact .inl ⟨.readChanges l b, rfl, rfl⟩
  · exact .inl ⟨.readEvents l b, rfl, rfl⟩
  · exact .inl ⟨.releaseEvents l b, rfl, rfl⟩
  · exact .inl ⟨.readSummary l b, rfl, rfl⟩
  · exact .inl ⟨.readClock l b, rfl, rfl⟩
  · exact .inl ⟨.readSeat l b, rfl, rfl⟩
  · exact .inl ⟨.readSetting l b, rfl, rfl⟩
  · exact .inl ⟨.readTable l b, rfl, rfl⟩
  · exact .inl ⟨.ackAlarm l b, rfl, rfl⟩
  · exact .inl ⟨.rakeRequest l b, rfl, rfl⟩
  · exact .inl ⟨.claimSeat l b, rfl, rfl⟩
  · exact .inl ⟨.releaseSeat l b, rfl, rfl⟩
  · exact .inl ⟨.writeSetting l b, rfl, rfl⟩
  · exact .inl ⟨.writeTable l b, rfl, rfl⟩
  · exact .inl ⟨.saveSettings l b, rfl, rfl⟩
  · exact .inl ⟨.pumpCommand l b, rfl, rfl⟩
  · exact .inl ⟨.setRotation l b, rfl, rfl⟩
  · exact .inl ⟨.clearLockout l b, rfl, rfl⟩
  · exact .inl ⟨.rakeReset l b, rfl, rfl⟩
  · exact .inl ⟨.setClock l b, rfl, rfl⟩
  · exact .inr rfl

theorem keeps_sample (s : State) (ch : Channel) (counts : BitVec 12) {t : State} (h : exec (.sample ch counts) s = .next t) :
    Keeps s t := by
  cases h
  refine keeps_live s _ fun _ => ?_
  dsimp only
  have scanned : Keeps s { s with lvu := { s.lvu with scanNext := Channel.following ch } } := keeps_lvu s _
  refine scanned.trans ?_
  generalize ({ s with lvu := { s.lvu with scanNext := Channel.following ch } } : State) = u
  split
  · exact .refl u
  · have moved := fun r => (keeps_setChan u ch r).trans (keeps_channelMoved (u.setChan ch r) u ch)
    split
    · exact (moved _).trans ((only_seeRescaled _ ch).keeps (by decide))
    · exact moved _

/-- FLOAT_LOW_LOW going active stops every pump in the formation that follows it (R35, R41). -/
theorem keeps_floatChange (s : State) (f : FloatSwitch) (a : Bool) {t : State} (h : exec (.floatChange f a) s = .next t) :
    Keeps s t := by
  cases h
  refine keeps_onChange_of s _ a _ _ fun _ _ => ?_
  have after : ∀ u : State, Keeps u ((u.floatMoved f a).judgeFloats) := fun u =>
    (keeps_floatMoved u f a).trans ((only_judgeFloats _).keeps (by decide))
  let pinned : State := { s with inputs := s.inputs.setFloat f a }
  have key : pinned.inputs.localKey = s.inputs.localKey := by cases f <;> rfl
  have moved := after pinned
  refine keeps_reform_of (fun ok => moved.requests ⟨ok.pumps, ok.screens, ok.reverse, ok.forward, ok.installed⟩) moved.held
    fun run ok => moved.seat run ⟨fun on => ok.key (key ▸ on), ok.owners, ok.timer⟩

theorem keeps_acknowledge (s : State) (src : AckSource) (as : List AlarmPoint) : Keeps s (s.acknowledge src as) :=
  (only_acknowledge s src as).keeps (by decide)

theorem keeps_ackAlarm (s : State) (l : Link) (b : List Byte) : Keeps s (s.ackAlarm l b).1 := by
  unfold State.ackAlarm
  dsimp only
  split
  · exact keeps_acknowledge s _ _
  · split
    · exact .refl s
    · split
      · exact keeps_acknowledge s _ _
      · exact .refl s

/-- A request that changes at most what the invariants do not read. -/
theorem keeps_request_aside (s : State) (l : Link) (code : Byte) (ok need : Bool) (work : State → State × Reply)
    (h : ∀ u, Keeps u (work u).1) : Keeps s (s.request l code ok need work) := keeps_request s l code ok need work fun u _ => h u

theorem keeps_plain (i : Instr) (s t : State) (plain : plainCommand i = true) (h : exec i s = .next t) : Keeps s t := by
  cases i
  case hold | start | unknownRequest | byteReceived => cases plain
  case sample ch counts => exact keeps_sample s ch counts h
  case floatChange f a => exact keeps_floatChange s f a h
  all_goals cases h
  case checkTimerExpiry ch =>
    show Keeps s (match s.chan ch with
      | none => s
      | some r => s.onExpiry r.checkTimer 10 fun s => s.setChan ch { r with checkTimer := none, pairFirst := none })
    split
    · exact .refl s
    · exact keeps_onExpiry_of s _ _ _ fun u => keeps_setChan u ch _
  case disagreeTimerExpiry => exact keeps_onExpiry_of s _ _ _ keeps_endDisagreement
  case floatCheckTimerExpiry =>
    exact keeps_onExpiry_of s _ _ _ fun u => (keeps_lvu u _).trans (keeps_setCondition _ _ _)
  case minRunExpiry p =>
    exact keeps_onExpiry_of s _ _ _ fun u => (keeps_modDuty u p (fun d => { d with minRun := none }) (fun _ => rfl) fun _ => rfl).reform
  case minOffExpiry p =>
    exact keeps_onExpiry_of s _ _ _ fun u => (keeps_modDuty u p (fun d => { d with minOff := none }) (fun _ => rfl) fun _ => rfl).reform
  case startHistoryAgeOut p =>
    refine keeps_live s _ fun _ => ?_
    split
    · rename_i rest _
      exact ((keeps_reach s _).trans (keeps_modDuty _ p (fun d => { d with history := rest }) (fun _ => rfl) fun _ => rfl)).reform
    · exact .refl s
  case rampStep p =>
    refine keeps_live s _ fun _ => ?_
    split
    · exact (keeps_reach s _).trans (keeps_modDuty _ p _ (fun _ => rfl) fun _ => rfl)
    · exact .refl s
  case speedRefPeriodEnd p => exact keeps_live s _ fun _ => .when _ fun _ => keeps_modDuty s p _ (fun _ => rfl) fun _ => rfl
  case pumpCommand l b => exact keeps_request s l _ _ _ _ fun u seat => keeps_pumpCommand u l b (seat rfl)
  case setRotation l b => exact keeps_request_aside s l _ _ _ _ fun u => keeps_setRotation u b
  case spacingTimerExpiry => exact keeps_onExpiry_of s _ _ _ keeps_endSpacing
  case hoaChange p c a =>
    exact keeps_onChange s _ a _ _ (by cases c <;> rfl) (by cases c <;> rfl) fun u => keeps_modeMoved u s p
  case runFbChange p a =>
    refine keeps_onChange s _ a _ _ rfl rfl fun u => .when _ fun _ => Keeps.reform ?_
    exact .choose _ (fun _ => keeps_feedbackOn u p) fun _ => keeps_feedbackOff u p
  case overtempChange p a => exact keeps_onChange s _ a _ _ rfl rfl fun u => .when _ fun _ => keeps_overtempMoved u p a
  case sealLeakChange p a => exact keeps_onChange s _ a _ _ rfl rfl fun u => .when _ fun _ => (only_sealMoved u p a).keeps (by decide)
  case sealTimerExpiry p =>
    exact keeps_onExpiry_of s _ _ _ fun u => (keeps_modProt u p _).trans (keeps_setCondition _ _ _)
  case faultTimerExpiry p c => exact keeps_onExpiry_of s _ _ _ fun u => keeps_trip u p c
  case undercurrentArm p =>
    exact keeps_onExpiry_of s _ _ _ fun u => (keeps_modProt u p _).trans (keeps_judgeFaults _ _)
  case restTimerExpiry p => exact keeps_onExpiry_of s _ _ _ fun u => keeps_endRest u p
  case forgiveTimerExpiry p => exact keeps_onExpiry_of s _ _ _ fun u => (only_forgive u p).keeps (by decide)
  case stopWatchExpiry p => exact keeps_onExpiry_of s _ _ _ fun u => keeps_setWatch u p _
  case uncommandedWatchExpiry p => exact keeps_onExpiry_of s _ _ _ fun u => keeps_setWatch u p _
  case clearLockout l b => exact keeps_request_aside s l _ _ _ _ fun u => keeps_clearLockout u l b
  case intervalTimerExpiry sc => exact keeps_onExpiry_of s _ _ _ fun u => keeps_endInterval u sc
  case rakeRequest l b => exact keeps_request_aside s l _ _ _ _ fun u => keeps_rakeRequest u b
  case rakeHomeChange sc a => exact keeps_onChange s _ a _ _ rfl rfl fun u => keeps_homeMoved u sc a
  case homeLeaveTimerExpiry sc => exact keeps_onExpiry_of s _ _ _ fun u => keeps_failAndFire u sc _
  case cycleTimerExpiry sc => exact keeps_onExpiry_of s _ _ _ fun u => keeps_failAndFire u sc _
  case rakeTorqueChange sc a => exact keeps_onChange s _ a _ _ rfl rfl fun u => keeps_torque u sc a
  case rakeThermalChange sc a =>
    exact keeps_onChange s _ a _ _ rfl rfl fun u => .when _ fun _ => keeps_failAndFire u sc _
  case reverseTimerExpiry sc =>
    refine keeps_onExpiry s _ _ _ fun u only runs => keeps_endBackoff u sc ?_
    rw [State.screenTimer, only .scr (by decide)]
    exact runs
  case rakeReset l b => exact keeps_request_aside s l _ _ _ _ fun u => keeps_rakeReset u b
  case blindingTimerExpiry =>
    refine keeps_live s _ fun _ => ?_
    split
    · exact ((keeps_reach s _).trans (keeps_setBlinded _ _)).reform
    · exact .refl s
  case confirmTimerExpiry pt => exact keeps_onExpiry_of s _ _ _ fun u => ((only_openEpisode u pt).keeps (by decide)).reform
  case endTimerExpiry pt => exact keeps_onExpiry_of s _ _ _ fun u => ((only_endNormally u pt).keeps (by decide)).reform
  case levelLossTimerExpiry pt => exact keeps_onExpiry_of s _ _ _ fun u => ((only_endLost u pt).keeps (by decide)).reform
  case accrualSecond =>
    refine keeps_live s _ fun _ => ?_
    have begun := (keeps_reach s (seconds (s.fbl.seconds + 1))).trans
      (keeps_modFbl _ fun b => { b with seconds := b.seconds + 1 })
    have backup := fun u : State => Keeps.when (u.lvu.floatBackup = true) fun _ => keeps_credit u (·.addBackup)
    have accrued := ((begun.trans (backup _)).trans ((only_creditRuns _).keeps (by decide))).trans (Keeps.each (fun t pt => (only_accrue t pt).keeps (by decide)) No2.all _)
    exact accrued.trans ((only_balancePart _).keeps (by decide))
  case flowPulse =>
    refine keeps_live s _ fun _ => ?_
    exact ((keeps_modFbl s _).trans ((only_pulseSilence _).keeps (by decide))).trans ((only_addPumped _ _).keeps (by decide))
  case meterRateTimeout =>
    refine keeps_live s _ fun _ => ?_
    split
    · exact (keeps_reach s _).trans (keeps_modFbl _ _)
    · exact .refl s
  case silenceTimerExpiry => exact keeps_onExpiry_of s _ _ _ fun u => (only_endSilence u).keeps (by decide)
  case intervalClose =>
    refine keeps_live s _ fun _ => ?_
    have begun := (keeps_reach s (seconds ((s.fbl.closes + 1) * 10))).trans
      (keeps_modFbl _ fun b => { b with closes := b.closes + 1 })
    exact (begun.trans (.when _ fun _ => ((only_balanceSecond _).keeps (by decide)).trans (keeps_modFbl _ _))).trans
      ((only_closeInterval _).keeps (by decide))
  case ackAlarm l b => exact keeps_request_aside s l _ _ _ _ fun u => keeps_ackAlarm u l b
  case ackIn a => exact keeps_onChange s _ a _ _ rfl rfl fun u => .when _ fun _ => keeps_acknowledge u _ _
  case readAlarms l b =>
    refine keeps_request_aside s l _ _ _ _ fun u => ?_
    split <;> exact .refl u
  case readChanges l b => exact keeps_request_aside s l _ _ _ _ fun u => (only_alm u _).keeps (by decide)
  case readEvents l b =>
    refine keeps_request_aside s l _ _ _ _ fun u => ?_
    split <;> exact .refl u
  case releaseEvents l b =>
    refine keeps_request_aside s l _ _ _ _ fun u => ?_
    split
    · exact .refl u
    · exact keeps_modSrc u _
  case clockSecond =>
    show Keeps s (match s.src.clock with
      | some r => s.clockTick r
      | none => s)
    split
    · exact keeps_clockTick s _
    · exact .refl s
  case setClock l b =>
    refine keeps_request_aside s l _ _ _ _ fun u => ?_
    split
    · exact keeps_setClock u l _
    · exact .refl u
  case gapTimerExpiry l =>
    refine keeps_live s _ fun _ => ?_
    split
    · exact (keeps_reach s _).trans (keeps_modLink _ l _)
    · exact .refl s
  case frameDiscarded l => exact keeps_live s _ fun _ => keeps_modLink s l _
  case answerSent l =>
    refine keeps_live s _ fun _ => ?_
    split
    · exact (keeps_reach s _).trans (keeps_modLink _ l _)
    · exact .refl s
  case claimSeat l b => exact keeps_request_aside s l _ _ _ _ fun u => keeps_claimSeat u l
  case releaseSeat l b => exact keeps_request_aside s l _ _ _ _ fun u => keeps_releaseSeat u l
  case holdTimerExpiry =>
    refine keeps_onExpiry s _ _ _ fun u only runs => keeps_endHold u ?_
    rw [only .lnk (by decide)]
    exact runs
  case localKeyChange a => exact keeps_onChange_of s _ a _ _ fun _ moved => keeps_keyMoved s a moved
  case writeSetting l b => exact keeps_request_aside s l _ _ _ _ fun u => keeps_writeSetting u b
  case writeTable l b => exact keeps_request_aside s l _ _ _ _ fun u => keeps_writeTable u l b
  case writeTableEnd l => exact keeps_live s _ fun _ => .each keeps_endWrite _ s
  case saveSettings l b => exact keeps_request_aside s l _ _ _ _ fun u => keeps_saveSettings u l
  case saveEnd =>
    refine keeps_live s _ fun _ => ?_
    split
    · exact keeps_endSave s _
    · exact .refl s
  case readSetting l b =>
    refine keeps_request_aside s l _ _ _ _ fun u => ?_
    split <;> exact .refl u
  case readTable l b =>
    refine keeps_request_aside s l _ _ _ _ fun u => ?_
    split <;> exact .refl u
  case onGeneratorChange a => exact keeps_onChange s _ a _ _ rfl rfl fun u => keeps_generatorMoved u a
  case backupSupplyLoss => exact (only_marker s _).keeps (by decide)
  all_goals exact keeps_read s _ _ _ _

theorem keeps_takeFrame (l : Link) (code : Byte) (b : List Byte) (s t : State) (h : takeFrame l code b s = .next t) : Keeps s t := by
  rcases takeFrame_cases l code b s with ⟨i, plain, e⟩ | e
  · exact keeps_plain i s t plain (e ▸ h)
  · rw [e] at h
    cases h
    exact keeps_request_aside s l _ _ _ _ .refl

theorem keeps_exec (i : Instr) (s t : State) (hold : i ≠ .hold) (start : i ≠ .start) (h : exec i s = .next t) : Keeps s t := by
  cases plain : plainCommand i with
  | true => exact keeps_plain i s t plain h
  | false =>
    cases i
    case hold => exact absurd rfl hold
    case start => exact absurd rfl start
    case unknownRequest l code b => exact keeps_takeFrame l code b s t h
    case byteReceived l b =>
      cases h
      refine keeps_live s _ fun _ => ?_
      have taken : Keeps s (s.takeByte l b) := keeps_modLink s l _
      dsimp only
      split
      · rename_i code got _
        obtain ⟨u, next⟩ := takeFrame_next l code got (s.takeByte l b)
        rw [next]
        exact taken.trans (keeps_takeFrame l code got _ u next)
      · exact taken
    all_goals cases plain

/-! ### Holds and starts -/

theorem State.hold_isHeld (s : State) : s.hold.isHeld = true := by
  unfold State.hold
  split
  · assumption
  · rfl

theorem requestsOk_hold {s : State} (ok : RequestsOk s) : RequestsOk s.hold := by
  unfold State.hold
  split
  · exact ok
  · exact ⟨ok.pumps, ok.screens, ok.reverse, ok.forward, ok.installed⟩

theorem State.startUp_hold (s : State) : s.startUp = s.hold.startUp := by
  have again : s.hold.hold = s.hold := by rw [State.hold, if_pos s.hold_isHeld]
  rw [State.startUp, State.startUp, again]

theorem State.restart_screens (s : State) (sc : Screen) :
    s.restart.scr.screens.get sc =
      if s.restart.screenIn sc then some (.atStart (if s.restart.img.screen.rakeIntervalMin = 0 then none else some 0)) else none := by
  have installed : s.restart.screenIn sc = decide (sc.toNat ≤ (s.cfg.stored.getD .defaults).units.screensInstalled) := rfl
  rw [installed]
  cases sc <;> simp only [decide_eq_true_eq] <;> rfl

/-- Every pump is at its start: STOPPED and with no override. -/
theorem Started.pump {s u : State} (h : Started s u) (p : Pump) : u.runState p = .stopped ∧ u.overrideOf p = none := by
  have pumps : u.dsq.pumps = s.restart.dsq.pumps := congrArg (·.pumps) h.duty
  simp only [State.runState, State.overrideOf, pumps]
  cases p <;> exact ⟨rfl, rfl⟩

theorem requestsOk_startUp (s : State) (held : s.isHeld = true) : RequestsOk s.startUp := by
  have only := (started_startUp s held).only
  have none : ∀ w, s.startUp.requestOf w = none := fun w => (State.requestOf_congr (only .spm (by decide)) w).trans rfl
  have cfg : ∀ sc, s.startUp.screenIn sc = s.restart.screenIn sc := State.screenIn_congr (only .cfg (by decide))
  refine (requestsOk_iff _).mpr ⟨fun p _ => none _, fun sc => ⟨fun _ => none _, fun r here => ?_, fun out => ?_⟩⟩
  · rw [only .scr (by decide), s.restart_screens] at here
    split at here
    · cases here
      exact ScreenRec.Still.timersOk ⟨rfl, rfl, rfl⟩
    · cases here
  · rw [only .scr (by decide), s.restart_screens, ← cfg, out, if_neg Bool.false_ne_true]

theorem seatOk_startUp (s : State) (held : s.isHeld = true) : SeatOk s.startUp := by
  have started := started_startUp s held
  have lnk : s.startUp.lnk = .atStart s.inputs.localKey := started.only .lnk (by decide)
  have inputs : s.startUp.inputs = s.inputs := started.only .inputs (by decide)
  refine ⟨fun on => ?_, fun p o here => ?_, fun on => ?_⟩
  · rw [inputs] at on
    rw [lnk, LinkInterface.atStart, on]
    exact ⟨rfl, rfl⟩
  · cases (started.pump p).2.symm.trans here
  · rw [lnk] at on
    cases on

/-! ### The step -/

theorem keeps_tick (s : State) : Keeps s s.tick := by
  unfold State.tick
  split
  · exact (only_pending s _).keeps (by decide)
  · exact (only_elapse s 1).keeps (by decide)

/-- A command keeps the invariants, holds the controller, or starts it. -/
theorem exec_cases (c : Instr) (s t : State) (h : exec c s = .next t) : Keeps s t ∨ t = s.hold ∨ t = s.hold.startUp := by
  by_cases hold : c = .hold
  · subst hold
    exact .inr (.inl (Host.Outcome.next.inj h).symm)
  by_cases start : c = .start
  · subst start
    exact .inr (.inr ((Host.Outcome.next.inj h).symm.trans s.startUp_hold))
  · exact .inl (keeps_exec c s t hold start h)

/-- A step keeps the invariants, holds the controller, or starts it. -/
theorem step_cases (s t : State) (h : step s = .next t) :
    Keeps s t ∨ ∃ rest, t = ({ s with pending := rest } : State).hold ∨ t = ({ s with pending := rest } : State).hold.startUp := by
  unfold step at h
  split at h
  · rename_i c rest _
    have taken : Keeps s { s with pending := rest } :=
      ((only_pending s _).keeps (by decide))
    exact (exec_cases c _ t h).imp taken.trans fun e => ⟨rest, e⟩
  · cases h
    exact .inl (keeps_tick s)

/-- Settles O55: a command keeps the agreement, a hold leaves no running state, and a start re-establishes it. -/
theorem seatKept : Obligations.SeatKept := by
  intro s t ok h run
  rcases step_cases s t h with k | ⟨rest, rfl | rfl⟩
  · exact k.seat (k.held.symm.trans run) (ok (k.held.symm.trans run))
  · rw [State.hold_isHeld] at run
    cases run
  · exact seatOk_startUp _ (State.hold_isHeld _)

/-- Settles O58: a command keeps both invariants, a hold the requests, and after a start every pump is STOPPED. -/
theorem dryRunKept : Obligations.DryRunKept := by
  intro s t requests dry h
  rcases step_cases s t h with k | ⟨rest, rfl | rfl⟩
  · exact ⟨k.requests requests, fun run =>
      k.dry (k.held.symm.trans run) requests (dry (k.held.symm.trans run))⟩
  · refine ⟨requestsOk_hold ⟨requests.pumps, requests.screens, requests.reverse, requests.forward, requests.installed⟩, fun run => ?_⟩
    rw [State.hold_isHeld] at run
    cases run
  · have held := ({ s with pending := rest } : State).hold_isHeld
    exact ⟨requestsOk_startUp _ held, fun _ _ p => ((started_startUp _ held).pump p).1⟩

end Sys2Proof.Machine
end

section
/-! Ramp steps and the duty in force of a drive (R49, R50): O9. -/

namespace Sys2Proof.Machine

theorem rampToward_eq (r goal by_ : Nat) :
    rampToward r goal by_ =
      if r < goal then min (r + by_) goal else if goal < r then max (r - by_) goal else r := by
  unfold rampToward
  by_cases up : r < goal
  · rw [if_pos up, if_pos up]
  · rw [if_neg up, if_neg up]
    split <;> omega

/-- The duty of a reference is rounded half up (R50). -/
theorem dutyOf_rounds (r : Nat) : dutyOf r * 200 ≤ r * 255 * 2 + 100 ∧ r * 255 * 2 + 100 < (dutyOf r + 1) * 200 := by
  unfold dutyOf
  omega

theorem othersKept_modify {α : Type} (q : Quad α) (p : No4) (f : α → α) : OthersKept p q (q.modify p f) :=
  fun _ other => Quad.get_modify_ne _ _ other

/-- Settles O9: each command changes one pump's record, and that by one equation. -/
theorem driveSpeed : Obligations.DriveSpeed := by
  refine ⟨fun s p t0 run ramps => ⟨_, rfl, ?_⟩, fun s p run => ⟨_, rfl, fun driven => ?_, fun undriven => ?_⟩,
    fun r _ => dutyOf_rounds r⟩
  · rw [s.live_running _ run, ramps]
    dsimp only
    refine ⟨?_, othersKept_modify _ _ _, rfl, only_modDuty _ _ _⟩
    rw [← rampToward_eq]
    exact Quad.get_modify_self _ _ _
  · rw [s.live_running _ run, if_pos driven]
    exact ⟨Quad.get_modify_self _ _ _, othersKept_modify _ _ _, only_modDuty _ _ _⟩
  · rw [s.live_running _ run, if_neg (by simp [undriven])]

end Sys2Proof.Machine
end

section
/-! A selector change and the moves of the duty event that follows it (R23, R24, R64, R81, R82, R85): O13. -/

namespace Sys2Proof.Machine

/-! ### Moves without a grant -/

section
variable {asks : Bool} {s t : State}

/-- A permit that is OPEN at the end was OPEN all along, so that no grant came (R61). -/
theorem DutyMoves.keeps_ungranted {P : State → Prop} (h : DutyMoves asks s t) (opened : t.spm.permit = .opened)
    (step : ∀ a b, DutyMove asks a b → b.spm.permit = .opened → P a → P b) (k : P s) : P t := by
  induction h with
  | refl => exact k
  | tail _ move ih =>
    rename_i b c _
    refine step b c move opened (ih ?_)
    cases before : b.spm.permit with
    | opened => rfl
    | spacing =>
      have after := congrArg (·.permit) ((DutyMoves.of move).spacing before)
      rw [opened, before] at after
      cases after

/-- A move is one of those that need no formation, a request, or a grant. -/
theorem DutyMove.split (h : DutyMove asks s t) :
    DutyMove false s t ∨ (∃ q ∈ s.dsq.queue, t = (s.setRun q .waiting).join (.pump q)) ∨
      ∃ r ∈ s.ranked, t = (s.recordGrant r.who).grantTo r.who := by
  cases h with
  | drop _ q on => exact .inl (.drop s q on)
  | unwait _ q off => exact .inl (.unwait s q off)
  | uncommand _ q => exact .inl (.uncommand s q)
  | queue _ q same => exact .inl (.queue s q same)
  | runSet _ m c => exact .inl (.runSet s m c)
  | ask _ q queued => exact .inr (.inl ⟨q, queued, rfl⟩)
  | grant _ r ranked _ => exact .inr (.inr ⟨r, ranked, rfl⟩)

/-- A move that leaves the permit OPEN is no grant. -/
theorem DutyMove.ungranted (h : DutyMove asks s t) (opened : t.spm.permit = .opened) :
    DutyMove false s t ∨ ∃ q ∈ s.dsq.queue, t = (s.setRun q .waiting).join (.pump q) := by
  rcases h.split with m | m | ⟨r, _, rfl⟩
  · exact .inl m
  · exact .inr m
  · rw [only_grantTo (s.recordGrant r.who) r.who .spm (by decide)] at opened
    cases opened

/-- Without a grant a pump that is not commanded stays so, its watch and RUN_MISMATCH as they were. -/
theorem DutyMoves.off_of_opened (h : DutyMoves asks s t) (opened : t.spm.permit = .opened) {p : Pump} (off : s.runCmd p = false) :
    t.runCmd p = false ∧ (t.ppr.get p).watch = (s.ppr.get p).watch ∧
      t.point (.pump p .runMismatch) = s.point (.pump p .runMismatch) := by
  refine h.keeps_ungranted (P := fun u => u.runCmd p = false ∧ (u.ppr.get p).watch = (s.ppr.get p).watch ∧
      u.point (.pump p .runMismatch) = s.point (.pump p .runMismatch)) opened ?_ ⟨off, rfl, rfl⟩
  rintro a b move open_b ⟨off, watch, point⟩
  rcases move.ungranted open_b with m | ⟨q, _, rfl⟩
  · obtain ⟨off', watch', point'⟩ := (DutyMoves.of m).off (p := p) (fun e => by cases e) off
    exact ⟨off', watch'.trans watch, point'.trans point⟩
  · refine ⟨?_, ?_, (points_setRun (A := ∅) a q _ _ (by simp)).trans point⟩
    · by_cases e : p = q
      · rw [e, State.runCmd]
        exact congrArg RunState.commanded (a.runState_setRun_self q .waiting)
      · exact (congrArg RunState.commanded (a.runState_setRun_ne _ e)).trans off
    · exact (congrArg (fun x : Quad ProtectedPump => (x.get p).watch) (a.setRun_ppr q _)).trans watch

/-- Where the permit ends as it began, no grant that the moves made reached a pump that had no command. -/
theorem DutyMoves.off_of_permit (h : DutyMoves asks s t) (same : t.spm.permit = s.spm.permit) {p : Pump} (off : s.runCmd p = false) :
    t.runCmd p = false ∧ (t.ppr.get p).watch = (s.ppr.get p).watch ∧
      t.point (.pump p .runMismatch) = s.point (.pump p .runMismatch) := by
  cases before : s.spm.permit with
  | spacing => exact h.off (fun _ => .inl before) off
  | opened => exact h.off_of_opened (same.trans before) off

/-- No move places an override. -/
theorem DutyMoves.override_none (h : DutyMoves asks s t) {p : Pump} (gone : s.overrideOf p = none) : t.overrideOf p = none :=
  h.keeps (P := fun u => u.overrideOf p = none) (fun _ _ m k => (m.override p).elim (·.trans k) id) gone

end

/-! ### A leaver's override -/

theorem State.leaveQueue_override (s : State) (p : Pump) : (s.leaveQueue p).overrideOf p = none := by
  have gone : (s.setOverride p none).overrideOf p = none := (s.overrideOf_setOverride p p none).trans (if_pos rfl)
  unfold State.leaveQueue
  dsimp only
  split
  · exact ((s.setOverride p none).overrideOf_setRun p p _).trans gone
  · exact ((s.setOverride p none).overrideOf_dropPump p p).trans gone
  · exact ((s.setOverride p none).overrideOf_dropPump p p).trans gone
  · exact gone

theorem State.leaveAll_override (xs : List Pump) (p : Pump) (s : State) (h : p ∈ xs ∨ s.overrideOf p = none) :
    (s.each xs State.leaveQueue).overrideOf p = none := by
  induction xs generalizing s with
  | nil => exact h.resolve_left (by simp)
  | cons q rest ih =>
    refine ih _ ?_
    by_cases e : p = q
    · subst e
      exact .inr (s.leaveQueue_override p)
    · refine h.imp (fun m => (List.mem_cons.mp m).resolve_left e) fun gone => ?_
      exact (moves_leaveQueue (asks := false) s q).override_none gone

/-- The override of a pump that leaves the queue is cancelled (R24). -/
theorem dutyEvent_leaver_override (s : State) (n : Nat) {p : Pump} (queued : p ∈ s.dsq.queue) (out : s.member p = false) :
    (s.dutyEvent n).overrideOf p = none := by
  have left : s.leavers.overrideOf p = none :=
    State.leaveAll_override _ p s (.inl (List.mem_filter.mpr ⟨queued, by rw [out]; rfl⟩))
  have set : DutyMoves true s.leavers (s.leavers.setQueue s.leavers.members) := .of (.queue _ _ (.inr (mem_requeued _)))
  exact ((set.trans (moves_alternate _ n)).trans (moves_reform _)).override_none left

/-! ### The mode -/

theorem modeOf_injective {a h a' h' : Bool} (e : modeOf a h = modeOf a' h') : a = a' ∧ h = h' := by
  revert a h a' h'
  decide

theorem State.mode_of_in (s : State) (p : Pump) (installed : s.pumpIn p = true) :
    s.mode p = some (modeOf (s.inputs.hoaAuto.get p) (s.inputs.hoaHand.get p)) := by
  rw [State.mode, if_pos installed]

/-- A contact that changes changes the mode. -/
theorem State.mode_setHoa (s : State) (p : Pump) (c : HoaContact) (a : Bool) (installed : s.pumpIn p = true)
    (moved : s.inputs.getHoa p c = !a) : ({ s with inputs := s.inputs.setHoa p c a } : State).mode p ≠ s.mode p := by
  intro e
  have after := State.mode_of_in { s with inputs := s.inputs.setHoa p c a } p installed
  obtain ⟨auto, hand⟩ := modeOf_injective (Option.some.inj (after.symm.trans (e.trans (s.mode_of_in p installed))))
  cases c with
  | auto =>
    have set : a = s.inputs.hoaAuto.get p := (Quad.get_set_self _ _ _).symm.trans auto
    rw [show s.inputs.hoaAuto.get p = !a from moved] at set
    cases a <;> cases set
  | hand =>
    have set : a = s.inputs.hoaHand.get p := (Quad.get_set_self _ _ _).symm.trans hand
    rw [show s.inputs.hoaHand.get p = !a from moved] at set
    cases a <;> cases set

/-- The state of a mode change before its duty event. -/
def State.modeJudged (s : State) (p : Pump) : State :=
  ((s.report .pumps).setCondition (.pump p .switchFault) (s.mode p == some .switchFault)).watchMode p

theorem only_watchMode (s : State) (p : Pump) : OnlyIn [.ppr, .alm] s (s.watchMode p) :=
  .choose _ (.when _ (only_setWatch s p _)) (only_setWatch s p _)

theorem only_modeJudged (s : State) (p : Pump) : OnlyIn [.ppr, .alm] s (s.modeJudged p) :=
  (((only_report s _).mono (by decide)).trans ((only_setCondition _ _ _).mono (by decide))).trans (only_watchMode _ p)

theorem State.modeMoved_of_moved (s old : State) (p : Pump) (moved : s.mode p ≠ old.mode p) :
    s.modeMoved old p = (s.modeJudged p).dutyEvent old.autoCommanded := by
  rw [State.modeMoved, if_neg moved]
  rfl

theorem State.condition_setWatch_ne (s : State) (p : Pump) (w : Watch) {a : AlarmPoint} (h : a ≠ .pump p .runMismatch) :
    (s.setWatch p w).condition a = s.condition a :=
  (points_setWatch s p w).condition (by simpa using h)

theorem State.watch_setWatch (s : State) (p : Pump) (w : Watch) : ((s.setWatch p w).ppr.get p).watch = w := by
  rw [State.setWatch_ppr, Quad.get_modify_self]

theorem State.condition_watchMode_ne (s : State) (p : Pump) {a : AlarmPoint} (h : a ≠ .pump p .runMismatch) :
    (s.watchMode p).condition a = s.condition a := by
  unfold State.watchMode
  split
  · split
    · exact s.condition_setWatch_ne p _ h
    · rfl
  · exact s.condition_setWatch_ne p _ h

theorem State.modeJudged_switchFault (s : State) (p : Pump) :
    (s.modeJudged p).condition (.pump p .switchFault) = (s.mode p == some .switchFault) :=
  (State.condition_watchMode_ne _ p (by simp)).trans (State.condition_setCondition_self _ _ _)

/-- The watch that a mode change leaves: NONE outside AUTO, begun in AUTO with feedback and no command (R81, R82). -/
theorem State.modeJudged_watch (s : State) (p : Pump) :
    (s.inAuto p = false → ((s.modeJudged p).ppr.get p).watch = .idle) ∧
    (s.inAuto p = true → s.runFb p = true → s.runCmd p = false →
      ((s.modeJudged p).ppr.get p).watch = .uncommanded (some s.uptime) ∧
        (s.modeJudged p).condition (.pump p .runMismatch) = false) := by
  unfold State.modeJudged
  have only : OnlyIn [.alm] s ((s.report .pumps).setCondition (.pump p .switchFault) (s.mode p == some .switchFault)) :=
    (only_report s _).trans (only_setCondition _ _ _)
  generalize (s.report .pumps).setCondition (.pump p .switchFault) (s.mode p == some .switchFault) = u at only
  have auto : u.inAuto p = s.inAuto p := State.inAuto_congr (only .inputs (by decide)) (only .cfg (by decide)) p
  have fb : u.runFb p = s.runFb p := by rw [State.runFb, only .inputs (by decide), State.runFb]
  have cmd : u.runCmd p = s.runCmd p := by rw [State.runCmd, State.runState, only .dsq (by decide), State.runCmd, State.runState]
  refine ⟨fun out => ?_, fun inn fed off => ?_⟩
  · rw [State.watchMode, if_neg (by simp [auto, out])]
    exact u.watch_setWatch p _
  · rw [State.watchMode, if_pos (auto.trans inn), if_pos (by simp [fb, fed, cmd, off]), show u.uptime = s.uptime from only .uptime (by decide)]
    exact ⟨u.watch_setWatch p _, State.condition_setCondition_self _ _ _⟩

theorem State.modeJudged_watched (s : State) (p q : Pump) :
    ((s.modeJudged p).ppr.get q).protection = (s.ppr.get q).protection := by
  have kept : ∀ (u : State) w, ((u.setWatch p w).ppr.get q).protection = (u.ppr.get q).protection := fun u w => by
    rw [State.setWatch_ppr]
    by_cases e : q = p
    · rw [e, Quad.get_modify_self]
    · rw [Quad.get_modify_ne _ _ e]
  have only : OnlyIn [.alm] s ((s.report .pumps).setCondition (.pump p .switchFault) (s.mode p == some .switchFault)) :=
    (only_report s _).trans (only_setCondition _ _ _)
  unfold State.modeJudged
  rw [← show _ = s.ppr from only .ppr (by decide)]
  unfold State.watchMode
  split
  · split
    · exact kept _ _
    · rfl
  · exact kept _ _

/-- What a change of an installed pump's mode leaves after its duty event, the contacts having moved. -/
theorem modeMoved_installed (u : State) (p : Pump) (n : Nat) :
    let t := (u.modeJudged p).dutyEvent n
    t.condition (.pump p .switchFault) = decide (t.mode p = some .switchFault) ∧
    (t.inAuto p = false →
      t.dsq.queue.contains p = false ∧ (t.ppr.get p).watch = .idle ∧
      (u.dsq.queue.contains p = true → t.runState p = .stopped ∧ (t.dsq.pumps.get p).override = none)) ∧
    (t.inAuto p = true → (u.ppr.get p).protection.watched = true → t.dsq.queue.contains p = true) ∧
    (t.inAuto p = true → u.runFb p = true → u.runCmd p = false → t.spm.permit = u.spm.permit →
      (t.ppr.get p).watch = .uncommanded (some u.uptime) ∧ t.condition (.pump p .runMismatch) = false) := by
  intro t
  have judged := only_modeJudged u p
  have moves : DutyMoves true (u.modeJudged p) t := moves_dutyEvent _ n
  have inputs : t.inputs = u.inputs := (moves.only .inputs (by decide)).trans (judged .inputs (by decide))
  have cfg : t.cfg = u.cfg := (moves.only .cfg (by decide)).trans (judged .cfg (by decide))
  have auto : t.inAuto p = u.inAuto p := State.inAuto_congr inputs cfg p
  have autoJudged : (u.modeJudged p).inAuto p = u.inAuto p :=
    State.inAuto_congr (judged .inputs (by decide)) (judged .cfg (by decide)) p
  have member : (u.modeJudged p).member p = (u.inAuto p && (u.ppr.get p).protection.watched) := by
    rw [State.member, autoJudged, u.modeJudged_watched]
  obtain ⟨idle, begun⟩ := u.modeJudged_watch p
  refine ⟨?_, fun out => ?_, fun inn watched => ?_, fun inn fed off same => ?_⟩
  · rw [moves.condition fun q => by simp, u.modeJudged_switchFault, State.mode_congr inputs cfg]
    exact beq_eq_decide _ _
  · rw [auto] at out
    have gone : (u.modeJudged p).member p = false := by rw [member, out, Bool.false_and]
    refine ⟨(contains_queue_dutyEvent _ n p).trans gone, ?_, fun queued => ?_⟩
    · exact (dutyEvent_outside_auto _ n (autoJudged.trans out)).1.trans (idle out)
    · have queued : p ∈ (u.modeJudged p).dsq.queue := by
        rw [judged .dsq (by decide)]
        exact List.contains_iff_mem.mp queued
      exact ⟨dutyEvent_leaver _ n queued gone, dutyEvent_leaver_override _ n queued gone⟩
  · rw [contains_queue_dutyEvent, member, ← auto, inn, watched, Bool.and_self]
  · rw [auto] at inn
    obtain ⟨watch, present⟩ := begun inn fed off
    have offJudged : (u.modeJudged p).runCmd p = false := by
      rw [State.runCmd, State.runState, judged .dsq (by decide)]
      exact off
    obtain ⟨_, watch', point⟩ := moves.off_of_permit (same.trans (by rw [judged .spm (by decide)])) offJudged
    exact ⟨watch'.trans watch, (congrArg (fun e : PointEntry => e.state.present) point).trans present⟩

/-- Settles O13: the changed contacts give a new mode, whose duty event is judged by what its moves keep. -/
theorem hoaChange : Obligations.HoaChange := by
  intro s p c a run moved
  refine ⟨_, rfl, ?_⟩
  rw [s.onChange_running _ _ (by rw [moved]; cases a <;> decide) run]
  set u : State := { s with inputs := s.inputs.setHoa p c a } with u_eq
  have pinned : OnlyIn [.inputs] s u := only_inputs s _
  by_cases installed : s.pumpIn p = true
  · rw [State.modeMoved_of_moved u s p (s.mode_setHoa p c a installed moved)]
    have all : OnlyIn [.dsq, .spm, .ppr, .scr, .fbl, .alm, .src] u ((u.modeJudged p).dutyEvent s.autoCommanded) :=
      ((only_modeJudged u p).mono (by decide)).trans ((only_dutyEvent _ _).mono (by decide))
    obtain ⟨fault, out, inn, watch⟩ := modeMoved_installed u p s.autoCommanded
    refine ⟨all .inputs (by decide), fun none => absurd none (by simp [installed]), fun _ => ⟨fault, out, inn, ?_⟩,
      (pinned.mono (by decide)).trans (all.mono (by decide))⟩
    exact fun _ auto fed off same => watch auto (by cases c <;> exact fed) off same
  · have none : ∀ v : State, v.cfg = s.cfg → v.mode p = none := fun v cfg => by
      refine mode_of_out v p ?_
      rw [State.pumpIn, State.img, cfg]
      exact Bool.eq_false_iff.mpr installed
    have same : u.modeMoved s p = u := by rw [State.modeMoved, if_pos ((none u rfl).trans (none s rfl).symm)]
    rw [same]
    exact ⟨rfl, fun _ => pinned, fun inn => absurd inn installed, pinned.mono (by decide)⟩

end Sys2Proof.Machine
end

section
/-! Run feedback, and the fault timers that follow the conditions (R60, R65 to R71, R81, R82): O12. -/

namespace Sys2Proof.Machine

/-! ### A judgement of the conditions -/

theorem FaultTimers.anyRuns_eq (t : FaultTimers) : t.anyRuns = false ↔ t = .allStopped := by
  obtain ⟨a, b, c, d, e⟩ := t
  simp [FaultTimers.anyRuns, FaultTimers.allStopped, FaultCond.all, FaultTimers.get]

theorem State.faultTimersNow_get (s : State) (p : Pump) (c : FaultCond) :
    (s.faultTimersNow p).get c =
      if s.faultPresent p c then some (((s.ppr.get p).faults.get c).getD s.uptime) else none := by
  have now : (s.faultTimersNow p).get c = s.faultTimerNow p c := by cases c <;> rfl
  rw [now, State.faultTimerNow]
  cases (s.ppr.get p).faults.get c <;> rfl

/-- What a judgement makes of a watched pump (R65, R66). -/
def State.judgedPump (s : State) (p : Pump) : ProtectedPump :=
  { s.ppr.get p with
    faults := s.faultTimersNow p
    protection := if s.faultTimersNow p = .allStopped then .healthy else .alert }

theorem State.judgeFaults_watched (s : State) (p : Pump) (installed : s.pumpIn p = true)
    (watched : (s.ppr.get p).protection.watched = true) : (s.judgeFaults p).ppr.get p = s.judgedPump p := by
  have state : (if (s.faultTimersNow p).anyRuns then Protection.alert else .healthy) =
      if s.faultTimersNow p = .allStopped then .healthy else .alert := by
    by_cases stopped : s.faultTimersNow p = .allStopped
    · rw [if_pos stopped, (FaultTimers.anyRuns_eq _).mpr stopped, if_neg Bool.false_ne_true]
    · have runs : (s.faultTimersNow p).anyRuns = true := by
        by_contra still
        exact stopped ((FaultTimers.anyRuns_eq _).mp (Bool.eq_false_iff.mpr still))
      rw [if_neg stopped, runs, if_pos rfl]
  rw [State.judgeFaults_ppr, if_pos (by rw [installed, watched, Bool.and_self]), Quad.get_modify_self, state]
  rfl

theorem State.judgeFaults_unwatched (s : State) (p : Pump)
    (out : s.pumpIn p = false ∨ (s.ppr.get p).protection.watched = false) : s.judgeFaults p = s := by
  rw [State.judgeFaults]
  exact if_neg (by rcases out with h | h <;> simp [h])

/-- A judged timer runs exactly while its condition is present, from the moment it began. -/
theorem State.judgedPump_timer (s : State) (p : Pump) (c : FaultCond) :
    (s.judgedPump p).faults.get c =
      if s.faultPresent p c then some (((s.ppr.get p).faults.get c).getD s.uptime) else none := s.faultTimersNow_get p c

theorem State.faultPresent_overcurrent (s : State) (p : Pump) :
    s.faultPresent p .overcurrent =
      (s.runState p == .running && (s.current p).any fun v => decide (s.img.prot.ocLimit.get p < v)) := by
  rw [State.faultPresent]
  cases s.current p <;> rfl

theorem State.faultPresent_undercurrent (s : State) (p : Pump) :
    s.faultPresent p .undercurrent =
      (s.runState p == .running && (s.ppr.get p).armed && (s.current p).any fun v => decide (v < s.img.prot.ucLimit.get p)) := by
  rw [State.faultPresent]
  cases s.current p <;> rfl

/-- A judgement leaves what is no fault timer and no protection state. -/
theorem State.runningSince_judgeFaults (s : State) (p : Pump) :
    ((s.judgeFaults p).ppr.get p).runningSince = (s.ppr.get p).runningSince := by
  by_cases watched : s.pumpIn p = true ∧ (s.ppr.get p).protection.watched = true
  · rw [s.judgeFaults_watched p watched.1 watched.2]
    rfl
  · rw [s.judgeFaults_unwatched p]
    by_contra both
    rw [not_or, Bool.not_eq_false, Bool.not_eq_false] at both
    exact watched both

theorem State.startConfirm_runningSince (s : State) (p : Pump) :
    ((s.startConfirm p).ppr.get p).runningSince = some s.uptime := by
  rw [State.startConfirm_eq, State.runningSince_judgeFaults]
  exact congrArg ProtectedPump.runningSince (Quad.get_modify_self _ _ _)

theorem State.startConfirm_runState (s : State) (p : Pump) : (s.startConfirm p).runState p = .running := by
  rw [State.runState, State.startConfirm_dsq]
  exact congrArg DutyPump.run (Quad.get_modify_self _ _ _)

/-! ### The watch of a pump without feedback -/

/-- A pump without feedback has no watch and no RUN_MISMATCH (R81, R82). -/
def Unwatched (p : Pump) (s : State) : Prop := (s.ppr.get p).watch = .idle ∧ s.condition (.pump p .runMismatch) = false

theorem unwatched_setWatch_idle (s : State) (p : Pump) : Unwatched p (s.setWatch p .idle) :=
  ⟨s.watch_setWatch p _, State.condition_setCondition_self _ _ _⟩

theorem Unwatched.of_same {p : Pump} {s t : State} (h : Unwatched p s) (watch : (t.ppr.get p).watch = (s.ppr.get p).watch)
    (point : t.point (.pump p .runMismatch) = s.point (.pump p .runMismatch)) : Unwatched p t :=
  ⟨watch.trans h.1, (congrArg (fun e : PointEntry => e.state.present) point).trans h.2⟩

theorem unwatched_dropPump {s : State} {p : Pump} (fed : s.runFb p = false) (h : Unwatched p s) : Unwatched p (s.dropPump p) := by
  have fb : (s.cutPump p).runFb p = false := by rw [State.runFb, only_cutPump s p .inputs (by decide)]; exact fed
  rw [State.dropPump_eq, if_neg (by simp [fb])]
  exact h.of_same ((State.judgeFaults_watch _ p p).trans (s.cutPump_watch p p))
    (((points_cutPump (A := ∅) s p).trans (points_judgeFaults _ _)) _ (by simp))

/-- The start that a grant gives ends the watch (R81). -/
theorem unwatched_grantPump (s : State) (p : Pump) : Unwatched p (s.grantPump p) := by
  have begun : Unwatched p (s.commandPump p) := unwatched_setWatch_idle _ p
  rw [State.grantPump_eq]
  split
  · refine begun.of_same ?_ (points_startConfirm (A := ∅) _ p _ (by simp))
    rw [State.startConfirm_eq, State.judgeFaults_watch]
    refine (congrArg ProtectedPump.watch (Quad.get_modify_self _ _ _)).trans ?_
    rw [State.setRun_ppr]
  · exact begun.of_same (State.judgeFaults_watch _ p p) (points_judgeFaults (A := ∅) _ p _ (by simp))

theorem DutyMove.unwatched {asks : Bool} {s t : State} (m : DutyMove asks s t) {p : Pump} (fed : s.runFb p = false)
    (h : Unwatched p s) : Unwatched p t := by
  rcases m.split with m | ⟨q, _, rfl⟩ | ⟨r, _, rfl⟩
  · rcases m.watch (p := p) (fun e => by cases e) with ⟨_, rfl⟩ | ⟨watch, point⟩
    · exact unwatched_dropPump fed h
    · exact h.of_same watch point
  · exact h.of_same (congrArg (fun x : Quad ProtectedPump => (x.get p).watch) (s.setRun_ppr q _))
      (points_setRun (A := ∅) s q _ _ (by simp))
  · by_cases mine : r.who = .pump p
    · rw [mine]
      exact unwatched_grantPump _ p
    · obtain ⟨_, ppr, point⟩ := (s.recordGrant r.who).grantTo_other mine
      exact h.of_same (by rw [ppr]; rfl) point

theorem DutyMoves.unwatched {asks : Bool} {s t : State} (m : DutyMoves asks s t) {p : Pump} (fed : s.runFb p = false)
    (h : Unwatched p s) : Unwatched p t :=
  (m.keeps (P := fun u => u.runFb p = false ∧ Unwatched p u)
    (fun _ _ m ⟨fed, h⟩ => ⟨by rw [State.runFb, m.only .inputs (by decide)]; exact fed, m.unwatched fed h⟩) ⟨fed, h⟩).2

/-! ### Feedback -/

/-- The state with the feedback of a pump at a level. -/
def State.fed (s : State) (p : Pump) (a : Bool) : State := { s with inputs := { s.inputs with runFb := s.inputs.runFb.set p a } }

theorem State.fed_runFb (s : State) (p : Pump) (a : Bool) : (s.fed p a).runFb p = a := Quad.get_set_self _ _ _

theorem only_fed (s : State) (p : Pump) (a : Bool) : OnlyIn [.inputs] s (s.fed p a) := only_inputs s _

/-- A feedback that changes is judged, and the run set formed, where the pump is installed (R24, R82). -/
theorem exec_runFbChange (s : State) (p : Pump) (a : Bool) (run : s.isHeld = false) (moved : s.runFb p = !a) :
    exec (.runFbChange p a) s =
      .next (if s.pumpIn p then (if a then (s.fed p a).feedbackOn p else (s.fed p a).feedbackOff p).reform else s.fed p a) := by
  refine congrArg Host.Outcome.next (s.onChange_running _ _ ?_ run)
  rw [show s.inputs.runFb.get p = !a from moved]
  cases a <;> decide

/-- An outside start of a pump, with the watch that AUTO begins (R60, R82). -/
def State.outsideSeen (s : State) (p : Pump) : State :=
  if (s.outsideStart p).inAuto p then (s.outsideStart p).setWatch p (.uncommanded (some s.uptime)) else s.outsideStart p

theorem State.feedbackOn_off (s : State) (p : Pump) (off : s.runCmd p = false) : s.feedbackOn p = s.outsideSeen p := by
  cases run : s.runState p <;> simp only [State.feedbackOn, run]
  case starting | running =>
    rw [State.runCmd, run] at off
    cases off
  all_goals rfl

theorem State.feedbackOn_starting (s : State) (p : Pump) (starting : s.runState p = .starting) :
    s.feedbackOn p = s.startConfirm p := by
  simp only [State.feedbackOn, starting]

theorem State.feedbackOn_running (s : State) (p : Pump) (running : s.runState p = .running) :
    s.feedbackOn p = s.judgeFaults p := by
  simp only [State.feedbackOn, running]

theorem only_outsideSeen (s : State) (p : Pump) : OnlyIn [.spm, .ppr, .alm] s (s.outsideSeen p) := by
  have seen : OnlyIn [.spm, .ppr, .alm] s (s.outsideStart p) := (only_outsideStart s p).mono (by decide)
  exact .choose _ (seen.trans ((only_setWatch _ p _).mono (by decide))) seen

theorem State.outsideSeen_spm (s : State) (p : Pump) : (s.outsideSeen p).spm = (s.outsideStart p).spm := by
  unfold State.outsideSeen
  split
  · exact only_setWatch _ p _ .spm (by decide)
  · rfl

theorem State.outsideSeen_watch (s : State) (p : Pump) (auto : s.inAuto p = true) :
    ((s.outsideSeen p).ppr.get p).watch = .uncommanded (some s.uptime) := by
  rw [State.outsideSeen, if_pos (show (s.outsideStart p).inAuto p = true from auto)]
  exact State.watch_setWatch _ p _

/-- After an outside start the permit is in SPACING, so that the formation makes no grant (R60). -/
theorem outsideSeen_formed (s : State) (p : Pump) (off : s.runCmd p = false) :
    let t := (s.outsideSeen p).reform
    t.spm.permit = .spacing ∧ t.spm.spacingStart = s.uptime ∧ t.spm.lastOutside = some (p, s.uptime) ∧
    t.spm.lastGrant = s.spm.lastGrant ∧
    (s.inAuto p = true → (t.ppr.get p).watch = .uncommanded (some s.uptime)) ∧
    OnlyIn [.dsq, .spm, .ppr, .scr, .fbl, .alm, .src] s t := by
  intro t
  have moves : DutyMoves true (s.outsideSeen p) t := moves_reform _
  have spacing : (s.outsideSeen p).spm.permit = .spacing := by rw [State.outsideSeen_spm]; rfl
  have spm := moves.spacing spacing
  rw [State.outsideSeen_spm] at spm
  have offSeen : (s.outsideSeen p).runCmd p = false := by
    rw [State.runCmd, State.runState, only_outsideSeen s p .dsq (by decide)]
    exact off
  refine ⟨by rw [spm]; rfl, by rw [spm]; rfl, by rw [spm]; rfl, by rw [spm]; rfl, fun auto => ?_,
    ((only_outsideSeen s p).mono (by decide)).trans (only_reform _)⟩
  exact (moves.off (fun _ => .inl spacing) offSeen).2.1.trans (s.outsideSeen_watch p auto)

theorem State.feedbackOff_on (s : State) (p : Pump) (on : s.runCmd p = true) : s.feedbackOff p = s.judgeFaults p := if_pos on

theorem State.feedbackOff_off (s : State) (p : Pump) (off : s.runCmd p = false) : s.feedbackOff p = s.setWatch p .idle :=
  if_neg (by simp [off])

/-- RUN_LOST of a RUNNING pump follows its feedback (R68). -/
theorem State.runLost_judgeFaults (s : State) (p : Pump) (installed : s.pumpIn p = true)
    (watched : (s.ppr.get p).protection.watched = true) (running : s.runState p = .running) :
    ((s.judgeFaults p).ppr.get p).faults.runLost =
      if s.runFb p then none else some ((s.ppr.get p).faults.runLost.getD s.uptime) := by
  rw [s.judgeFaults_watched p installed watched, show (s.judgedPump p).faults.runLost = (s.judgedPump p).faults.get .runLost from rfl,
    s.judgedPump_timer, State.faultPresent, running]
  cases s.runFb p <;> rfl

/-- A pump with a fault timer is in ALERT (R65). -/
theorem State.alert_judgeFaults (s : State) (p : Pump) (installed : s.pumpIn p = true)
    (watched : (s.ppr.get p).protection.watched = true) {c : FaultCond} {t : Nat}
    (runs : ((s.judgeFaults p).ppr.get p).faults.get c = some t) : ((s.judgeFaults p).ppr.get p).protection = .alert := by
  rw [s.judgeFaults_watched p installed watched] at runs ⊢
  refine if_neg fun stopped => ?_
  rw [show (s.judgedPump p).faults = .allStopped from stopped] at runs
  cases c <;> cases runs

/-! ### The current of a pump -/

/-- A sample that moves the current of a pump has its conditions judged (R70, R71). -/
theorem exec_sample_current (s : State) (p : Pump) (counts : BitVec 12) (run : s.isHeld = false) :
    ∃ t, exec (.sample (.cur p) counts) s = .next t ∧
      (t.level (.cur p) ≠ s.level (.cur p) → ∃ v, OnlyIn [.lvu, .alm] s v ∧ t = v.judgeFaults p) := by
  have live : ∀ f, s.live f = f s := fun f => s.live_running f run
  set scanned : State := { s with lvu := { s.lvu with scanNext := Channel.following (.cur p) } } with scanned_eq
  have begun : OnlyIn [.lvu] s scanned := only_lvu s _
  have blind : ∀ u : State, u.seeRescaled (.cur p) = u := fun u => rfl
  cases here : scanned.chan (.cur p) with
  | none =>
    refine ⟨scanned, ?_, fun moved => absurd rfl moved⟩
    refine congrArg Host.Outcome.next ((live _).trans ?_)
    dsimp only
    rw [← scanned_eq, here]
  | some r =>
    let sampled := scanned.setChan (.cur p)
      (r.sample scanned.img.level.initLimit scanned.uptime (scanned.img.classify (.cur p) counts.toNat))
    have all : OnlyIn [.lvu] s sampled := begun.trans (only_setChan _ _ _)
    refine ⟨sampled.channelMoved scanned (.cur p), ?_, fun moved => ?_⟩
    · refine congrArg Host.Outcome.next ((live _).trans ?_)
      dsimp only
      rw [← scanned_eq, here]
      dsimp only
      rw [blind, ite_self]
    · rw [State.channelMoved_eq] at moved ⊢
      split at moved
      · rename_i same
        exact absurd same.2 moved
      · rename_i other
        rw [if_neg other]
        exact ⟨_, (all.mono (by decide)).trans ((only_channelTold sampled scanned (.cur p)).mono (by decide)), rfl⟩

theorem State.level_congr {s t : State} (h : t.lvu = s.lvu) (ch : Channel) : t.level ch = s.level ch := by
  cases s; cases t; cases h; rfl

/-- The current's two timers after such a sample, of a RUNNING pump that is watched. -/
theorem current_judged (s v : State) (p : Pump) (only : OnlyIn [.lvu, .alm] s v) (installed : s.pumpIn p = true)
    (watched : (s.ppr.get p).protection.watched = true) (running : s.runState p = .running) :
    let r := s.ppr.get p
    let m := s.img.prot
    let t := v.judgeFaults p
    let q := t.ppr.get p
    (∀ x, t.level (.cur p) = some x →
      q.faults.overcurrent = (if m.ocLimit.get p < x then some (r.faults.overcurrent.getD s.uptime) else none) ∧
      q.faults.undercurrent =
        (if r.armed = true ∧ x < m.ucLimit.get p then some (r.faults.undercurrent.getD s.uptime) else none)) ∧
    (t.level (.cur p) = none → q.faults.overcurrent = none ∧ q.faults.undercurrent = none) ∧
    q.protection = (if q.faults = .allStopped then .healthy else .alert) ∧
    OthersKept p s.ppr t.ppr ∧ OnlyIn [.lvu, .ppr, .alm] s t := by
  intro r m t q
  have ppr : v.ppr = s.ppr := only .ppr (by decide)
  have cfg : v.cfg = s.cfg := only .cfg (by decide)
  have time : v.uptime = s.uptime := only .uptime (by decide)
  have level : t.level (.cur p) = v.current p := State.level_congr (only_judgeFaults v p .lvu (by decide)) _
  have runs : v.runState p = .running := by
    rw [State.runState, only .dsq (by decide)]
    exact running
  have judged : q = v.judgedPump p :=
    v.judgeFaults_watched p (by rw [State.pumpIn, State.img, cfg]; exact installed) (by rw [ppr]; exact watched)
  have above : q.faults.overcurrent =
      if (v.current p).any fun x => decide (m.ocLimit.get p < x) then some (r.faults.overcurrent.getD s.uptime) else none := by
    rw [judged, show (v.judgedPump p).faults.overcurrent = (v.judgedPump p).faults.get .overcurrent from rfl, v.judgedPump_timer,
      v.faultPresent_overcurrent, runs, time, ppr, State.img, cfg]
    rfl
  have below : q.faults.undercurrent =
      if r.armed && (v.current p).any fun x => decide (x < m.ucLimit.get p) then some (r.faults.undercurrent.getD s.uptime)
      else none := by
    rw [judged, show (v.judgedPump p).faults.undercurrent = (v.judgedPump p).faults.get .undercurrent from rfl, v.judgedPump_timer,
      v.faultPresent_undercurrent, runs, time, ppr, State.img, cfg]
    rfl
  refine ⟨fun x here => ?_, fun none => ?_, by rw [judged]; rfl, fun i other => ?_,
    (only.mono (by decide)).trans ((only_judgeFaults v p).mono (by decide))⟩
  · rw [level] at here
    rw [above, below, here]
    exact ⟨by simp, by simp⟩
  · rw [level] at none
    rw [above, below, none]
    exact ⟨by simp, by simp⟩
  · rw [v.judgeFaults_ppr_ne other, ppr]

/-- What a judgement makes of any pump (R65 to R71). -/
theorem judgeFaults_follows (s : State) (p : Pump) :
    let r := s.ppr.get p
    let m := s.img.prot
    let u := s.judgeFaults p
    let q := u.ppr.get p
    let follows (c : FaultCond) (present : Bool) : Prop :=
      q.faults.get c = if present then some ((r.faults.get c).getD s.uptime) else none
    (s.pumpIn p = true → r.protection.watched = true →
      follows .failToStart (s.runState p == .starting && !s.runFb p) ∧
      follows .runLost (s.runState p == .running && !s.runFb p) ∧
      follows .overtemp (s.inputs.overtemp.get p) ∧
      follows .overcurrent
        (s.runState p == .running && (s.current p).any fun v => decide (m.ocLimit.get p < v)) ∧
      follows .undercurrent
        (s.runState p == .running && r.armed && (s.current p).any fun v => decide (v < m.ucLimit.get p)) ∧
      q.protection = (if q.faults = .allStopped then .healthy else .alert) ∧
      q = { r with faults := q.faults, protection := q.protection }) ∧
    ((s.pumpIn p = false ∨ r.protection.watched = false) → u = s) ∧
    OthersKept p s.ppr u.ppr ∧ OnlyIn [.ppr, .alm] s u := by
  intro r m u q follows
  refine ⟨fun installed watched => ?_, s.judgeFaults_unwatched p, fun i other => s.judgeFaults_ppr_ne other, only_judgeFaults s p⟩
  have judged : q = s.judgedPump p := s.judgeFaults_watched p installed watched
  have timer : ∀ c, follows c (s.faultPresent p c) := fun c => by
    show q.faults.get c = _
    rw [judged, s.judgedPump_timer]
  refine ⟨timer .failToStart, timer .runLost, timer .overtemp, ?_, ?_, by rw [judged]; rfl, by rw [judged]; rfl⟩
  · rw [← s.faultPresent_overcurrent]
    exact timer _
  · rw [← s.faultPresent_undercurrent]
    exact timer _

/-- Settles O12: feedback is judged by the run state it meets, and each judgement pump by pump and timer by timer. -/
theorem runFeedback : Obligations.RunFeedback := by
  intro s p run r m pin
  refine ⟨fun installed low off => ?_, fun installed low starting => ?_, fun installed low running => ?_,
    fun installed high => ?_, fun out a moved => ?_, judgeFaults_follows s p, fun installed watched running counts => ?_⟩
  · refine ⟨_, exec_runFbChange s p true run low, ?_⟩
    rw [if_pos installed, if_pos rfl, (s.fed p true).feedbackOn_off p off]
    obtain ⟨permit, start, outside, grant, watch, only⟩ := outsideSeen_formed (s.fed p true) p off
    exact ⟨permit, start, outside, grant, watch, only .inputs (by decide), ((only_fed s p true).mono (by decide)).trans (only.mono (by decide))⟩
  · refine ⟨_, exec_runFbChange s p true run low, ?_⟩
    rw [if_pos installed, if_pos rfl, (s.fed p true).feedbackOn_starting p starting]
    exact ⟨rfl, State.startConfirm_runState _ p, State.startConfirm_runningSince _ p⟩
  · refine ⟨_, exec_runFbChange s p true run low, ?_⟩
    rw [if_pos installed, if_pos rfl, (s.fed p true).feedbackOn_running p running]
    refine ⟨rfl, State.runningSince_judgeFaults _ p, fun watched => ?_⟩
    exact ((s.fed p true).runLost_judgeFaults p installed watched running).trans (if_pos (s.fed_runFb p true))
  · refine ⟨_, exec_runFbChange s p false run high, ?_⟩
    rw [if_pos installed, if_neg Bool.false_ne_true]
    refine ⟨fun on => ?_, fun off => ?_⟩
    · rw [(s.fed p false).feedbackOff_on p on]
      refine ⟨rfl, fun running watched => ?_⟩
      have lost := ((s.fed p false).runLost_judgeFaults p installed watched running).trans
        (if_neg (by rw [s.fed_runFb]; exact Bool.false_ne_true))
      exact ⟨lost, (s.fed p false).alert_judgeFaults p installed watched (c := .runLost) lost⟩
    · rw [(s.fed p false).feedbackOff_off p off]
      refine (moves_reform _).unwatched ?_ (unwatched_setWatch_idle _ p)
      rw [State.runFb, only_setWatch _ p _ .inputs (by decide)]
      exact s.fed_runFb p false
  · refine ⟨_, exec_runFbChange s p a run moved, ?_⟩
    rw [if_neg (by simp [out])]
    exact ⟨rfl, only_fed s p a⟩
  · obtain ⟨t, step, judged⟩ := exec_sample_current s p counts run
    refine ⟨t, step, fun moved => ?_⟩
    obtain ⟨v, only, rfl⟩ := judged moved
    exact current_judged s v p only installed watched running

end Sys2Proof.Machine
end

section
/-! What a grant makes of its requester, and when one comes (R28, R32, R49, R55, R57, R58, R61, R67, R81, R93, R98): O18. -/

namespace Sys2Proof.Machine

/-! ### The granted pump -/

theorem State.grantPump_duty (s : State) (p : Pump) :
    (s.grantPump p).dsq.pumps.get p =
      (s.dsq.pumps.get p).granted (s.runFb p) (s.img.drive p) s.uptime s.img.duty := by
  rw [State.grantPump_granted]
  exact Quad.get_modify_self _ _ _

theorem addStartEntry_short {h : List Nat} (t : Nat) (room : h.length < 16) : addStartEntry h t = h ++ [t] := by
  rw [addStartEntry, if_neg (by omega)]

theorem addStartEntry_full {h : List Nat} (t : Nat) (full : 16 ≤ h.length) : addStartEntry h t = h.tail ++ [t] := by
  rw [addStartEntry, if_pos full, List.drop_one]

/-- The start's part of a granted pump, whether it has a drive or not (R28, R32). -/
theorem DutyPump.granted_start (d : DutyPump) (feedback drive : Bool) (now : Nat) (m : DutySettings) :
    let g := d.granted feedback drive now m
    g.startTime = some now ∧ g.history = addStartEntry d.history (now / 1000) ∧
      g.minRun = (if m.minRunS = 0 then none else some now) ∧ g.minOff = none := by
  cases drive <;> exact ⟨rfl, rfl, rfl, rfl⟩

/-- The speed reference's part (R49). -/
theorem DutyPump.granted_reference (d : DutyPump) (feedback : Bool) (now : Nat) (m : DutySettings) :
    let driven := d.granted feedback true now m
    let direct := d.granted feedback false now m
    (driven.speedRef = m.minSpeed ∧ driven.pendingDuty = (m.minSpeed * 255 + 50) / 100 ∧ driven.rampNext = some (now + 1000)) ∧
      (direct.speedRef = d.speedRef ∧ direct.pendingDuty = d.pendingDuty ∧ direct.rampNext = d.rampNext) :=
  ⟨⟨rfl, rfl, rfl⟩, rfl, rfl, rfl⟩

theorem DutyPump.granted_inForce (d : DutyPump) (feedback drive : Bool) (now : Nat) (m : DutySettings) :
    (d.granted feedback drive now m).dutyInForce = d.dutyInForce ∧ (d.granted feedback drive now m).refInForce = d.refInForce := by
  cases drive <;> exact ⟨rfl, rfl⟩

theorem State.commandPump_src (s : State) (p : Pump) :
    (s.commandPump p).src = { s.src with acc := s.src.acc.addStart p } := by
  refine (only_setWatch _ _ _ .src (by decide)).trans ?_
  rw [State.credit_src, show ∀ f, ((s.modDuty p f).setRun p .starting).src = s.src from
    fun f => only_setRun _ _ _ .src (by decide)]

/-- A grant credits one start. -/
theorem State.grantPump_acc (s : State) (p : Pump) : (s.grantPump p).src.acc = s.src.acc.addStart p := by
  rw [State.grantPump_eq]
  split
  · rw [only_startConfirm _ _ .src (by decide), State.commandPump_src]
  · rw [only_judgeFaults _ _ .src (by decide), State.commandPump_src]

theorem State.commandPump_runFb (s : State) (p : Pump) : (s.commandPump p).runFb p = s.runFb p := by
  simp only [State.runFb, show (s.commandPump p).inputs = s.inputs from only_commandPump s p .inputs (by decide)]

theorem State.commandPump_runState (s : State) (p : Pump) : (s.commandPump p).runState p = .starting := by
  rw [State.runState, State.commandPump_dsq]
  exact (congrArg DutyPump.run (Quad.get_modify_self _ _ _)).trans (DutyPump.granted_run _ _ _ _ _)

/-- A pump that has its feedback runs from the grant on (R28). -/
theorem State.grantPump_runningSince (s : State) (p : Pump) (fed : s.runFb p = true) :
    ((s.grantPump p).ppr.get p).runningSince = some s.uptime := by
  rw [State.grantPump_eq, s.commandPump_runFb, if_pos fed, State.startConfirm_runningSince,
    only_commandPump s p .uptime (by decide)]

/-- FAIL_TO_START of a watched pump runs from the grant on until its feedback (R67). -/
theorem State.grantPump_failToStart (s : State) (p : Pump) (unfed : s.runFb p = false) (installed : s.pumpIn p = true)
    (watched : (s.ppr.get p).protection.watched = true) :
    ((s.grantPump p).ppr.get p).faults.failToStart = some ((s.ppr.get p).faults.failToStart.getD s.uptime) := by
  have ppr : (s.commandPump p).ppr.get p = { s.ppr.get p with watch := .idle } := by
    rw [State.commandPump_ppr]
    exact Quad.get_modify_self _ _ _
  have begun : (s.commandPump p).faultPresent p .failToStart = true := by
    rw [State.faultPresent, State.commandPump_runState, s.commandPump_runFb, unfed]
    rfl
  rw [State.grantPump_eq, s.commandPump_runFb, unfed, if_neg Bool.false_ne_true,
    (s.commandPump p).judgeFaults_watched p ((State.pumpIn_congr (only_commandPump s p .inputs (by decide)) (only_commandPump s p .cfg (by decide)) p).trans installed)
      (by rw [ppr]; exact watched),
    show ((s.commandPump p).judgedPump p).faults.failToStart = ((s.commandPump p).judgedPump p).faults.get .failToStart from rfl,
    State.judgedPump_timer, if_pos begun, ppr, only_commandPump s p .uptime (by decide)]
  rfl

/-- What a grant makes of its pump (R28, R32, R49), and that it makes nothing of another. -/
theorem grantPump_effect (s : State) (p : Pump) :
    let t := s.grantPump p
    let old := s.dsq.pumps.get p
    let new := t.dsq.pumps.get p
    let m := s.img.duty
    new.run = (if s.runFb p then .running else .starting) ∧ new.startTime = some s.uptime ∧
    (old.history.length < 16 → new.history = old.history ++ [s.uptime / 1000]) ∧
    (16 ≤ old.history.length → new.history = old.history.tail ++ [s.uptime / 1000]) ∧
    new.minRun = (if m.minRunS = 0 then none else some s.uptime) ∧ new.minOff = none ∧ new.override = old.override ∧
    (s.img.drive p = true →
      new.speedRef = m.minSpeed ∧ new.pendingDuty = (m.minSpeed * 255 + 50) / 100 ∧ new.rampNext = some (s.uptime + 1000)) ∧
    (s.img.drive p = false →
      new.speedRef = old.speedRef ∧ new.pendingDuty = old.pendingDuty ∧ new.rampNext = old.rampNext) ∧
    new.dutyInForce = old.dutyInForce ∧ new.refInForce = old.refInForce ∧
    OthersKept p s.dsq.pumps t.dsq.pumps ∧ t.dsq = { s.dsq with pumps := t.dsq.pumps } := by
  intro t old new m
  have granted : new = old.granted (s.runFb p) (s.img.drive p) s.uptime m := s.grantPump_duty p
  obtain ⟨start, history, minRun, minOff⟩ := old.granted_start (s.runFb p) (s.img.drive p) s.uptime m
  obtain ⟨driven, direct⟩ := old.granted_reference (s.runFb p) s.uptime m
  obtain ⟨duty, ref⟩ := old.granted_inForce (s.runFb p) (s.img.drive p) s.uptime m
  rw [granted]
  refine ⟨old.granted_run _ _ _ _, start, fun room => history.trans (addStartEntry_short _ room),
    fun full => history.trans (addStartEntry_full _ full), minRun, minOff, old.granted_override _ _ _ _,
    fun drive => drive ▸ driven, fun drive => drive ▸ direct, duty, ref, ?_, ?_⟩
  · rw [show t.dsq = _ from s.grantPump_granted p]
    exact othersKept_modify _ _ _
  · rw [show t.dsq = _ from s.grantPump_granted p]

/-! ### What the formations of an event make of the permit -/

section
variable {asks : Bool} {s t : State}

/-- The moves leave the permit alone but for its list, or have made the one grant that OPEN gives, to a pump or to a screen that asked
(R58, R61). -/
theorem DutyMoves.permit (h : DutyMoves asks s t) :
    t.spm = { s.spm with waiting := t.spm.waiting } ∨
      s.spm.permit = .opened ∧ t.spm.permit = .spacing ∧ t.spm.spacingStart = s.uptime ∧
        t.spm.lastOutside = s.spm.lastOutside ∧
        ∃ who, t.spm.lastGrant = some (who, s.uptime) ∧ ∀ sc, who = .screen sc → s.requestOf (.screen sc) ≠ none := by
  induction h with
  | refl => exact .inl rfl
  | @tail a b moves move ih =>
    have moves : DutyMoves asks s a := moves
    rcases ih with kept | ⟨opened, closed, start, outside, who, grant, asked⟩
    · rcases move.inside_or_grant with ⟨_, inside, _⟩ | ⟨_, opened, r, ranked, rfl⟩
      · exact .inl (by rw [inside, kept])
      · have spm : ((a.recordGrant r.who).grantTo r.who).spm = (a.recordGrant r.who).spm :=
          only_grantTo _ r.who .spm (by decide)
        have time : a.uptime = s.uptime := moves.only .uptime (by decide)
        rw [spm]
        have outside := congrArg StartPermit.lastOutside kept
        refine .inr ⟨?_, rfl, time, outside, r.who, congrArg (fun n => some (r.who, n)) time, fun sc e gone => ?_⟩
        · rwa [kept] at opened
        · have none := (moves.screens sc gone).1
          rw [State.mem_ranked_screen ranked e] at none
          cases none
    · have still := (DutyMoves.of move).spacing closed
      rw [still]
      exact .inr ⟨opened, closed, start, outside, who, grant, asked⟩

end

/-- What an event without a request of its own leaves of a permit that stood OPEN with nothing waiting: as it was, or a pump's grant,
or a screen's with nothing left waiting. -/
inductive PermitMoved (s t : State) : Prop
  | idle (opened : t.spm.permit = .opened) (grant : t.spm.lastGrant = s.spm.lastGrant) (empty : t.spm.waiting = [])
  | pump (p : Pump) (closed : t.spm.permit = .spacing) (grant : t.spm.lastGrant = some (.pump p, s.uptime))
  | screen (sc : Screen) (closed : t.spm.permit = .spacing) (grant : t.spm.lastGrant = some (.screen sc, s.uptime))
      (empty : t.spm.waiting = [])

theorem PermitMoved.of_spm {s t u : State} (h : PermitMoved s t) (spm : u.spm = t.spm) : PermitMoved s u := by
  cases h with
  | idle opened grant empty => exact .idle (spm ▸ opened) (spm ▸ grant) (spm ▸ empty)
  | pump p closed grant => exact .pump p (spm ▸ closed) (spm ▸ grant)
  | screen sc closed grant empty => exact .screen sc (spm ▸ closed) (spm ▸ grant) (spm ▸ empty)

/-- In OPEN a formed state that no screen asks in has nothing waiting (R39, R55). -/
theorem reform_waiting_nil (s : State) (empty : s.spm.waiting = []) (opened : s.reform.spm.permit = .opened) :
    s.reform.spm.waiting = [] := by
  have unasked : ∀ w, s.requestOf w = none := fun w => by simp [State.requestOf, empty]
  refine List.eq_nil_iff_forall_not_mem.mpr fun r mem => ?_
  have asked : s.reform.requestOf r.who ≠ none := by
    rw [State.requestOf, ne_eq, List.find?_eq_none]
    exact fun all => all r mem (beq_self_eq_true _)
  cases who : r.who with
  | screen sc => exact asked (who ▸ ((moves_reform s).screens sc (unasked _)).1)
  | pump p =>
    rw [who] at asked
    have waits : s.reform.runState p = .waiting := by
      by_contra out
      exact asked ((moves_reform s).unasked (fun _ => unasked _) out)
    have queued : p ∈ s.reform.dsq.queue := by
      have member := (formed_reform s).mem_of_waiting waits
      rw [(formed_reform s).runSet] at member
      exact State.wanted_subset _ p (State.fit_subset _ _ member)
    obtain ⟨q, here⟩ := Option.ne_none_iff_exists'.mp asked
    have listed : q ∈ s.reform.waitingPumps := List.mem_filterMap.mpr ⟨p, queued, here⟩
    have none := State.reform_quiet s opened
    simp only [State.ranked, List.append_eq_nil_iff, List.filter_eq_nil_iff] at none
    obtain ⟨⟨forced, others⟩, _⟩ := none
    exact others q listed (by simpa using forced q listed)

/-- A formation that meets OPEN with nothing waiting leaves it so, or grants a pump that it asks for. -/
theorem reform_opened {s v : State} (spm : v.spm = s.spm) (time : v.uptime = s.uptime) (opened : s.spm.permit = .opened)
    (empty : s.spm.waiting = []) :
    (v.reform.spm.permit = .opened ∧ v.reform.spm.lastGrant = s.spm.lastGrant ∧ v.reform.spm.waiting = []) ∨
      v.reform.spm.permit = .spacing ∧ ∃ p, v.reform.spm.lastGrant = some (.pump p, s.uptime) := by
  have none : ∀ w, v.requestOf w = none := fun w => by simp [State.requestOf, spm, empty]
  rcases (moves_reform v).permit with kept | ⟨_, closed, _, _, who, grant, asked⟩
  · have still : v.reform.spm.permit = .opened := by rw [kept, spm, opened]
    exact .inl ⟨still, by rw [kept, spm], reform_waiting_nil v (by rw [spm, empty]) still⟩
  · cases who with
    | pump p => exact .inr ⟨closed, p, time ▸ grant⟩
    | screen sc => exact absurd (none _) (asked sc rfl)

theorem permitMoved_reform {s v : State} (spm : v.spm = s.spm) (time : v.uptime = s.uptime) (opened : s.spm.permit = .opened)
    (empty : s.spm.waiting = []) : PermitMoved s v.reform := by
  rcases reform_opened spm time opened empty with ⟨still, grant, none⟩ | ⟨closed, p, grant⟩
  · exact .idle still grant none
  · exact .pump p closed grant

/-! ### The differential trigger in OPEN -/

theorem fireUpTo_spacing (n : Nat) (s : State) (closed : s.spm.permit = .spacing) :
    (s.fireUpTo n).spm.permit = .spacing ∧ (s.fireUpTo n).spm.lastGrant = s.spm.lastGrant := by
  induction n generalizing s with
  | zero => exact ⟨closed, rfl⟩
  | succ n ih =>
    unfold State.fireUpTo
    split
    · split
      · rename_i sc _
        split
        · have spm := s.failScreen_spm sc .thermal
          obtain ⟨closed', grant⟩ := ih (s.failScreen sc .thermal) (by rw [spm]; exact closed)
          exact ⟨closed', grant.trans (by rw [spm]; rfl)⟩
        · rw [s.askScreen_spacing sc closed, State.join_spm, only_setRake s sc _ .spm (by decide)]
          exact ⟨closed, rfl⟩
      · exact ⟨closed, rfl⟩
    · exact ⟨closed, rfl⟩

/-- A trigger that meets OPEN with nothing waiting is granted at once (R55, R88). -/
theorem fireUpTo_opened (n : Nat) (s : State) (opened : s.spm.permit = .opened) (empty : s.spm.waiting = []) :
    (s.fireUpTo n).spm = s.spm ∨
      (s.fireUpTo n).spm.permit = .spacing ∧ (s.fireUpTo n).spm.waiting = [] ∧
        ∃ sc, (s.fireUpTo n).spm.lastGrant = some (.screen sc, s.uptime) := by
  induction n generalizing s with
  | zero => exact .inl rfl
  | succ n ih =>
    unfold State.fireUpTo
    split
    · split
      · rename_i sc _
        split
        · have spm : (s.failScreen sc .thermal).spm = s.spm := by
            rw [s.failScreen_spm, State.withdraw_spm, empty]
            exact congrArg (fun l => { s.spm with waiting := l }) empty.symm
          have time : (s.failScreen sc .thermal).uptime = s.uptime := (turn_failScreen s sc _).only .uptime (by decide)
          have h := ih (s.failScreen sc .thermal) (by rw [spm, opened]) (by rw [spm, empty])
          rwa [spm, time] at h
        · have spm : (s.setRake sc .waiting).spm = s.spm := only_setRake s sc _ .spm (by decide)
          have time : (s.setRake sc .waiting).uptime = s.uptime := only_setRake s sc _ .uptime (by decide)
          rw [s.askScreen_opened sc opened, only_grantScreen _ sc .spm (by decide)]
          refine .inr ⟨rfl, ?_, sc, congrArg (fun n => some (Requester.screen sc, n)) time⟩
          show List.filter _ (s.setRake sc .waiting).spm.waiting = []
          rw [spm, empty]
          rfl
      · exact .inl rfl
    · exact .inl rfl

theorem permitMoved_fire {s v : State} (spm : v.spm = s.spm) (time : v.uptime = s.uptime) (opened : s.spm.permit = .opened)
    (empty : s.spm.waiting = []) : PermitMoved s v.reform.fire := by
  have later : v.reform.uptime = s.uptime := ((moves_reform v).only .uptime (by decide)).trans time
  rcases reform_opened spm time opened empty with ⟨still, grant, none⟩ | ⟨closed, p, grant⟩
  · rcases fireUpTo_opened 2 v.reform still none with same | ⟨closed, none', sc, granted⟩
    · exact .idle (by rw [State.fire, same, still]) (by rw [State.fire, same, grant]) (by rw [State.fire, same, none])
    · exact .screen sc closed (later ▸ granted) none'
  · obtain ⟨closed', kept⟩ := fireUpTo_spacing 2 v.reform closed
    exact .pump p closed' (kept.trans grant)

/-! ### A sample in OPEN -/

section
variable {s : State} (opened : s.spm.permit = .opened) (empty : s.spm.waiting = [])
include opened empty

theorem permitMoved_same {v : State} (spm : v.spm = s.spm) : PermitMoved s v :=
  .idle (by rw [spm, opened]) (by rw [spm]) (by rw [spm, empty])

theorem permitMoved_diffMoved {v : State} (spm : v.spm = s.spm) (time : v.uptime = s.uptime) (high : Bool) :
    PermitMoved s (v.diffMoved high) := by
  have spm' : v.judgeBlinded.spm = s.spm := (only_judgeBlinded v .spm (by decide)).trans spm
  have time' : v.judgeBlinded.uptime = s.uptime := (only_judgeBlinded v .uptime (by decide)).trans time
  unfold State.diffMoved
  dsimp only
  split
  · exact permitMoved_fire spm' time' opened empty
  · exact permitMoved_reform spm' time' opened empty

theorem permitMoved_wellMoved {v : State} (spm : v.spm = s.spm) (time : v.uptime = s.uptime) (old : State) :
    PermitMoved s (v.wellMoved old) := by
  obtain ⟨a, b, told, followed, result⟩ := (v.judgeDisagreement.judgeLevelMode old).settleLevel_stages old
  have mode : OnlyIn [.lvu, .ovm, .dsq, .fbl, .alm, .src] v (v.judgeDisagreement.judgeLevelMode old) :=
    ((only_judgeDisagreement v).mono (by decide)).trans ((only_judgeLevelMode _ _).mono (by decide))
  have judged : OnlyIn [.lvu, .ovm, .dsq, .fbl, .alm, .src] v (v.judgeDisagreement.judgeLevelMode old).levelJudged :=
    mode.trans ((only_levelJudged _).mono (by decide))
  have before : OnlyIn [.lvu, .ovm, .dsq, .fbl, .alm, .src] v a := by
    rcases told with rfl | rfl
    · exact judged
    · exact judged.trans ((news_levelTold _).only.mono (by decide))
  have follow : OnlyIn [.lvu, .ovm, .dsq, .fbl, .alm, .src] v (a.followSource old.source) :=
    before.trans ((only_followSource a old.source).mono (by decide))
  have last : OnlyIn [.lvu, .ovm, .dsq, .fbl, .alm, .src] v b := by
    rcases followed with rfl | rfl
    · exact follow
    · exact follow.trans ((only_predict _).mono (by decide))
  rw [State.wellMoved, result]
  exact permitMoved_reform ((last .spm (by decide)).trans spm) ((last .uptime (by decide)).trans time) opened empty

theorem permitMoved_channelMoved {v : State} (spm : v.spm = s.spm) (time : v.uptime = s.uptime) (old : State) (ch : Channel) :
    PermitMoved s (v.channelMoved old ch) := by
  rw [State.channelMoved_eq]
  split
  · exact permitMoved_same opened empty spm
  have told := only_channelTold v old ch
  generalize v.channelTold old ch = u at told
  replace spm : u.spm = s.spm := (told .spm (by decide)).trans spm
  replace time : u.uptime = s.uptime := (told .uptime (by decide)).trans time
  cases ch with
  | wellPri => exact permitMoved_wellMoved opened empty spm time old
  | wellSec => exact permitMoved_wellMoved opened empty spm time old
  | inlet =>
    have judged : ∀ c : Bool, OnlyIn episodeParts u (if c then u.judgePoint .n2 else u) := fun c =>
      .when _ (moves_judgePoint u .n2).only
    exact permitMoved_diffMoved opened empty ((judged _ .spm (by decide)).trans spm) ((judged _ .uptime (by decide)).trans time) _
  | screenOut => exact permitMoved_diffMoved opened empty spm time _
  | cur p => exact permitMoved_same opened empty ((only_judgeFaults u p .spm (by decide)).trans spm)

theorem sample_permitMoved (ch : Channel) (counts : BitVec 12) (run : s.isHeld = false) :
    Gives (.sample ch counts) s (PermitMoved s) := by
  refine ⟨_, congrArg Host.Outcome.next (s.live_running _ run), ?_⟩
  dsimp only
  have scanned : OnlyIn [.lvu] s { s with lvu := { s.lvu with scanNext := Channel.following ch } } := only_lvu s _
  generalize ({ s with lvu := { s.lvu with scanNext := Channel.following ch } } : State) = u at scanned
  split
  · exact permitMoved_same opened empty (scanned .spm (by decide))
  · rename_i r _
    have moved : ∀ v, PermitMoved s ((u.setChan ch v).channelMoved u ch) := fun v =>
      have set := scanned.trans (only_setChan u ch v)
      permitMoved_channelMoved opened empty (set .spm (by decide)) (set .uptime (by decide)) u ch
    split
    · exact (moved _).of_spm (only_seeRescaled _ ch .spm (by decide))
    · exact moved _

end

/-- Settles O18: a grant reads off the granted record, the expiry's grant is the first in rank, and a sample's is of one formation and
one trigger. -/
theorem grantStartsItsRequester : Obligations.GrantStartsItsRequester := by
  refine ⟨fun s p => ?_, fun s sc r here => ?_, fun s who => ⟨rfl, only_recordGrant s who⟩, fun s r rest run closed first => ?_,
    fun s ch counts run opened empty => ?_⟩
  · obtain ⟨watch, mismatch⟩ := unwatched_grantPump s p
    obtain ⟨runs, start, room, full, minRun, minOff, override, drive, direct, duty, ref, others, dsq⟩ := grantPump_effect s p
    exact ⟨runs, start, room, full, minRun, minOff, override, drive, direct, duty, ref, others, dsq, watch, mismatch,
      s.grantPump_runningSince p, s.grantPump_failToStart p, fun _ other => s.grantPump_ppr_ne other,
      s.grantPump_acc p, s.grantPump_src p, only_grantPump s p⟩
  · refine ⟨?_, s.grantScreen_screens_ne (by cases sc <;> decide), s.grantScreen_blinded sc, only_grantScreen s sc⟩
    rw [s.grantScreen_record, here]
    rfl
  · have timer : s.spm.timer = some s.spm.spacingStart := by rw [StartPermit.timer, closed]
    refine ⟨_, congrArg Host.Outcome.next ?_, rfl⟩
    rw [timer, State.onExpiry_some _ _ _ _ run]
    exact State.endSpacing_of_cons _ r rest first
  · obtain ⟨t, step, moved⟩ := sample_permitMoved opened empty ch counts run
    refine ⟨t, step, ?_⟩
    cases moved with
    | idle _ grant _ => exact ⟨fun _ => grant, fun _ _ _ new => absurd grant new⟩
    | pump p closed grant =>
      exact ⟨fun open' => absurd (open'.symm.trans closed) (by decide), fun sc u here _ => by cases grant.symm.trans here⟩
    | screen sc closed grant none =>
      refine ⟨fun open' => absurd (open'.symm.trans closed) (by decide), fun x u here _ => ?_⟩
      cases grant.symm.trans here
      exact ⟨rfl, none⟩

end Sys2Proof.Machine
end

section
/-! The blinding timer's expiry and the change to and from the generator (R35, R38, R58 to R61, R101, R102, R192): O24. -/

namespace Sys2Proof.Machine

/-! ### A pump that a grant has just served -/

theorem State.eligible_of_wanted {s : State} {p : Pump} (h : p ∈ s.wanted) : s.eligible p = true := by
  unfold State.wanted at h
  split at h
  · simp at h
  · simp only [List.mem_append, List.mem_filter] at h
    rcases h with ⟨⟨_, ok⟩, _⟩ | h
    · exact ok
    · exact (List.mem_filter.mp (List.mem_filter.mp (List.mem_of_mem_take h)).1).2

/-- A pump that rests its min-off time is not eligible (R36). -/
theorem State.eligible_of_resting {s : State} {p : Pump} (off : s.runCmd p = false) (rests : (s.dsq.pumps.get p).minOff.isSome = true) :
    s.eligible p = false := by
  have timer : ((s.dsq.pumps.get p).minOff == none) = false := by
    cases e : (s.dsq.pumps.get p).minOff with
    | none => simp [e] at rests
    | some _ => rfl
  rw [State.eligible, off, timer]
  simp

/-- A pump in SPACING whose start stands in its history. -/
structure Begun (p : Pump) (history : List Nat) (s : State) : Prop where
  closed : s.spm.permit = .spacing
  kept : (s.dsq.pumps.get p).history = history

/-- A re-formation in SPACING leaves every start in its history. -/
theorem Begun.reform {p : Pump} {history : List Nat} {s : State} (h : Begun p history s) : Begun p history s.reform := by
  refine (forms_reform s).keeps (fun u q on k => ⟨?_, ?_⟩) (fun u k => ⟨(u.settled_permit).trans k.closed, ?_⟩)
    (fun u opened k => absurd (opened.symm.trans k.closed) (by decide)) h
  · rw [only_stopPump u q .spm (by decide)]
    exact k.closed
  · rw [State.stopPump_dsq, State.dropPump_dsq]
    by_cases e : p = q
    · subst e
      exact (congrArg DutyPump.history (Quad.get_modify_self _ _ _)).trans k.kept
    · exact (congrArg DutyPump.history (Quad.get_modify_ne _ _ e)).trans k.kept
  · rw [State.settled, State.settleRunSet_pumps]
    exact k.kept

/-- A pump that is commanded, or rests its min-off time, asks for no start. -/
structure Served (p : Pump) (s : State) : Prop where
  closed : s.spm.permit = .spacing
  minOff : s.img.duty.minOffS ≠ 0
  quiet : s.runState p ≠ .waiting
  rests : s.runCmd p = true ∨ (s.dsq.pumps.get p).minOff.isSome = true

theorem Served.stopPump {p q : Pump} {s : State} (h : Served p s) : Served p (s.stopPump q) := by
  have img : (s.stopPump q).img = s.img := by rw [State.img, State.img, only_stopPump s q .cfg (by decide)]
  refine ⟨by rw [only_stopPump s q .spm (by decide)]; exact h.closed, img ▸ h.minOff, ?_, ?_⟩
  · by_cases e : p = q
    · subst e
      rw [s.runState_stopPump_self]
      decide
    · rw [s.runState_stopPump_ne e]
      exact h.quiet
  · by_cases e : p = q
    · subst e
      refine .inr ?_
      rw [State.stopPump_dsq, State.dropPump_dsq, Quad.get_modify_self]
      simp [DutyPump.dropped, State.timer, h.minOff]
    · rw [State.runCmd, s.runState_stopPump_ne e, State.stopPump_dsq, State.dropPump_dsq, Quad.get_modify_ne _ _ e]
      exact h.rests

theorem Served.settled {p : Pump} {s : State} (h : Served p s) : Served p s.settled := by
  have run : s.settled.runState p = (s.runState p).settle ((s.fit s.wanted).contains p) := by
    rw [State.runState, State.settled, State.settleRunSet_pumps]
  have still : s.settled.runState p = s.runState p := by
    rw [run]
    cases on : s.runCmd p with
    | true => exact if_pos on
    | false =>
      have rests := h.rests.resolve_left (by simp [on])
      have out : p ∉ s.fit s.wanted := fun member =>
        Bool.false_ne_true ((State.eligible_of_resting on rests).symm.trans (State.eligible_of_wanted (s.fit_subset _ member)))
      have quiet := h.quiet
      rw [State.runCmd] at on
      cases e : s.runState p <;> simp_all [RunState.settle, RunState.commanded]
  have pump : s.settled.dsq.pumps.get p = { s.dsq.pumps.get p with run := s.settled.runState p } := by
    rw [run, State.settled, State.settleRunSet_pumps]
  have img : s.settled.img = s.img := by
    rw [State.img, State.img, State.settled, only_settleRunSet s _ .cfg (by decide)]
  refine ⟨s.settled_permit.trans h.closed, img ▸ h.minOff, still ▸ h.quiet, ?_⟩
  rw [State.runCmd, pump, still]
  exact h.rests

/-- With min_off_s above 0 a pump that a grant served does not ask again in the event, even where its command is stopped (R30, R36). -/
theorem Served.reform {p : Pump} {s : State} (h : Served p s) : Served p s.reform :=
  (forms_reform s).keeps (fun _ _ _ k => k.stopPump) (fun _ k => k.settled)
    (fun _ opened k => absurd (opened.symm.trans k.closed) (by decide)) h

/-! ### The blinding timer -/

theorem State.demand_blinded (s : State) (blinded : s.isBlinded = true) (shut : s.point1Open = false) :
    s.demand ≤ s.img.duty.blindedMaxPumps := by
  unfold State.demand
  simp only [blinded, shut, Bool.not_false, Bool.and_self, if_true]
  split
  · exact Nat.zero_le _
  · exact Nat.min_le_right _ _

/-- The end of the blinding time puts BLINDED, and its limit on demand, in force (R35, R101). -/
theorem blindingTimerExpiry_effect (s : State) (elapsed since : Nat) (run : s.isHeld = false)
    (pending : s.scr.blinded = .pending elapsed (some since)) :
    Gives .blindingTimerExpiry s fun t =>
      t = ((s.reach (since + (s.img.screen.blindS * 1000 - elapsed))).setBlinded .blinded).reform ∧
      t.scr.blinded = .blinded ∧ t.condition .screenBlinded = true ∧
      t.uptime = max s.uptime (since + (s.img.screen.blindS * 1000 - elapsed)) ∧
      (s.point1Open = false → t.demand ≤ s.img.duty.blindedMaxPumps) ∧
      OnlyIn [.uptime, .dsq, .spm, .ppr, .scr, .fbl, .alm, .src] s t := by
  have due : s.blindDue = some (since + (s.img.screen.blindS * 1000 - elapsed)) := by
    rw [State.blindDue, pending]
    rfl
  generalize since + (s.img.screen.blindS * 1000 - elapsed) = moment at due
  generalize at_u : (s.reach moment).setBlinded .blinded = u
  have begun : OnlyIn [.uptime, .src, .scr, .alm] s u := at_u ▸
    ((only_reach s moment).mono (by decide)).trans ((only_setBlinded _ _).mono (by decide))
  have moves : DutyMoves true u u.reform := moves_reform u
  have all : OnlyIn [.uptime, .dsq, .spm, .ppr, .scr, .fbl, .alm, .src] s u.reform :=
    (begun.mono (by decide)).trans (moves.only.mono (by decide))
  have blinded : u.reform.scr.blinded = .blinded := moves.blinded.trans (at_u ▸ State.setBlinded_blinded _ _)
  refine ⟨u.reform, ?_, rfl, blinded, ?_, ?_, fun shut => ?_, all⟩
  · refine congrArg Host.Outcome.next ((s.live_running _ run).trans ?_)
    rw [due, ← at_u]
  · rw [moves.condition (by simp), ← at_u]
    exact State.condition_setCondition_self _ _ _
  · have time : u.uptime = (s.reach moment).uptime := at_u ▸ only_setBlinded _ _ .uptime (by decide)
    rw [moves.only .uptime (by decide), time, State.reach_uptime]
  · have img : u.reform.img = s.img := by rw [State.img, State.img, all .cfg (by decide)]
    rw [← img]
    refine State.demand_blinded _ (by rw [State.isBlinded, blinded]; rfl) ?_
    rw [State.point1Open, State.episodeOpen, all .ovm (by decide)]
    exact shut

/-! ### The spacing in force after a change of supply -/

/-- The permit under a spacing that has just come into force, before the run set is formed (R58, R59). -/
def State.respaced (s : State) : State := if s.reclose.spacingPassed then s.reclose.expireSpacing else s.reclose

theorem State.generatorMoved_eq (s : State) (a : Bool) :
    s.generatorMoved a = ((s.append (.generator a)).setCondition .onGenerator a).respaced.reform := rfl

theorem State.respaced_early (s : State) (early : s.passed s.spm.spacingStart s.spacing = false) :
    s.respaced = { s with spm := { s.spm with permit := .spacing } } := by
  have closed : s.reclose = { s with spm := { s.spm with permit := .spacing } } := by
    unfold State.reclose
    cases k : s.spm.permit with
    | opened => simp only [early, Bool.false_eq_true, if_false]
    | spacing =>
      have same : { s.spm with permit := .spacing } = s.spm := by rw [← k]
      rw [same]
  rw [State.respaced, closed]
  exact if_neg (by rw [Bool.not_eq_true]; exact early)

theorem State.respaced_opened (s : State) (late : s.passed s.spm.spacingStart s.spacing = true) (opened : s.spm.permit = .opened) :
    s.respaced = s := by
  have same : s.reclose = s := by simp only [State.reclose, opened, late, if_true]
  rw [State.respaced, same, State.spacingPassed, StartPermit.timer, opened]
  rfl

theorem State.respaced_spacing (s : State) (late : s.passed s.spm.spacingStart s.spacing = true) (closed : s.spm.permit = .spacing) :
    s.respaced = s.expireSpacing := by
  have same : s.reclose = s := by simp only [State.reclose, closed]
  rw [State.respaced, same, State.spacingPassed, StartPermit.timer, closed]
  exact if_pos late

theorem State.expireSpacing_of_cons {s : State} {r : Request} {rest : List Request} (first : s.ranked = r :: rest) :
    s.expireSpacing = (s.recordGrant r.who).grantTo r.who := by
  rw [State.expireSpacing, first]
  exact State.grantFirst_of_cons first

/-- What a new spacing does is to move the permit, and then at most to grant as OPEN does. -/
theorem moves_respaced (s : State) : ∃ v, OnlyIn [.spm] s v ∧ DutyMoves true v s.respaced := by
  cases late : s.passed s.spm.spacingStart s.spacing with
  | false =>
    rw [s.respaced_early late]
    exact ⟨_, only_spm s _, .refl _⟩
  | true =>
    cases permit : s.spm.permit with
    | opened =>
      rw [s.respaced_opened late permit]
      exact ⟨s, .refl _ _, .refl _⟩
    | spacing =>
      rw [s.respaced_spacing late permit]
      refine ⟨{ s with spm := { s.spm with permit := .opened } }, only_spm s _, ?_⟩
      cases ranked : s.ranked with
      | nil =>
        rw [State.expireSpacing, ranked]
        exact .refl _
      | cons r rest =>
        rw [State.expireSpacing_of_cons ranked]
        refine .of (.grant { s with spm := { s.spm with permit := .opened } } r ?_ rfl)
        rw [show ({ s with spm := { s.spm with permit := .opened } } : State).ranked = s.ranked from rfl, ranked]
        exact List.mem_cons_self

/-- Once the spacing has passed the permit is OPEN with no new grant, or a grant of this moment has closed it (R58, R61). -/
theorem respaced_late (s : State) (late : s.passed s.spm.spacingStart s.spacing = true) :
    let t := s.respaced.reform
    ((t.spm.permit = .opened ∧ t.spm.spacingStart = s.spm.spacingStart ∧ t.spm.lastGrant = s.spm.lastGrant) ∨
      (t.spm.permit = .spacing ∧ t.spm.spacingStart = s.uptime ∧ ∃ who, t.spm.lastGrant = some (who, s.uptime))) ∧
    t.spm.lastOutside = s.spm.lastOutside := by
  have opens : ∀ u : State, u.spm = { s.spm with permit := .opened } → u.uptime = s.uptime →
      ((u.reform.spm.permit = .opened ∧ u.reform.spm.spacingStart = s.spm.spacingStart ∧
          u.reform.spm.lastGrant = s.spm.lastGrant) ∨
        (u.reform.spm.permit = .spacing ∧ u.reform.spm.spacingStart = s.uptime ∧
          ∃ who, u.reform.spm.lastGrant = some (who, s.uptime))) ∧
      u.reform.spm.lastOutside = s.spm.lastOutside := fun u spm time => by
    rcases (moves_reform u).permit with kept | ⟨_, closed, start, outside, who, grant, _⟩
    · rw [kept, spm]
      exact ⟨.inl ⟨rfl, rfl, rfl⟩, rfl⟩
    · rw [outside, spm]
      exact ⟨.inr ⟨closed, start.trans time, who, time ▸ grant⟩, rfl⟩
  intro t
  cases permit : s.spm.permit with
  | opened =>
    rw [show t = s.reform from congrArg State.reform (s.respaced_opened late permit)]
    exact opens s (by rw [← permit]) rfl
  | spacing =>
    have moved : t = s.expireSpacing.reform := congrArg State.reform (s.respaced_spacing late permit)
    cases ranked : s.ranked with
    | nil =>
      rw [moved, State.expireSpacing, ranked]
      exact opens _ rfl rfl
    | cons r rest =>
      rw [moved, State.expireSpacing_of_cons ranked]
      obtain ⟨grant, start, closed⟩ := s.grant_reform_spm r.who
      have spm : ((s.recordGrant r.who).grantTo r.who).spm = (s.recordGrant r.who).spm := only_grantTo _ _ .spm (by decide)
      have kept := (moves_reform ((s.recordGrant r.who).grantTo r.who)).spacing (by rw [spm]; rfl)
      exact ⟨.inr ⟨closed, start, r.who, grant⟩, by rw [kept, spm]; rfl⟩

/-- What the grant at the change and the formation after it leave of their requester (R36, R61). -/
theorem grant_reform_requester (s : State) (w : Requester) :
    let t := ((s.recordGrant w).grantTo w).reform
    (s.img.duty.minOffS ≠ 0 ∨ (∃ sc, w = .screen sc) → t.requestOf w = none) ∧
      ∀ p : Pump, w = .pump p → (t.dsq.pumps.get p).history.getLast? = some (s.uptime / 1000) := by
  have spm : ((s.recordGrant w).grantTo w).spm = (s.recordGrant w).spm := only_grantTo _ w .spm (by decide)
  have closed : ((s.recordGrant w).grantTo w).spm.permit = .spacing := by rw [spm]; rfl
  have gone : ((s.recordGrant w).grantTo w).requestOf w = none :=
    (State.requestOf_congr spm w).trans (State.requestOf_recordGrant_self s w)
  have moves := moves_reform ((s.recordGrant w).grantTo w)
  intro t
  cases w with
  | screen sc => exact ⟨fun _ => (moves.screens sc gone).1, fun p e => by cases e⟩
  | pump p =>
    have on := (s.recordGrant (.pump p)).runState_grantTo_self p
    refine ⟨fun rests => ?_, fun q e => ?_⟩
    · have minOff := rests.resolve_right (by rintro ⟨sc, e⟩; cases e)
      have img : ((s.recordGrant (.pump p)).grantTo (.pump p)).img = s.img := by
        rw [State.img, State.img, only_grantTo _ (.pump p) .cfg (by decide)]
        rfl
      have served : Served p ((s.recordGrant (.pump p)).grantTo (.pump p)) :=
        ⟨closed, img ▸ minOff, fun waits => by simp [waits, RunState.commanded] at on, .inl on⟩
      exact moves.unasked (fun _ => gone) served.reform.quiet
    · cases e
      have begun : Begun p _ ((s.recordGrant (.pump p)).grantTo (.pump p)) := ⟨closed, rfl⟩
      rw [begun.reform.kept, State.grantTo, State.grantPump_duty, (DutyPump.granted_start _ _ _ _ _).2.1, addStartEntry]
      exact List.getLast?_concat

theorem ranked_congr {s t : State} (dsq : t.dsq = s.dsq) (spm : t.spm = s.spm) : t.ranked = s.ranked := by
  cases s; cases t; cases dsq; cases spm; rfl

/-- A change of supply before the permit and the run set follow it (R192). -/
def State.supplied (s : State) (a : Bool) : State :=
  (({ s with inputs := { s.inputs with onGenerator := a } } : State).append (.generator a)).setCondition .onGenerator a

theorem only_supplied (s : State) (a : Bool) : OnlyIn [.inputs, .alm, .src] s (s.supplied a) :=
  (((only_inputs s _).mono (by decide)).trans ((only_append _ _).mono (by decide))).trans ((only_setCondition _ _ _).mono (by decide))

theorem State.supplied_inputs (s : State) (a : Bool) : (s.supplied a).inputs = { s.inputs with onGenerator := a } :=
  (only_setCondition _ _ _ .inputs (by decide)).trans (only_append _ _ .inputs (by decide))

theorem State.supplied_newest (s : State) (a : Bool) : (s.supplied a).newestRecord = some (.generator a) := by
  have same : ∀ u : State, (u.setCondition .onGenerator a).newestRecord = u.newestRecord := fun u =>
    State.newestRecord_congr (congrArg StationRecord.log (only_setCondition u _ _ .src (by decide)))
  exact (same _).trans (State.newestRecord_append _ _)

/-- What a change of supply puts in force, and the grant that it may bring (R59, R61, R192). -/
theorem onGeneratorChange_effect (s : State) (a : Bool) (run : s.isHeld = false) (moved : s.inputs.onGenerator = !a) :
    Gives (.onGeneratorChange a) s fun t =>
      let next := if a then s.img.permit.genSpacing else s.img.permit.startSpacing
      t.inputs = { s.inputs with onGenerator := a } ∧ t.condition .onGenerator = a ∧
      t.newestRecord = some (.generator a) ∧
      t.cap = (if a then s.img.duty.genMaxRunning else s.img.duty.maxRunning) ∧ t.spacing = next ∧
      (s.uptime < s.spm.spacingStart + next * 1000 →
        t.spm.permit = .spacing ∧ t.spm.spacingStart = s.spm.spacingStart ∧ t.spm.lastGrant = s.spm.lastGrant) ∧
      (0 < next → s.spm.spacingStart + next * 1000 ≤ s.uptime →
        (t.spm.permit = .opened ∧ t.spm.spacingStart = s.spm.spacingStart ∧ t.spm.lastGrant = s.spm.lastGrant) ∨
        (t.spm.permit = .spacing ∧ t.spm.spacingStart = s.uptime ∧
          ∃ who, t.spm.lastGrant = some (who, s.uptime))) ∧
      (s.spm.permit = .spacing → s.spm.spacingStart + next * 1000 ≤ s.uptime → ∀ r rest, s.ranked = r :: rest →
        t.spm.lastGrant = some (r.who, s.uptime) ∧
        (s.img.duty.minOffS ≠ 0 ∨ (∃ sc, r.who = .screen sc) → t.requestOf r.who = none) ∧
        ∀ p : Pump, r.who = .pump p → (t.dsq.pumps.get p).history.getLast? = some (s.uptime / 1000)) ∧
      t.spm.lastOutside = s.spm.lastOutside ∧
      OnlyIn [.inputs, .dsq, .spm, .ppr, .scr, .fbl, .alm, .src] s t := by
  have step : exec (.onGeneratorChange a) s = .next (s.supplied a).respaced.reform := by
    refine congrArg Host.Outcome.next (s.onChange_running _ _ ?_ run)
    rw [moved]
    cases a <;> decide
  refine ⟨_, step, ?_⟩
  have pins := s.supplied_inputs a
  have before := only_supplied s a
  generalize at_u : s.supplied a = u at pins before
  obtain ⟨v, closes, grants⟩ := moves_respaced u
  have moves : DutyMoves true v u.respaced.reform := grants.trans (moves_reform _)
  have after : OnlyIn reformParts u u.respaced.reform := (closes.mono (by decide)).trans moves.only
  have spm : u.spm = s.spm := before .spm (by decide)
  have time : u.uptime = s.uptime := before .uptime (by decide)
  have img : u.img = s.img := by rw [State.img, State.img, before .cfg (by decide)]
  have spacing : u.spacing = if a then s.img.permit.genSpacing else s.img.permit.startSpacing := by
    rw [State.spacing, pins, img]
  have passed : u.passed u.spm.spacingStart u.spacing =
      decide (s.spm.spacingStart + (if a then s.img.permit.genSpacing else s.img.permit.startSpacing) * 1000 ≤ s.uptime) := by
    rw [spacing, State.passed, spm, time]
    rfl
  have early : u.passed u.spm.spacingStart u.spacing = false →
      u.respaced.reform.spm.permit = .spacing ∧ u.respaced.reform.spm.spacingStart = s.spm.spacingStart ∧
        u.respaced.reform.spm.lastGrant = s.spm.lastGrant ∧ u.respaced.reform.spm.lastOutside = s.spm.lastOutside := fun early => by
    rw [u.respaced_early early]
    have kept := (moves_reform ({ u with spm := { u.spm with permit := .spacing } })).spacing rfl
    rw [kept, ← spm]
    exact ⟨rfl, rfl, rfl, rfl⟩
  have inputs : u.respaced.reform.inputs = { s.inputs with onGenerator := a } := (after .inputs (by decide)).trans pins
  have cfg : u.respaced.reform.cfg = u.cfg := after .cfg (by decide)
  refine ⟨inputs, ?_, ?_, ?_, ?_, fun soon => ?_, fun _ late => ?_, fun closed late r rest ranked => ?_, ?_,
    (before.mono (by decide)).trans (after.mono (by decide))⟩
  · rw [moves.condition (by simp), State.condition, State.point, closes .alm (by decide), ← at_u]
    exact State.condition_setCondition_self _ _ _
  · have log : u.respaced.reform.src.log = u.src.log := by rw [moves.src, closes .src (by decide)]
    rw [State.newestRecord_congr log, ← at_u]
    exact s.supplied_newest a
  · rw [State.cap, inputs, State.img, cfg, ← State.img, img]
  · exact (State.spacing_congr (after .inputs (by decide)) cfg).trans spacing
  · obtain ⟨closed, start, grant, _⟩ := early (passed.trans (decide_eq_false (by omega)))
    exact ⟨closed, start, grant⟩
  · rw [← spm, ← time]
    exact (respaced_late u (passed.trans (decide_eq_true late))).1
  · have moved : u.respaced.reform = ((u.recordGrant r.who).grantTo r.who).reform := by
      rw [u.respaced_spacing (passed.trans (decide_eq_true late)) (by rw [spm]; exact closed),
        State.expireSpacing_of_cons ((ranked_congr (before .dsq (by decide)) spm).trans ranked)]
    rw [moved, ← time, ← img]
    exact ⟨(u.grant_reform_spm r.who).1, grant_reform_requester u r.who⟩
  · cases late : u.passed u.spm.spacingStart u.spacing with
    | false =>
      obtain ⟨_, _, _, outside⟩ := early late
      exact outside
    | true => exact (respaced_late u late).2.trans (congrArg StartPermit.lastOutside spm)

/-- Settles O24: the blinded state is a limit of the formation, and the new spacing a new start of the permit before one. -/
theorem blindingAndGenerator : Obligations.BlindingAndGenerator :=
  ⟨blindingTimerExpiry_effect, onGeneratorChange_effect⟩

end Sys2Proof.Machine
end

section
/-! The event log under the records that one event appends (R156 to R158). -/

namespace Sys2Proof.Machine

/-! ### Appends in a row -/

/-- The log, the counter and the cursors of a Station Record: what an append reads and writes. -/
def StationRecord.logPart (r : StationRecord) : StationRecord :=
  { StationRecord.cold with log := r.log, nextSeq := r.nextSeq, cursors := r.cursors }

/-- The records of one event appended in their order. -/
def StationRecord.appendAll (now : Stamp) (bs : List RecordBody) (r : StationRecord) : StationRecord :=
  bs.foldl (fun r b => r.wrap.makeRoom.place now b) r

theorem StationRecord.appendAll_append (now : Stamp) (bs cs : List RecordBody) (r : StationRecord) :
    r.appendAll now (bs ++ cs) = (r.appendAll now bs).appendAll now cs := List.foldl_append

theorem StationRecord.logPart_wrap (r : StationRecord) : r.wrap.logPart = r.logPart.wrap := by
  by_cases full : r.newest = max32
  · rw [StationRecord.wrap, if_pos full, StationRecord.wrap, if_pos (show r.logPart.newest = max32 from full)]
    rfl
  · rw [StationRecord.wrap, if_neg full, StationRecord.wrap, if_neg (show r.logPart.newest ≠ max32 from full)]

theorem StationRecord.logPart_makeRoom (r : StationRecord) : r.makeRoom.logPart = r.logPart.makeRoom := by
  obtain ⟨log, next, cursors, clock, phase, day, changed, acc⟩ := r
  cases log with
  | nil => rfl
  | cons q rest =>
    by_cases room : 96 ≤ (q :: rest).length <;>
      simp only [StationRecord.makeRoom, StationRecord.logPart, room, if_true, if_false]

theorem StationRecord.logPart_append (r : StationRecord) (now : Stamp) (b : RecordBody) :
    (r.wrap.makeRoom.place now b).logPart = r.logPart.wrap.makeRoom.place now b := by
  rw [← r.logPart_wrap, ← r.wrap.logPart_makeRoom]
  rfl

/-- An event appends these records, in this order, and nothing else to the log; its time stands. -/
structure Records (bs : List RecordBody) (s t : State) : Prop where
  now : t.now = s.now
  log : t.src.logPart = s.src.logPart.appendAll s.now bs

namespace Records
variable {bs cs : List RecordBody} {s t u : State}

theorem trans (h : Records bs s t) (k : Records cs t u) : Records (bs ++ cs) s u :=
  ⟨k.now.trans h.now, by rw [k.log, h.now, h.log, StationRecord.appendAll_append]⟩

theorem refl (s : State) : Records [] s s := ⟨rfl, rfl⟩

/-- What leaves the Station Record and the uptime alone records nothing. -/
theorem of_only {ps : List Block} (only : OnlyIn ps s t) (src : Block.src ∉ ps) (time : Block.uptime ∉ ps) : Records [] s t := by
  have src : t.src = s.src := only .src src
  have time : t.uptime = s.uptime := only .uptime time
  refine ⟨?_, by rw [src]; rfl⟩
  rw [State.now, State.now, State.upSeconds, State.upSeconds, src, time]

/-- What leaves the log and the clock of the Station Record and the uptime alone records nothing. -/
theorem of_kept (log : t.src.logPart = s.src.logPart) (clock : t.src.clock = s.src.clock) (time : t.uptime = s.uptime) :
    Records [] s t := by
  refine ⟨?_, log⟩
  rw [State.now, State.now, State.upSeconds, State.upSeconds, clock, time]

theorem append (s : State) (b : RecordBody) : Records [b] s (s.append b) := by
  refine ⟨?_, StationRecord.logPart_append _ _ _⟩
  rw [State.now, State.now, State.append_clock]
  rfl

theorem credit (s : State) (f : Accumulators → Accumulators) : Records [] s (s.credit f) := .of_kept rfl rfl rfl

theorem setCondition (s : State) (a : AlarmPoint) (b : Bool) : Records [] s (s.setCondition a b) :=
  .of_only (only_setCondition s a b) (by decide) (by decide)

theorem modProt (s : State) (p : Pump) (f : ProtectedPump → ProtectedPump) : Records [] s (s.modProt p f) :=
  .of_only (only_modProt s p f) (by decide) (by decide)

theorem report (s : State) (k : Category) : Records [] s (s.report k) := .of_only (only_report s k) (by decide) (by decide)

theorem judgeFaults (s : State) (p : Pump) : Records [] s (s.judgeFaults p) :=
  .of_only (only_judgeFaults s p) (by decide) (by decide)

/-- The moves of the Duty Sequencer record nothing. -/
theorem moves {asks : Bool} (h : DutyMoves asks s t) : Records [] s t :=
  .of_kept (by rw [h.src]; rfl) (by rw [h.src]) (h.only .uptime (by decide))

end Records

/-! ### Trips -/

/-- The records of a trip that brings the counter to `n` (R73, R77). -/
def tripBodies (limit : Nat) (p : Pump) (c : FaultCond) (n : Nat) : List RecordBody :=
  .pumpTrip p c n :: if limit ≤ n then [.pumpLockout p] else []

theorem records_lockOut (s : State) (p : Pump) : Records [.pumpLockout p] s (s.lockOut p) :=
  (((Records.modProt s p _).trans (.setCondition _ _ _)).trans (.append _ _)).trans (.setCondition _ _ _)

theorem records_recordTrip (s : State) (p : Pump) (c : FaultCond) (n : Nat) :
    Records (tripBodies s.img.prot.lockoutTrips p c n) s (s.recordTrip p c n) := by
  have tripped : ∀ f g, Records [.pumpTrip p c n] s
      (((((s.modProt p f).report .pumps).append (.pumpTrip p c n)).credit g).setCondition (.pump p .trip) true) :=
    fun f g => ((((Records.modProt s p f).trans (.report _ _)).trans (.append _ _)).trans (.credit _ g)).trans (.setCondition _ _ _)
  by_cases lock : s.img.prot.lockoutTrips ≤ n
  · simp only [State.recordTrip, tripBodies, lock, if_true]
    exact (tripped _ _).trans (records_lockOut _ p)
  · simp only [State.recordTrip, tripBodies, lock, if_false]
    exact tripped _ _

theorem records_tripPump (s : State) (p : Pump) (c : FaultCond) :
    Records (tripBodies s.img.prot.lockoutTrips p c ((s.ppr.get p).trips + 1)) s (s.tripPump p c) := by
  have cut : OnlyIn [.dsq, .ppr, .fbl, .alm] s (if s.runCmd p then s.dropPump p else s) := .when _ (only_dropPump s p)
  have trip := records_recordTrip (if s.runCmd p then s.dropPump p else s) p c ((s.ppr.get p).trips + 1)
  rw [State.img, cut .cfg (by decide)] at trip
  rw [tripPump_eq]
  exact (Records.of_only cut (by decide) (by decide)).trans trip

/-! ### The log after them -/

/-- A log numbered without a gap up to `n - 1`, none of its cursors behind it. -/
structure LogAt (n : Nat) (r : StationRecord) : Prop where
  next : r.nextSeq = followingSeq (n - 1)
  at_most_96 : r.log.length ≤ 96
  fewer : r.log.length < n
  numbered : numberedFrom (n - r.log.length) r.log
  cursors : ∀ l, n - r.log.length ≤ r.cursors.get l

theorem LogAt.logPart {n : Nat} {r : StationRecord} (h : LogAt n r) : LogAt n r.logPart :=
  ⟨h.next, h.at_most_96, h.fewer, h.numbered, h.cursors⟩

theorem LogAt.nextSeq {n : Nat} {r : StationRecord} (h : LogAt n r) (room : n ≤ max32) : r.nextSeq = n := by
  have := h.fewer
  rw [h.next, followingSeq, if_neg (by omega)]
  omega

theorem numberedFrom_append {n : Nat} {a b : List LogRecord} :
    numberedFrom n (a ++ b) ↔ numberedFrom n a ∧ numberedFrom (n + a.length) b := by
  induction a generalizing n with
  | nil => simp [numberedFrom]
  | cons r rest ih => simp [numberedFrom, ih, and_assoc, Nat.add_assoc, Nat.add_comm 1]

theorem LogAt.newest {n : Nat} {r : StationRecord} (h : LogAt n r) (room : n ≤ max32) : r.newest = n - 1 := by
  unfold StationRecord.newest
  cases last : r.log.getLast? with
  | none => rw [h.nextSeq room]
  | some q =>
    obtain ⟨front, split⟩ := List.getLast?_eq_some_iff.mp last
    have numbered := h.numbered
    have fewer := h.fewer
    rw [split, numberedFrom_append] at numbered
    have seq : q.seq = n - (front ++ [q]).length + front.length := numbered.2.1
    rw [split] at fewer
    rw [List.length_append, List.length_singleton] at seq fewer
    show q.seq = n - 1
    omega

/-- The newest 96 of a list of records. -/
def lastRecords (log : List LogRecord) : List LogRecord := log.drop (log.length - 96)

theorem lastRecords_append (a b : List LogRecord) : lastRecords (lastRecords a ++ b) = lastRecords (a ++ b) := by
  have early : a.length - 96 ≤ a.length := Nat.sub_le _ _
  have kept : lastRecords a ++ b = (a ++ b).drop (a.length - 96) := (List.drop_append_of_le_length early).symm
  have length : ((a ++ b).drop (a.length - 96)).length = a.length + b.length - (a.length - 96) := by
    rw [List.length_drop, List.length_append]
  have total : (a ++ b).length = a.length + b.length := List.length_append
  have skip : a.length - 96 + (a.length + b.length - (a.length - 96) - 96) = a.length + b.length - 96 := by omega
  rw [kept]
  unfold lastRecords
  rw [length, total, List.drop_drop, skip]

theorem lastRecords_of_few {log : List LogRecord} (few : log.length ≤ 96) : lastRecords log = log := by
  rw [lastRecords, Nat.sub_eq_zero_of_le few, List.drop_zero]

theorem StationRecord.makeRoom_of_few {r : StationRecord} (few : r.log.length < 96) : r.makeRoom = r := by
  unfold StationRecord.makeRoom
  split
  · exact if_neg (by omega)
  · rfl

/-- A full log loses its oldest record, and no cursor stays behind (R157). -/
theorem LogAt.makeRoom_of_full {n : Nat} {r : StationRecord} (h : LogAt n r) {q : LogRecord} {rest : List LogRecord}
    (log : r.log = q :: rest) (full : r.log.length = 96) :
    r.makeRoom.log = rest ∧ r.makeRoom.nextSeq = r.nextSeq ∧ numberedFrom (n - 95) rest ∧
      ∀ l, r.makeRoom.cursors.get l = max (r.cursors.get l) (n - 95) := by
  have numbered := h.numbered
  have cursors := h.cursors
  have fewer := h.fewer
  rw [full] at cursors fewer
  rw [full, log] at numbered
  have length : rest.length = 95 := by
    rw [log, List.length_cons] at full
    omega
  obtain ⟨first, others⟩ := numbered
  have after : n - 96 + 1 = n - 95 := by omega
  rw [after] at others
  have oldest : (rest.head?.map (·.seq)).getD r.nextSeq = n - 95 := by
    cases rest with
    | nil => cases length
    | cons x _ => exact others.1
  have moved : r.makeRoom =
      { r with log := rest, cursors := r.cursors.mapBoth fun c => if c = q.seq then n - 95 else c } := by
    rw [StationRecord.makeRoom, log]
    dsimp only
    rw [oldest, if_pos (by rw [← log, full])]
  refine ⟨by rw [moved], by rw [moved], others, fun l => ?_⟩
  have at_l : r.makeRoom.cursors.get l = if r.cursors.get l = q.seq then n - 95 else r.cursors.get l := by
    rw [moved]
    cases l <;> rfl
  have behind := cursors l
  rw [at_l, first]
  split <;> omega

/-- An append below the largest number: the newest 96 stay, and a cursor at a record that goes moves to the oldest (R156, R157). -/
theorem LogAt.append {n : Nat} {r : StationRecord} (h : LogAt n r) (room : n ≤ max32) (now : Stamp) (b : RecordBody) :
    let t := r.wrap.makeRoom.place now b
    LogAt (n + 1) t ∧ t.log = lastRecords (r.log ++ [⟨n, now, b⟩]) ∧
      ∀ l, t.cursors.get l = max (r.cursors.get l) (n + 1 - t.log.length) := by
  have next := h.nextSeq room
  have most := h.at_most_96
  have fewer := h.fewer
  have unwrapped : r.wrap = r := by
    rw [StationRecord.wrap, if_neg (by rw [h.newest room]; omega)]
  rw [unwrapped]
  by_cases full : r.log.length = 96
  · cases log : r.log with
    | nil => simp [log] at full
    | cons q rest =>
      obtain ⟨kept, next', numbered, moved⟩ := h.makeRoom_of_full log full
      have length : rest.length = 95 := by simpa [log] using full
      have result : (r.makeRoom.place now b).log = rest ++ [⟨n, now, b⟩] := by
        rw [StationRecord.place, kept, next', next]
      have total : (r.makeRoom.place now b).log.length = 96 := by rw [result, List.length_append, length, List.length_singleton]
      have cursors : ∀ l, (r.makeRoom.place now b).cursors.get l = max (r.cursors.get l) (n - 95) := moved
      rw [full] at fewer
      refine ⟨⟨?_, by omega, by omega, ?_, fun l => ?_⟩, ?_, fun l => ?_⟩
      · rw [StationRecord.place, next', next, Nat.add_sub_cancel]
      · rw [total, result, numberedFrom_append, length]
        exact ⟨numbered, show n = _ by omega, trivial⟩
      · rw [cursors, total]
        omega
      · rw [result, lastRecords, List.length_append, List.length_cons, length, List.length_singleton]
        rfl
      · rw [cursors, total]
        rfl
  · rw [StationRecord.makeRoom_of_few (by omega)]
    have result : (r.place now b).log = r.log ++ [⟨n, now, b⟩] := by rw [StationRecord.place, next]
    have total : (r.place now b).log.length = r.log.length + 1 := by rw [result, List.length_append, List.length_singleton]
    have cursors := h.cursors
    refine ⟨⟨?_, by omega, by omega, ?_, fun l => ?_⟩, ?_, fun l => ?_⟩
    · rw [StationRecord.place, next, Nat.add_sub_cancel]
    · rw [total, result, numberedFrom_append, Nat.add_sub_add_right]
      exact ⟨h.numbered, show n = _ by omega, trivial⟩
    · rw [total, Nat.add_sub_add_right]
      exact cursors l
    · rw [result, lastRecords_of_few (by rw [← result, total]; omega)]
    · rw [total, Nat.add_sub_add_right]
      exact (Nat.max_eq_left (cursors l)).symm

theorem length_numbered (now : Stamp) (n : Nat) (bs : List RecordBody) : (numbered now n bs).length = bs.length := by
  induction bs generalizing n with
  | nil => rfl
  | cons b rest ih => rw [numbered, List.length_cons, ih, List.length_cons]

theorem bodies_numbered (now : Stamp) (n : Nat) (bs : List RecordBody) : (numbered now n bs).map (·.body) = bs := by
  induction bs generalizing n with
  | nil => rfl
  | cons b rest ih => rw [numbered, List.map_cons, ih]

theorem length_lastRecords_le (log : List LogRecord) : (lastRecords log).length ≤ log.length := by
  rw [lastRecords, List.length_drop]
  exact Nat.sub_le _ _

/-- Records of one event on a log with room for their numbers: the newest 96 stay, numbered on and stamped with the event. -/
theorem logAt_appendAll {n : Nat} {r : StationRecord} (h : LogAt n r) (now : Stamp) (bs : List RecordBody)
    (room : n + bs.length ≤ max32 + 1) :
    let t := r.appendAll now bs
    LogAt (n + bs.length) t ∧ t.log = lastRecords (r.log ++ numbered now n bs) ∧
      ∀ l, t.cursors.get l = max (r.cursors.get l) (n + bs.length - t.log.length) := by
  induction bs generalizing n r with
  | nil =>
    refine ⟨h, ?_, fun l => (Nat.max_eq_left (h.cursors l)).symm⟩
    rw [numbered, List.append_nil, lastRecords_of_few h.at_most_96]
    rfl
  | cons b rest ih =>
    rw [List.length_cons] at room
    obtain ⟨at_next, log, cursors⟩ := h.append (by omega) now b
    obtain ⟨at_end, log', cursors'⟩ := ih at_next (by omega)
    have count : n + (b :: rest).length = n + 1 + rest.length := by rw [List.length_cons]; omega
    rw [count]
    refine ⟨at_end, ?_, fun l => ?_⟩
    · refine log'.trans ?_
      rw [log, lastRecords_append, List.append_assoc]
      rfl
    · refine (cursors' l).trans ?_
      have grown := length_lastRecords_le ((r.wrap.makeRoom.place now b).log ++ numbered now (n + 1) rest)
      rw [← log', List.length_append, length_numbered] at grown
      rw [cursors l, max_assoc]
      exact congrArg _ (Nat.max_eq_right (by omega))

/-- The number of the oldest record held. -/
theorem LogAt.oldest {n : Nat} {r : StationRecord} (h : LogAt n r) (some_record : r.log ≠ []) : r.oldest = n - r.log.length := by
  obtain ⟨q, rest, log⟩ := List.exists_cons_of_ne_nil some_record
  have numbered := h.numbered
  rw [log] at numbered
  rw [StationRecord.oldest, log]
  exact numbered.1

/-- A log in order stands at the number after its newest. -/
theorem LogOk.logAt {r : StationRecord} (h : LogOk r) (room : r.newest < max32) : LogAt (r.newest + 1) r := by
  have span : r.newest + 1 = r.oldest + r.log.length := by
    obtain ⟨q, last⟩ : ∃ q, r.log.getLast? = some q := ⟨_, List.getLast?_eq_some_getLast h.some_record⟩
    obtain ⟨front, split⟩ := List.getLast?_eq_some_iff.mp last
    have newest : r.newest = q.seq := by rw [StationRecord.newest, last]
    have numbered := h.numbered
    rw [split, numberedFrom_append] at numbered
    rw [newest, split, List.length_append, List.length_singleton, numbered.2.1, Nat.add_assoc]
  have first := h.first
  have oldest : r.newest + 1 - r.log.length = r.oldest := by omega
  refine ⟨by rw [Nat.add_sub_cancel]; exact h.counter, h.at_most_96, by omega, by rw [oldest]; exact h.numbered, fun l => ?_⟩
  have cursor := (h.cursors l).1
  rw [StationRecord.position, if_neg (by omega)] at cursor
  omega

/-- A cold log stands at number 1. -/
theorem logAt_cold : LogAt 1 StationRecord.cold :=
  ⟨rfl, Nat.zero_le _, Nat.one_pos, trivial, fun l => by cases l <;> exact Nat.le_refl 1⟩

/-- What an event records ends the log (R156). -/
theorem Records.ends {bs : List RecordBody} {s t : State} (h : Records bs s t) (ok : LogOk s.src)
    (room : s.src.newest + bs.length ≤ max32) (some : 0 < bs.length) (few : bs.length ≤ 96) :
    ∃ before, t.src.log.map (·.body) = before ++ bs := by
  have start := (ok.logAt (by omega)).logPart
  obtain ⟨_, log, _⟩ := logAt_appendAll start s.now bs (by omega)
  rw [← h.log] at log
  have here : t.src.log = lastRecords (s.src.log ++ numbered s.now (s.src.newest + 1) bs) := log
  refine ⟨(s.src.log.drop ((s.src.log ++ numbered s.now (s.src.newest + 1) bs).length - 96)).map (·.body), ?_⟩
  have early : (s.src.log ++ numbered s.now (s.src.newest + 1) bs).length - 96 ≤ s.src.log.length := by
    rw [List.length_append, length_numbered]
    omega
  rw [here, lastRecords, List.drop_append_of_le_length early, List.map_append, bodies_numbered]

end Sys2Proof.Machine
end

section
/-! PUMP_COMMAND, SET_ROTATION and CLEAR_LOCKOUT (R26, R41, R43, R66, R73, R77, R78): O10. -/

namespace Sys2Proof.Machine

/-! ### A request of the seat holder -/

section
variable {s : State} {l : Link} (taking : s.taking l) (seat : s.holds l = true) (code : Byte)
include taking seat

/-- A request of the right length from the holder reaches the block that owns it (R175). -/
theorem request_of_holder (work : State → State × Reply) :
    s.request l code true true work = (work (s.arrive l)).1.give l code (work (s.arrive l)).2 :=
  s.request_taken l code true true work taking (by simp [State.check, seat])

/-- A request that its block refuses is answered so and does nothing else (R175). -/
theorem answered_refusal {work : State → State × Reply} {st : Status} (refused : work (s.arrive l) = (s.arrive l).refuse st) :
    Answered s (s.request l code true true work) l (refusal code st) := by
  rw [request_of_holder taking seat, refused]
  exact s.answered_sendAnswer l _

/-- A request that its block carries out is answered DONE, whatever the work moved outside the links. -/
theorem request_carried {work : State → State × Reply} {u : State} (carried : work (s.arrive l) = u.carryOut) :
    s.request l code true true work = u.give l code (.done []) := by
  rw [request_of_holder taking seat, carried]
  rfl

end

theorem doneOn_give {s u : State} {l : Link} {bs : List Block} (code : Byte) (work : OnlyIn bs (s.arrive l) u) (lnk : Block.lnk ∉ bs)
    (time : Block.uptime ∉ bs) : DoneOn s (u.give l code (.done [])) l code := by
  have sent : (u.give l code (.done [])).lnk = ((s.arrive l).sendAnswer l (doneFrames code [])).lnk := by
    have same : u.lnk = (s.arrive l).lnk := work .lnk lnk
    have now : u.uptime = (s.arrive l).uptime := work .uptime time
    show (u.sendAnswer l _).lnk = _
    simp only [State.sendAnswer, State.modLink, same, now]
  have link : ∀ k, (u.give l code (.done [])).link k = ((s.arrive l).sendAnswer l (doneFrames code [])).link k := fun k => by
    rw [State.link, sent, State.link]
  obtain ⟨_, seat, sending, frames, other⟩ := s.answered_sendAnswer l (doneFrames code [])
  refine ⟨⟨?_, ?_⟩, ?_, ?_⟩
  · rw [link]
    exact sending
  · rw [link]
    exact frames
  · rw [sent]
    exact seat
  · rw [link]
    exact other

theorem only_carried {s u : State} {l : Link} {bs : List Block} (code : Byte) (work : OnlyIn bs (s.arrive l) u) :
    OnlyIn (.lnk :: bs) s (u.give l code (.done [])) :=
  (((only_arrive s l).mono (by simp)).trans (work.mono (List.subset_cons_self _ _))).trans ((only_give u l code _).mono (by simp))

/-! ### The bytes of a request -/

theorem part_byte_zero (a : Byte) (rest : List Byte) : part (a :: rest) 0 1 = a.toNat := by simp [part, figure]

theorem part_byte_one (a b : Byte) (rest : List Byte) : part (a :: b :: rest) 1 1 = b.toNat := by simp [part, figure]

theorem part_byte_two (a b c : Byte) (rest : List Byte) : part (a :: b :: c :: rest) 2 1 = c.toNat := by simp [part, figure]

theorem ofNat?_pump (p : Pump) : No4.ofNat? (BitVec.ofNat 8 p.toNat).toNat = some p := by cases p <;> rfl

theorem ofNat?_outside {n : Nat} (h : n = 0 ∨ 4 < n) : No4.ofNat? n = none := by
  match n, h with
  | 0, _ => rfl
  | n + 5, _ => rfl
  | 1, h | 2, h | 3, h | 4, h => omega

theorem toNat_ofNat_byte {n : Nat} (h : n ≤ 100) : (BitVec.ofNat 8 n).toNat = n := by
  rw [BitVec.toNat_ofNat, Nat.mod_eq_of_lt (by omega)]

/-! ### PUMP_COMMAND -/

theorem State.pumpCommand_short (s : State) (l : Link) (p a : Byte) : s.pumpCommand l [p, a] = s.pumpCommand l [p, a, 0] := rfl

theorem State.pumpCommand_accepted (s : State) (l : Link) (p : Pump) {a v : Nat} (action : a ≤ 2) (speed : v ≤ 100)
    (queued : s.dsq.queue.contains p = true) :
    s.pumpCommand l [BitVec.ofNat 8 p.toNat, BitVec.ofNat 8 a, BitVec.ofNat 8 v] = (s.command l p a v).reform.carryOut := by
  have range : ¬(2 < a ∨ 100 < v) := by omega
  simp only [State.pumpCommand, part_byte_zero, part_byte_one, part_byte_two, ofNat?_pump, toNat_ofNat_byte speed,
    toNat_ofNat_byte (show a ≤ 100 by omega), range, queued, if_false, Bool.not_true, Bool.false_eq_true]

theorem State.pumpCommand_outside (s : State) (l : Link) (p : Pump) {a v : Nat} (action : a ≤ 2) (speed : v ≤ 100)
    (out : s.dsq.queue.contains p = false) :
    s.pumpCommand l [BitVec.ofNat 8 p.toNat, BitVec.ofNat 8 a, BitVec.ofNat 8 v] = s.refuse .state := by
  have range : ¬(2 < a ∨ 100 < v) := by omega
  simp only [State.pumpCommand, part_byte_zero, part_byte_one, part_byte_two, ofNat?_pump, toNat_ofNat_byte speed,
    toNat_ofNat_byte (show a ≤ 100 by omega), range, out, if_false, if_true, Bool.not_false]

theorem State.pumpCommand_range (s : State) (l : Link) (p a v : Byte) (h : p.toNat = 0 ∨ 4 < p.toNat ∨ 2 < a.toNat ∨ 100 < v.toNat) :
    s.pumpCommand l [p, a, v] = s.refuse .range := by
  simp only [State.pumpCommand, part_byte_zero, part_byte_one, part_byte_two]
  cases named : No4.ofNat? p.toNat with
  | none => rfl
  | some q =>
    have inside : ¬(p.toNat = 0 ∨ 4 < p.toNat) := fun out => by
      rw [ofNat?_outside out] at named
      cases named
    exact if_pos (by omega)

/-- The override that an accepted PUMP_COMMAND leaves its pump (R43). -/
def commandedOverride (l : Link) (a v least : Nat) : Option Override :=
  if a = 0 then none
  else if a = 1 then some ⟨.forceRun (if v = 0 then none else some (max v least)), l⟩
  else some ⟨.forceStop, l⟩

theorem State.command_override (s : State) (l : Link) (p q : Pump) {a : Nat} (v : Nat) (action : a ≤ 2) :
    (s.command l p a v).overrideOf q = if q = p then commandedOverride l a v s.img.duty.minSpeed else s.overrideOf q := by
  match a, action with
  | 0, _ => exact s.overrideOf_setOverride p q none
  | 1, _ => exact s.overrideOf_setOverride p q (some ⟨.forceRun (fixedSpeed s.img v), l⟩)
  | 2, _ => exact s.overrideOf_setOverride p q (some ⟨.forceStop, l⟩)

theorem only_command (s : State) (l : Link) (p : Pump) (a v : Nat) : OnlyIn [.dsq, .alm] s (s.command l p a v) := by
  have placed : ∀ o, OnlyIn [.dsq, .alm] s (s.setOverride p o) := fun o => (only_setOverride s p o).mono (by decide)
  unfold State.command
  split
  · exact placed _
  · exact (placed _).trans ((only_report _ _).mono (by decide))
  · exact (placed _).trans ((only_report _ _).mono (by decide))

/-- A pump under FORCE_STOP is STOPPED once the run set is formed (R41, R43). -/
theorem Formed.stopped_of_forceStopped {t : State} (h : Formed t) {p : Pump} (forced : t.forceStopped p = true) :
    t.runState p = .stopped := by
  have out : p ∉ t.dsq.runSet := fun member => by
    rw [h.runSet] at member
    have eligible := State.eligible_of_wanted (t.fit_subset _ member)
    rw [State.eligible, forced] at eligible
    simp at eligible
  have still : t.runCmd p = true → False := fun on => by
    obtain ⟨_, _, unforced⟩ := h.runsOut on out
    rw [forced] at unforced
    cases unforced
  cases e : t.runState p with
  | stopped => rfl
  | waiting => exact absurd (h.mem_of_waiting e) out
  | starting | running => exact absurd (by rw [State.runCmd, e]; rfl) still

theorem pumpCommand_effect {s : State} {l : Link} (taking : s.taking l) (seat : s.holds l = true) (p : Pump) {a v : Nat}
    (action : a ≤ 2) (speed : v ≤ 100) (queued : s.dsq.queue.contains p = true) :
    Gives (.pumpCommand l [BitVec.ofNat 8 p.toNat, BitVec.ofNat 8 a, BitVec.ofNat 8 v]) s fun t =>
      t.overrideOf p = commandedOverride l a v s.img.duty.minSpeed ∧ (∀ i, i ≠ p → t.overrideOf i = s.overrideOf i) ∧
      (a = 2 → t.runState p = .stopped) ∧
      DoneOn s t l 0x33 ∧ OnlyIn [.dsq, .spm, .ppr, .scr, .fbl, .alm, .src, .lnk] s t := by
  have same : (s.arrive l).dsq = s.dsq := only_arrive s l .dsq (by decide)
  have img : (s.arrive l).img = s.img := by rw [State.img, State.img, only_arrive s l .cfg (by decide)]
  have work := (s.arrive l).pumpCommand_accepted l p action speed (by rw [same]; exact queued)
  have commanded := fun q => (s.arrive l).command_override l p q v action
  have only : OnlyIn reformParts (s.arrive l) ((s.arrive l).command l p a v).reform :=
    ((only_command _ l p a v).mono (by decide)).trans (only_reform _)
  generalize (s.arrive l).command l p a v = u at work commanded only
  rw [img] at commanded
  have placed : ∀ q, (u.reform.give l 0x33 (.done [])).overrideOf q =
      if q = p then commandedOverride l a v s.img.duty.minSpeed else s.overrideOf q := fun q => by
    have before : (s.arrive l).overrideOf q = s.overrideOf q := by rw [State.overrideOf, same, State.overrideOf]
    rw [← before, ← commanded q, ← u.overrideOf_reform q, State.overrideOf, only_give _ l _ _ .dsq (by decide), State.overrideOf]
  refine ⟨u.reform.give l 0x33 (.done []), congrArg Host.Outcome.next (request_carried taking seat 0x33 work),
    (placed p).trans (if_pos rfl), fun i other => (placed i).trans (if_neg other), fun stop => ?_,
    doneOn_give 0x33 only (by decide) (by decide), (only_carried 0x33 only).mono (by decide)⟩
  have forced : u.reform.overrideOf p = some ⟨.forceStop, l⟩ := by
    rw [u.overrideOf_reform, commanded, if_pos rfl, stop]
    rfl
  rw [State.runState, only_give _ l _ _ .dsq (by decide)]
  refine (formed_reform u).stopped_of_forceStopped ?_
  rw [State.forceStopped, show (u.reform.dsq.pumps.get p).override = _ from forced]

/-! ### SET_ROTATION -/

theorem State.setRotation_named (s : State) (p : Pump) :
    s.setRotation [BitVec.ofNat 8 p.toNat] =
      if s.dsq.queue.contains p then (s.setQueue (p :: s.dsq.queue.filter (· != p))).reform.carryOut else s.refuse .state := by
  simp only [State.setRotation, part_byte_zero, ofNat?_pump]
  cases s.dsq.queue.contains p <;> rfl

theorem setRotation_effect {s : State} {l : Link} (taking : s.taking l) (seat : s.holds l = true) (p : Pump)
    (queued : s.dsq.queue.contains p = true) :
    Gives (.setRotation l [BitVec.ofNat 8 p.toNat]) s fun t =>
      t = ((((s.arrive l).setQueue (p :: s.dsq.queue.filter (· != p))).reform).give l 0x34 (.done [])) ∧ DoneOn s t l 0x34 := by
  have same : (s.arrive l).dsq = s.dsq := only_arrive s l .dsq (by decide)
  have work := (s.arrive l).setRotation_named p
  rw [same, if_pos queued] at work
  have only : OnlyIn reformParts (s.arrive l) ((s.arrive l).setQueue (p :: s.dsq.queue.filter (· != p))).reform :=
    ((only_setQueue _ _).mono (by decide)).trans (only_reform _)
  exact ⟨_, congrArg Host.Outcome.next (request_carried taking seat 0x34 work), rfl, doneOn_give 0x34 only (by decide) (by decide)⟩

/-! ### CLEAR_LOCKOUT -/

theorem State.clearLockout_named (s : State) (l : Link) (p : Pump) :
    s.clearLockout l [BitVec.ofNat 8 p.toNat] =
      if s.pumpIn p && (s.ppr.get p).protection == .lockedOut then (s.clear l p).carryOut else s.refuse .state := by
  simp only [State.clearLockout, part_byte_zero, ofNat?_pump]

/-- A pump cleared of its lockout, before its conditions are judged (R78). -/
def ProtectedPump.cleared (r : ProtectedPump) : ProtectedPump :=
  { r with trips := 0, protection := .healthy, lastTrip := none, forgive := none }

/-- The lockout ended and recorded (R78). -/
def State.unlocked (s : State) (l : Link) (p : Pump) : State :=
  (((s.modProt p ProtectedPump.cleared).report .pumps).setCondition (.pump p .lockout) false).append (.lockoutCleared p l)

theorem State.clear_eq (s : State) (l : Link) (p : Pump) :
    s.clear l p = (((s.unlocked l p).judgeFaults p).overtempAtOnce p).dutyEvent s.autoCommanded := rfl

theorem only_unlocked (s : State) (l : Link) (p : Pump) : OnlyIn [.ppr, .alm, .src] s (s.unlocked l p) :=
  ((((only_modProt s p _).mono (by decide)).trans ((only_report _ _).mono (by decide))).trans
    ((only_setCondition _ _ _).mono (by decide))).trans ((only_append _ _).mono (by decide))

theorem State.unlocked_ppr (s : State) (l : Link) (p : Pump) : (s.unlocked l p).ppr.get p = (s.ppr.get p).cleared := by
  rw [State.unlocked, only_append _ _ .ppr (by decide), only_setCondition _ _ _ .ppr (by decide)]
  exact Quad.get_modify_self _ _ _

theorem State.unlocked_lockout (s : State) (l : Link) (p : Pump) : (s.unlocked l p).condition (.pump p .lockout) = false := by
  rw [State.unlocked, State.condition, State.point]
  exact State.condition_setCondition_self _ _ _

theorem records_unlocked (s : State) (l : Link) (p : Pump) : Records [.lockoutCleared p l] s (s.unlocked l p) :=
  (((Records.modProt s p _).trans (.report _ _)).trans (.setCondition _ _ _)).trans (.append _ _)

section
variable {s : State} (l : Link) {p : Pump} (installed : s.pumpIn p = true)
include installed

/-- A cleared pump judged: watched, with its counter and its last trip at nothing. -/
theorem unlocked_judged :
    ((s.unlocked l p).judgeFaults p).ppr.get p = (s.unlocked l p).judgedPump p := by
  have only := only_unlocked s l p
  refine State.judgeFaults_watched _ p ?_ ?_
  · exact (State.pumpIn_congr (only .inputs (by decide)) (only .cfg (by decide)) p).trans installed
  · rw [s.unlocked_ppr]
    rfl

/-- The OVERTEMP timer of a cleared pump follows its contact. -/
theorem unlocked_overtemp :
    (((s.unlocked l p).judgeFaults p).ppr.get p).faults.overtemp =
      if s.inputs.overtemp.get p then some ((s.ppr.get p).faults.overtemp.getD s.uptime) else none := by
  have only := only_unlocked s l p
  rw [State.judgeFaults_overtemp _ p ((State.pumpIn_congr (only .inputs (by decide)) (only .cfg (by decide)) p).trans installed)
    (by rw [s.unlocked_ppr]; rfl), s.unlocked_ppr, only .inputs (by decide), only .uptime (by decide)]
  rfl

/-- A pump that is not hot, or whose OVERTEMP condition has a duration, is cleared without a trip (R66, R78). -/
theorem clear_cool (timed : s.img.prot.overtempS ≠ 0 ∨ s.inputs.overtemp.get p = false) :
    let t := s.clear l p
    (t.ppr.get p).trips = 0 ∧ (t.ppr.get p).protection.watched = true ∧ (t.ppr.get p).lastTrip = none ∧
      t.condition (.pump p .lockout) = false ∧ t.newestRecord = some (.lockoutCleared p l) ∧
      (s.inAuto p = true → t.dsq.queue.contains p = true) := by
  have only := only_unlocked s l p
  have judged := unlocked_judged l installed
  have overtemp := unlocked_overtemp l installed
  have faults := only_judgeFaults (s.unlocked l p) p
  have untripped : ((s.unlocked l p).judgeFaults p).overtempAtOnce p = (s.unlocked l p).judgeFaults p := by
    rcases timed with timed | cool
    · rw [State.overtempAtOnce, State.img, faults .cfg (by decide), only .cfg (by decide)]
      exact if_neg timed
    · exact State.overtempAtOnce_of_none _ p (by rw [overtemp, if_neg (by simp [cool])])
  have record : ((s.unlocked l p).judgeFaults p).newestRecord = some (.lockoutCleared p l) :=
    (State.newestRecord_congr (congrArg StationRecord.log (faults .src (by decide)))).trans (State.newestRecord_append _ _)
  have lockout : ((s.unlocked l p).judgeFaults p).condition (.pump p .lockout) = false :=
    ((points_judgeFaults (A := ∅) (s.unlocked l p) p).condition (by simp)).trans (s.unlocked_lockout l p)
  have auto : ((s.unlocked l p).judgeFaults p).inAuto p = s.inAuto p :=
    State.inAuto_congr ((faults .inputs (by decide)).trans (only .inputs (by decide)))
      ((faults .cfg (by decide)).trans (only .cfg (by decide))) p
  intro t
  rw [show t = _ from (s.clear_eq l p).trans (congrArg (State.dutyEvent · s.autoCommanded) untripped)]
  generalize (s.unlocked l p).judgeFaults p = v at *
  have after := moves_dutyEvent v s.autoCommanded
  have kept := after.judged p
  have watched : (v.ppr.get p).protection.watched = true := by
    rw [judged, State.judgedPump]
    dsimp only
    split <;> rfl
  refine ⟨kept.trips.trans ?_, kept.watched.trans watched, kept.lastTrip.trans ?_, (after.condition (by simp)).trans lockout,
    (State.newestRecord_congr (by rw [after.src])).trans record, fun inAuto => ?_⟩
  · rw [judged, State.judgedPump, s.unlocked_ppr]
    rfl
  · rw [judged, State.judgedPump, s.unlocked_ppr]
    rfl
  · rw [contains_queue_dutyEvent, State.member, auto, inAuto, watched]
    rfl

/-- A hot pump with `overtemp_s` 0 trips within the event that clears it (R66, R73, R77). -/
theorem clear_hot (unheated : (s.ppr.get p).faults.overtemp = none) (timeless : s.img.prot.overtempS = 0)
    (hot : s.inputs.overtemp.get p = true) :
    let t := s.clear l p
    (t.ppr.get p).trips = 1 ∧ (t.ppr.get p).faults = .allStopped ∧
      (t.ppr.get p).protection = (if s.img.prot.lockoutTrips ≤ 1 then .lockedOut else .tripped) ∧
      (t.ppr.get p).lastTrip = some (.overtemp, s.uptime) ∧ t.runCmd p = false ∧ t.dsq.queue.contains p = false ∧
      Records (.lockoutCleared p l :: tripBodies s.img.prot.lockoutTrips p .overtemp 1) s t := by
  have only := only_unlocked s l p
  have judged := unlocked_judged l installed
  have overtemp := unlocked_overtemp l installed
  have faults := only_judgeFaults (s.unlocked l p) p
  have records : Records [.lockoutCleared p l] s ((s.unlocked l p).judgeFaults p) := (records_unlocked s l p).trans (.judgeFaults _ p)
  have img : ((s.unlocked l p).judgeFaults p).img = s.img := by
    rw [State.img, State.img, faults .cfg (by decide), only .cfg (by decide)]
  have time : ((s.unlocked l p).judgeFaults p).uptime = s.uptime := (faults .uptime (by decide)).trans (only .uptime (by decide))
  have count : (((s.unlocked l p).judgeFaults p).ppr.get p).trips = 0 := by
    rw [judged, State.judgedPump, s.unlocked_ppr]
    rfl
  intro t
  have eq : t = _ := s.clear_eq l p
  rw [hot, unheated] at overtemp
  generalize (s.unlocked l p).judgeFaults p = v at *
  have due : v.faultRun p .overtemp = true := by
    rw [State.faultRun_eq, show (v.ppr.get p).faults.get .overtemp = _ from overtemp, img, time,
      show s.img.faultSeconds .overtemp = 0 from timeless]
    simp [ran]
  have tripped : v.overtempAtOnce p = v.tripPump p .overtemp := by
    rw [State.overtempAtOnce, img, if_pos timeless]
    exact if_pos due
  obtain ⟨⟨r, _, self⟩, off⟩ := v.tripPump_self p .overtemp
  have trip := records.trans (records_tripPump v p .overtemp)
  rw [count, img] at trip
  rw [count, time, img] at self
  rw [eq, tripped]
  generalize v.tripPump p .overtemp = w at *
  have after := moves_dutyEvent w s.autoCommanded
  have kept := after.judged p
  have unwatched : (w.ppr.get p).protection.watched = false := by
    rw [self]
    exact r.tripped_watched _ _ _ _
  have out : w.member p = false := by rw [State.member, unwatched, Bool.and_false]
  obtain ⟨protection, stopped⟩ := kept.rests (by rw [unwatched, Bool.and_false])
  exact ⟨by rw [kept.trips, self]; rfl, by rw [stopped, self]; rfl, by rw [protection, self]; rfl, by rw [kept.lastTrip, self]; rfl,
    (dutyEvent_off w _ out off).1, (contains_queue_dutyEvent w _ p).trans out,
    by simpa using trip.trans (.moves after)⟩

end

theorem only_clear (s : State) (l : Link) (p : Pump) : OnlyIn [.dsq, .spm, .ppr, .scr, .fbl, .alm, .src] s (s.clear l p) := by
  rw [s.clear_eq]
  exact ((((only_unlocked s l p).mono (by decide)).trans ((only_judgeFaults _ _).mono (by decide))).trans
    ((only_overtempAtOnce _ _).mono (by decide))).trans ((only_dutyEvent _ _).mono (by decide))

section
variable {s : State} {l : Link} (taking : s.taking l) (seat : s.holds l = true) {p : Pump}
include taking seat

/-- A lockout cleared on the state that its frame arrived in is answered DONE. -/
theorem clearLockout_done (installed : s.pumpIn p = true) (locked : (s.ppr.get p).protection = .lockedOut) :
    let t := ((s.arrived l).clear l p).give l 0x35 (.done [])
    exec (.clearLockout l [BitVec.ofNat 8 p.toNat]) s = .next t ∧ DoneOn s t l 0x35 ∧
      OnlyIn [.dsq, .spm, .ppr, .scr, .fbl, .alm, .src, .lnk] s t := by
  have only := only_clear (s.arrive l) l p
  have work : (s.arrive l).clearLockout l [BitVec.ofNat 8 p.toNat] = ((s.arrive l).clear l p).carryOut := by
    rw [State.clearLockout_named, State.arrive_eq_arrived]
    refine if_pos ?_
    rw [show (s.arrived l).pumpIn p = true from installed, show ((s.arrived l).ppr.get p).protection = _ from locked]
    rfl
  rw [← State.arrive_eq_arrived]
  exact ⟨congrArg Host.Outcome.next (request_carried taking seat 0x35 work), doneOn_give 0x35 only (by decide) (by decide),
    (only_carried 0x35 only).mono (by decide)⟩

theorem clearLockout_refused (other : s.pumpIn p = false ∨ (s.ppr.get p).protection ≠ .lockedOut) :
    Gives (.clearLockout l [BitVec.ofNat 8 p.toNat]) s fun t => Answered s t l (refusal 0x35 .state) := by
  refine ⟨_, rfl, answered_refusal taking seat 0x35 ?_⟩
  rw [State.clearLockout_named, State.arrive_eq_arrived]
  refine if_neg fun both => ?_
  obtain ⟨installed, locked⟩ := (Bool.and_eq_true _ _).mp both
  rcases other with out | unlocked
  · exact Bool.false_ne_true (out.symm.trans installed)
  · exact unlocked (eq_of_beq locked)

theorem setRotation_refused (out : s.dsq.queue.contains p = false) :
    Gives (.setRotation l [BitVec.ofNat 8 p.toNat]) s fun t => Answered s t l (refusal 0x34 .state) := by
  refine ⟨_, rfl, answered_refusal taking seat 0x34 ?_⟩
  rw [State.setRotation_named, State.arrive_eq_arrived]
  exact if_neg (by rw [show (s.arrived l).dsq.queue.contains p = false from out]; exact Bool.false_ne_true)

theorem pumpCommand_refused {a v : Nat} (action : a ≤ 2) (speed : v ≤ 100) (out : s.dsq.queue.contains p = false) :
    Gives (.pumpCommand l [BitVec.ofNat 8 p.toNat, BitVec.ofNat 8 a, BitVec.ofNat 8 v]) s fun t =>
      Answered s t l (refusal 0x33 .state) := by
  refine ⟨_, rfl, answered_refusal taking seat 0x33 ?_⟩
  rw [State.arrive_eq_arrived]
  exact (s.arrived l).pumpCommand_outside l p action speed out

end

/-- Settles O10: each request is its block's work on the state its frame arrived in, and the answer. -/
theorem pumpRequests : Obligations.PumpRequests := by
  intro s l taking seat
  refine ⟨fun p a v action speed => ⟨rfl, fun queued => ⟨?_, setRotation_effect taking seat p queued⟩, fun out =>
      ⟨pumpCommand_refused taking seat action speed out, setRotation_refused taking seat out⟩⟩,
    fun p a v => ⟨fun bad => ?_, fun bad => ?_, fun bad => ⟨?_, ?_⟩⟩, fun p => ⟨fun installed locked timed => ?_,
    fun installed locked unheated timeless hot => ?_, clearLockout_refused taking seat⟩⟩
  · obtain ⟨t, step, mine, others, stops, done, only⟩ := pumpCommand_effect taking seat p action speed queued
    exact ⟨t, step, mine, others, fun stop _ => stops stop, done, only⟩
  · exact ⟨_, rfl, answered_refusal taking seat 0x33 ((s.arrive l).pumpCommand_range l p a v bad)⟩
  · exact ⟨_, rfl, answered_refusal taking seat 0x33 ((s.arrive l).pumpCommand_range l p a 0 (by tauto))⟩
  · refine ⟨_, rfl, answered_refusal taking seat 0x34 ?_⟩
    simp only [State.setRotation, part_byte_zero, ofNat?_outside bad]
  · refine ⟨_, rfl, answered_refusal taking seat 0x35 ?_⟩
    simp only [State.clearLockout, part_byte_zero, ofNat?_outside bad]
  · obtain ⟨step, done, only⟩ := clearLockout_done taking seat installed locked
    obtain ⟨trips, watched, lastTrip, lockout, record, queue⟩ := clear_cool (s := s.arrived l) l installed timed
    exact ⟨_, step, trips, watched, lastTrip, lockout, record, queue, done, only⟩
  · obtain ⟨step, done, only⟩ := clearLockout_done taking seat installed locked
    obtain ⟨trips, faults, protection, lastTrip, off, queue, records⟩ :=
      clear_hot (s := s.arrived l) l installed unheated timeless hot
    refine ⟨_, step, trips, faults, protection, lastTrip, off, queue, fun ok room => ?_, done, only⟩
    have few : (tripBodies s.img.prot.lockoutTrips p .overtemp 1).length ≤ 2 := by
      unfold tripBodies
      split <;> simp
    refine records.ends ok ?_ (by simp) (by rw [List.length_cons]; exact Nat.le_trans (Nat.succ_le_succ few) (by decide))
    rw [List.length_cons]
    exact Nat.le_trans (Nat.add_le_add_left (Nat.succ_le_succ few) _) room

end Sys2Proof.Machine
end

section
/-! What a start appends to the event log and makes of the day in progress (R125, R157, R158, R163, R168, R169, R190). -/

namespace Sys2Proof.Machine

/-! ### The day in progress -/

/-- The Station Record without its log: the clock, the day in progress and its figures. -/
def StationRecord.dayPart (r : StationRecord) : StationRecord := { r with log := [], nextSeq := 1, cursors := .fill 1 }

theorem StationRecord.dayPart_wrap (r : StationRecord) : r.wrap.dayPart = r.dayPart := by
  unfold StationRecord.wrap
  split <;> rfl

theorem StationRecord.dayPart_makeRoom (r : StationRecord) : r.makeRoom.dayPart = r.dayPart := by
  unfold StationRecord.makeRoom
  split
  · split <;> rfl
  · rfl

/-- What reads no log is read from the day's part. -/
theorem StationRecord.of_dayPart {α : Type} {r q : StationRecord} (f : StationRecord → α) (ignores : ∀ r, f r.dayPart = f r)
    (h : r.dayPart = q.dayPart) : f r = f q := by rw [← ignores, h, ignores]

/-- An append leaves the clock, the day and the figures alone. -/
theorem State.append_dayPart (s : State) (b : RecordBody) : (s.append b).src.dayPart = s.src.dayPart :=
  (StationRecord.dayPart_makeRoom _).trans (StationRecord.dayPart_wrap _)

/-- Records that an event appends while the day goes on as it was. -/
structure Noting (bs : List RecordBody) (s t : State) : Prop where
  records : Records bs s t
  day : t.src.dayPart = s.src.dayPart
  only : OnlyIn [.alm, .src] s t

namespace Noting
variable {bs cs : List RecordBody} {s t u : State}

theorem refl (s : State) : Noting [] s s := ⟨.refl s, rfl, .refl _ _⟩

theorem trans (h : Noting bs s t) (k : Noting cs t u) : Noting (bs ++ cs) s u :=
  ⟨h.records.trans k.records, k.day.trans h.day, h.only.trans k.only⟩

theorem append (s : State) (b : RecordBody) : Noting [b] s (s.append b) :=
  ⟨.append s b, s.append_dayPart b, (only_append s b).mono (by decide)⟩

/-- One unit after another, each with the record, if any, that the event has for it. -/
theorem each {α : Type} {f : State → α → State} {body : α → Option RecordBody} (now : Stamp)
    (step : ∀ u a, u.now = now → Noting (body a).toList u (f u a)) (xs : List α) {s : State} (at_s : s.now = now) :
    Noting (xs.filterMap body) s (s.each xs f) := by
  induction xs generalizing s with
  | nil => exact .refl s
  | cons a rest ih =>
    have first := step s a at_s
    have all := first.trans (ih (first.records.now.trans at_s))
    rw [List.filterMap_cons]
    cases e : body a with
    | none => simpa [e] using all
    | some b => simpa [e] using all

end Noting

/-! ### The records of a start -/

/-- The record that a start makes of an episode that was open (R125). -/
def lostRecord (kept : OverflowMonitor) (now : Stamp) (pt : Point) : Option RecordBody :=
  match kept.points.get pt with
  | some r =>
    if r.state.opened then
      r.episode.map fun e =>
        .overflowEnd pt e.startTime now e.age e.peak (e.volume / 10) .powerLoss (e.crossedDay || e.startTime.datesDiffer now)
    else none
  | none => none

theorem noting_closeLost (s : State) (pt : Point) (r : PointRec) :
    Noting (if r.state.opened then
      (r.episode.map fun e => RecordBody.overflowEnd pt e.startTime s.now e.age e.peak (e.volume / 10) .powerLoss
        (e.crossedDay || e.startTime.datesDiffer s.now)) else none).toList s (s.closeLost pt r) := by
  unfold State.closeLost
  cases r.episode with
  | none => cases r.state.opened <;> exact .refl s
  | some e =>
    cases r.state.opened with
    | false => exact .refl s
    | true => exact .append s _

theorem noting_closeAllLost (s : State) (kept : OverflowMonitor) :
    Noting (No2.all.filterMap (lostRecord kept s.now)) s (s.closeAllLost kept) := by
  refine Noting.each s.now (fun u pt now => ?_) No2.all rfl
  rw [← now, lostRecord]
  cases kept.points.get pt with
  | none => exact .refl u
  | some r => exact noting_closeLost u pt r

/-! ### The owed day -/

/-- The date that a start finds the clock at, where the day in progress is another (R163, R169). -/
def State.owedDate (s : State) : Option Date :=
  match s.src.clock with
  | some r => if s.src.day = some r.date then none else some r.date
  | none => none

theorem State.closeOwedDay_eq (s : State) :
    s.closeOwedDay =
      match s.owedDate with
      | some d => s.closeDay d false
      | none => s := by
  unfold State.closeOwedDay State.owedDate
  cases s.src.clock with
  | none => rfl
  | some r =>
    by_cases same : s.src.day = some r.date
    · simp only [same, if_true]
    · simp only [same, if_false]

/-- A day closed without a level and without an episode: the summary is the record, and the next day begins at nothing (R163, R165). -/
theorem State.closeDay_idle (s : State) (next : Date) (changed : Bool) (level : s.controlLevel = none)
    (shut : ∀ pt r, s.ovm.points.get pt = some r → r.episode = none) :
    s.closeDay next changed =
      (s.append (.dailySummary (s.summary (s.src.day.getD next)))).modSrc fun src =>
        { src with day := some next, clockChanged := changed, acc := Accumulators.zero } := by
  have unoffered : ∀ u : State, u.lvu = s.lvu → u.offerPeak = u := fun u lvu => by
    rw [State.offerPeak, (SameLevels.of_lvu lvu).controlLevel, level]
  unfold State.closeDay
  dsimp only
  rw [unoffered ((s.append _).modSrc _) rfl]
  exact State.crossDay_of_no_episode _ shut

theorem State.summary_congr {s t : State} (cfg : t.cfg = s.cfg) (day : t.src.dayPart = s.src.dayPart) (d : Date) :
    t.summary d = s.summary d := by
  have acc : t.src.acc = s.src.acc := StationRecord.of_dayPart (·.acc) (fun _ => rfl) day
  have changed : t.src.clockChanged = s.src.clockChanged := StationRecord.of_dayPart (·.clockChanged) (fun _ => rfl) day
  have img : t.img = s.img := by rw [State.img, State.img, cfg]
  have pumps : t.pumpIn = s.pumpIn := funext fun p => congrArg (fun m : Image => decide (p.toNat ≤ m.units.pumpsInstalled)) img
  have points : t.pointIn = s.pointIn := funext fun pt => congrArg (fun m : Image => decide (pt.toNat ≤ m.units.pointsInstalled)) img
  have screens : t.screenIn = s.screenIn :=
    funext fun sc => congrArg (fun m : Image => decide (sc.toNat ≤ m.units.screensInstalled)) img
  simp only [State.summary, State.pumpList, State.pointList, State.screenList, pumps, points, screens, acc, changed]

/-- The summary record of the day that is owed. -/
def State.owedSummary (s : State) : List RecordBody :=
  match s.owedDate with
  | some d => [.dailySummary (s.summary (s.src.day.getD d))]
  | none => []

/-- The Station Record as the owed day leaves it (R163). -/
def StationRecord.afterDay (r : StationRecord) (owed : Option Date) : StationRecord :=
  match owed with
  | some d => { r with day := some d, clockChanged := false, acc := .zero }
  | none => r

theorem closeOwedDay_idle (s : State) (level : s.controlLevel = none)
    (shut : ∀ pt r, s.ovm.points.get pt = some r → r.episode = none) :
    Records s.owedSummary s s.closeOwedDay ∧ s.closeOwedDay.src.dayPart = s.src.dayPart.afterDay s.owedDate ∧
      OnlyIn [.alm, .src] s s.closeOwedDay := by
  rw [State.closeOwedDay_eq, State.owedSummary]
  cases s.owedDate with
  | none => exact ⟨.refl s, rfl, .refl _ _⟩
  | some d =>
    dsimp only
    rw [s.closeDay_idle d false level shut]
    refine ⟨(Records.append s _).trans (.of_kept rfl rfl rfl), ?_,
      ((only_append s _).mono (by decide)).trans ((only_modSrc _ _).mono (by decide))⟩
    have kept := s.append_dayPart (.dailySummary (s.summary (s.src.day.getD d)))
    exact congrArg (fun r : StationRecord => { r with day := some d, clockChanged := false, acc := Accumulators.zero }) kept

theorem State.owedDate_congr {s t : State} (day : t.src.dayPart = s.src.dayPart) : t.owedDate = s.owedDate := by
  have clock : t.src.clock = s.src.clock := StationRecord.of_dayPart (·.clock) (fun _ => rfl) day
  have date : t.src.day = s.src.day := StationRecord.of_dayPart (·.day) (fun _ => rfl) day
  simp only [State.owedDate, clock, date]

/-! ### The start's own records -/

theorem State.restart_controlLevel (s : State) : s.restart.controlLevel = none := rfl

theorem State.restart_shut (s : State) (pt : Point) (r : PointRec) (here : s.restart.ovm.points.get pt = some r) : r.episode = none := by
  rw [State.restart_record] at here
  split at here
  · cases here
    rfl
  · cases here

/-- The records of a start but for its trips: POWER, the episodes lost and the owed day (R125, R169, R190). -/
def State.startBodies (s : State) : List RecordBody :=
  .power s.marker s.inputs.onGenerator ::
    if s.marker then No2.all.filterMap (lostRecord s.ovm s.restart.now) ++ s.restart.owedSummary else []

theorem recordStart_effect (s : State) :
    let u := s.restart.recordStart s.marker s.ovm
    Records s.startBodies s.restart u ∧
      u.src.dayPart = s.restart.src.dayPart.afterDay (if s.marker then s.restart.owedDate else none) ∧
      OnlyIn [.alm, .src] s.restart u := by
  have power := Noting.append s.restart (.power s.marker s.inputs.onGenerator)
  unfold State.startBodies
  cases warm : s.marker with
  | false =>
    rw [warm] at power
    exact ⟨power.records, power.day, power.only⟩
  | true =>
    rw [warm] at power
    have lost := power.trans (noting_closeAllLost _ s.ovm)
    rw [power.records.now] at lost
    intro u
    have eq : u = ((s.restart.append (.power true s.inputs.onGenerator)).closeAllLost s.ovm).closeOwedDay := rfl
    clear_value u
    generalize (s.restart.append (.power true s.inputs.onGenerator)).closeAllLost s.ovm = v at *
    have level : v.controlLevel = none := by
      rw [(SameLevels.of_lvu (lost.only .lvu (by decide) : v.lvu = s.restart.lvu)).controlLevel, s.restart_controlLevel]
    obtain ⟨records, day, only⟩ := closeOwedDay_idle v level fun pt r here =>
      s.restart_shut pt r (by rwa [lost.only .ovm (by decide)] at here)
    have owed : v.owedDate = s.restart.owedDate := State.owedDate_congr lost.day
    have summary : v.owedSummary = s.restart.owedSummary := by
      have date : v.src.day = s.restart.src.day := StationRecord.of_dayPart (·.day) (fun _ => rfl) lost.day
      simp only [State.owedSummary, owed, date, State.summary_congr (lost.only .cfg (by decide)) lost.day]
    rw [summary] at records
    rw [lost.day, owed] at day
    rw [eq]
    exact ⟨lost.records.trans records, day, lost.only.trans only⟩

end Sys2Proof.Machine
end

section
/-! What a start makes of each pump's protection and points (R66, R73, R77, R79, R86). -/

namespace Sys2Proof.Machine

/-! ### The pumps as a start takes them over -/

/-- A pump's protection at a start, before its conditions are judged (R79, R86). -/
theorem State.restart_pump (s : State) (p : Pump) :
    s.restart.ppr.get p =
      { ProtectedPump.atStart with
        protection := if s.lockedAtStart p then .lockedOut else .healthy
        trips := s.tripsAtStart (s.cfg.stored.getD .defaults).prot.lockoutTrips p } := by
  have taken : s.restart.ppr.get p =
      if s.marker then ((s.ppr.get p).limit (s.cfg.stored.getD .defaults).prot.lockoutTrips).warm else .atStart := by
    simp only [State.restart, protectionAtStart]
    cases s.marker <;> cases p <;> rfl
  rw [taken]
  cases warm : s.marker with
  | false => simp [State.lockedAtStart, State.tripsAtStart, warm, ProtectedPump.atStart]
  | true =>
    by_cases locked : (s.ppr.get p).protection = .lockedOut
    · simp [State.lockedAtStart, State.tripsAtStart, warm, locked, ProtectedPump.limit, ProtectedPump.warm]
    · have count : ∀ l, ((s.ppr.get p).limit l).trips = min (s.ppr.get p).trips (l - 1) := fun l => by
        rw [ProtectedPump.limit, if_neg locked]
        split
        · show l - 1 = _
          omega
        · omega
      have still : ∀ l, ((s.ppr.get p).limit l).protection = (s.ppr.get p).protection := fun l => by
        rw [ProtectedPump.limit, if_neg locked]
        split <;> rfl
      simp [State.lockedAtStart, State.tripsAtStart, warm, locked, ProtectedPump.warm, count, still]

/-- A pump that a start finds hot, LOCKED_OUT excepted (R66, R86). -/
def State.hotAtStart (s : State) (p : Pump) : Bool := s.restart.pumpIn p && !s.lockedAtStart p && s.inputs.overtemp.get p

/-- A pump's protection at a start once its conditions are judged (R86). -/
def State.judgedAtStart (s : State) (p : Pump) : ProtectedPump :=
  let r := s.restart.ppr.get p
  let met := r.met 0 (s.inputs.sealLeak.get p) (s.restart.inAuto p && s.runFb p) (.stopWatch (some 0))
  if s.restart.pumpIn p then
    { met with
      faults := { FaultTimers.allStopped with overtemp := if s.hotAtStart p then some 0 else none }
      protection := if s.hotAtStart p then .alert else r.protection }
  else r

theorem modeOf_auto (auto hand : Bool) : (some (modeOf auto hand) == some Mode.auto) = (auto && !hand) := by
  cases auto <;> cases hand <;> rfl

/-- The start's judgement and its trip make of a pump what the rules say (R73, R77, R86). -/
theorem State.pumpAtStart_eq (s : State) (p : Pump) :
    let m := s.cfg.stored.getD .defaults
    s.pumpAtStart m p =
      if s.tripsHot m p then
        (s.judgedAtStart p).tripped .overtemp (s.tripsAtStart m.prot.lockoutTrips p + 1) 0 m.prot.lockoutTrips
      else s.judgedAtStart p := by
  intro m
  have installed : s.restart.pumpIn p = decide (p.toNat ≤ m.units.pumpsInstalled) := rfl
  have auto : s.restart.inAuto p = (decide (p.toNat ≤ m.units.pumpsInstalled) && (s.inputs.hoaAuto.get p && !s.inputs.hoaHand.get p)) := by
    rw [State.inAuto, State.mode, installed, ← modeOf_auto]
    cases decide (p.toNat ≤ m.units.pumpsInstalled) <;> rfl
  have judged : s.judgedAtStart p =
      { ProtectedPump.atStart with
        protection := if s.lockedAtStart p then .lockedOut else if s.hotAtStart p then .alert else .healthy
        trips := s.tripsAtStart m.prot.lockoutTrips p
        faults := { FaultTimers.allStopped with overtemp := if s.hotAtStart p then some 0 else none }
        forgive :=
          if s.restart.pumpIn p && s.tripsAtStart m.prot.lockoutTrips p != 0 && !s.lockedAtStart p then some 0 else none
        sealTimer := if s.restart.pumpIn p && s.inputs.sealLeak.get p then some 0 else none
        watch := if s.restart.inAuto p && s.runFb p then .stopWatch (some 0) else .idle } := by
    unfold State.judgedAtStart State.hotAtStart
    rw [auto, installed, s.restart_pump]
    cases decide (p.toNat ≤ m.units.pumpsInstalled) with
    | false => simp [ProtectedPump.atStart, FaultTimers.allStopped, m]
    | true =>
      cases locked : s.lockedAtStart p <;>
        simp [ProtectedPump.met, ProtectedPump.atStart, m]
  rw [judged]
  simp only [State.pumpAtStart, State.hotAtStart, auto, installed, Bool.and_assoc, ProtectedPump.tripped]
  rfl

/-! ### The judgement of the pumps -/

theorem only_judgePump (s : State) (p : Pump) (w : Watch) : OnlyIn [.ppr, .alm] s (s.judgePump p w) := by
  rw [State.judgePump_eq]
  exact (only_meet s p w).trans (only_judgeFaults _ p)

theorem points_judgePump (s : State) (p : Pump) (w : Watch) :
    OnlyPoints {.pump p .lockout, .pump p .switchFault} s (s.judgePump p w) := by
  rw [State.judgePump_eq]
  have met : OnlyPoints {.pump p .lockout, .pump p .switchFault} s (s.meet p w) :=
    ((OnlyPoints.of_only (only_modProt s p _) (by decide)).trans ((points_setCondition _ _ _).mono (by simp))).trans
      ((points_setCondition _ _ _).mono (by simp))
  exact met.trans (points_judgeFaults _ p)

theorem pumpPart_judgePump_ne (s : State) (p q : Pump) (w : Watch) (h : q ≠ p) : pumpPart q (s.judgePump p w) = pumpPart q s :=
  (noted_judgePump s p w).pumpPart (s.judgePump_ppr_ne w h) fun k => not_mem_pumpPoints h k

/-- Of a STOPPED pump only the OVERTEMP condition can be present (R66 to R71). -/
theorem State.faultTimersNow_stopped (s : State) (p : Pump) (stopped : s.runState p = .stopped)
    (still : (s.ppr.get p).faults = .allStopped) :
    s.faultTimersNow p = { FaultTimers.allStopped with overtemp := if s.inputs.overtemp.get p then some s.uptime else none } := by
  simp only [State.faultTimersNow, State.faultTimerNow, State.faultPresent, stopped, still]
  rfl

/-- A state of the start in which a pump is as the restart left it. -/
structure AtStart (s : State) (p : Pump) (u : State) : Prop where
  part : pumpPart p u = pumpPart p s.restart
  only : OnlyIn [.marker, .ppr, .alm, .src] s.restart u

theorem State.restart_pumpPart (s : State) (p : Pump) :
    pumpPart p s.restart = (s.restart.ppr.get p, fun _ => PointEntry.atStart, RunState.stopped) := by
  refine Prod.ext rfl (Prod.ext ?_ (by cases p <;> rfl))
  funext k
  simp [pumpPart, State.point, State.restart, AlarmUnit.atStart]

namespace AtStart
variable {s u : State} {p : Pump}

theorem ppr (h : AtStart s p u) : u.ppr.get p = s.restart.ppr.get p := congrArg Prod.fst h.part

theorem stopped (h : AtStart s p u) : u.runState p = .stopped :=
  (congrArg (fun q : ProtectedPump × (PumpAlarm → PointEntry) × RunState => q.2.2) (h.part.trans (s.restart_pumpPart p)))

theorem clear (h : AtStart s p u) (k : PumpAlarm) : u.condition (.pump p k) = false := by
  have point : u.point (.pump p k) = .atStart :=
    congrArg (fun q : ProtectedPump × (PumpAlarm → PointEntry) × RunState => q.2.1 k) (h.part.trans (s.restart_pumpPart p))
  rw [State.condition, point]
  rfl

theorem inputs (h : AtStart s p u) : u.inputs = s.inputs := h.only .inputs (by decide)

theorem pumpIn (h : AtStart s p u) : u.pumpIn p = s.restart.pumpIn p :=
  State.pumpIn_congr (h.only .inputs (by decide)) (h.only .cfg (by decide)) p

theorem inAuto (h : AtStart s p u) : u.inAuto p = s.restart.inAuto p :=
  State.inAuto_congr (h.only .inputs (by decide)) (h.only .cfg (by decide)) p

theorem uptime (h : AtStart s p u) : u.uptime = 0 := h.only .uptime (by decide)

/-- The judgement of a pump at a start (R86). -/
theorem judged (h : AtStart s p u) (installed : s.restart.pumpIn p = true) :
    (u.judgePump p (.stopWatch (some u.uptime))).ppr.get p = s.judgedAtStart p := by
  have met := u.meet_ppr p (.stopWatch (some u.uptime))
  have only := only_meet u p (.stopWatch (some u.uptime))
  have feedback : u.runFb p = s.runFb p := by rw [State.runFb, h.inputs, State.runFb]
  rw [h.ppr, h.uptime, h.inputs, h.inAuto, feedback] at met
  have installed' : (u.meet p (.stopWatch (some u.uptime))).pumpIn p = true :=
    (State.pumpIn_congr (only .inputs (by decide)) (only .cfg (by decide)) p).trans (h.pumpIn.trans installed)
  have contact : (u.meet p (.stopWatch (some u.uptime))).inputs = s.inputs := (only .inputs (by decide)).trans h.inputs
  have time : (u.meet p (.stopWatch (some u.uptime))).uptime = 0 := (only .uptime (by decide)).trans h.uptime
  have stopped : (u.meet p (.stopWatch (some u.uptime))).runState p = .stopped := by
    rw [State.runState, only .dsq (by decide)]
    exact h.stopped
  rw [State.judgePump_eq]
  rw [h.uptime] at *
  generalize u.meet p (.stopWatch (some 0)) = v at *
  have restart := s.restart_pump p
  cases locked : s.lockedAtStart p with
  | true =>
    rw [locked, if_pos rfl] at restart
    rw [v.judgeFaults_unwatched p (.inr (by rw [met, restart]; rfl)), met, State.judgedAtStart, installed, if_pos rfl,
      State.hotAtStart, locked, restart]
    simp [ProtectedPump.met, ProtectedPump.atStart, FaultTimers.allStopped]
  | false =>
    rw [locked, if_neg Bool.false_ne_true] at restart
    have watched : (v.ppr.get p).protection.watched = true := by rw [met, restart]; rfl
    rw [v.judgeFaults_watched p installed' watched, State.judgedPump,
      v.faultTimersNow_stopped p stopped (by rw [met, restart]; rfl), contact, time, met, State.judgedAtStart, installed, if_pos rfl,
      State.hotAtStart, locked, installed, restart]
    cases s.inputs.overtemp.get p <;> rfl

end AtStart

/-- A pump that the start has judged: its protection, and its conditions (R86). -/
structure StartMet (s : State) (p : Pump) (u : State) : Prop where
  ppr : u.ppr.get p = s.judgedAtStart p
  lockout : u.condition (.pump p .lockout) = (s.restart.pumpIn p && s.lockedAtStart p)
  switchFault : u.condition (.pump p .switchFault) = (s.restart.mode p == some .switchFault)
  clear : ∀ k, k ≠ .lockout → k ≠ .switchFault → u.condition (.pump p k) = false
  stopped : u.runState p = .stopped

theorem condition_of_pumpPart {s t : State} {p : Pump} (h : pumpPart p t = pumpPart p s) (k : PumpAlarm) :
    t.condition (.pump p k) = s.condition (.pump p k) :=
  congrArg (fun q : ProtectedPump × (PumpAlarm → PointEntry) × RunState => (q.2.1 k).state.present) h

theorem runState_of_pumpPart {s t : State} {p : Pump} (h : pumpPart p t = pumpPart p s) : t.runState p = s.runState p :=
  congrArg (fun q : ProtectedPump × (PumpAlarm → PointEntry) × RunState => q.2.2) h

theorem StartMet.of_part {s u w : State} {p : Pump} (h : StartMet s p u) (part : pumpPart p w = pumpPart p u) : StartMet s p w :=
  ⟨(congrArg Prod.fst part).trans h.ppr, (condition_of_pumpPart part _).trans h.lockout,
    (condition_of_pumpPart part _).trans h.switchFault, fun k a b => (condition_of_pumpPart part k).trans (h.clear k a b),
    (runState_of_pumpPart part).trans h.stopped⟩

/-- A pump left out of the judgement, as one that is not installed (R85, R86). -/
theorem AtStart.unmet {s u : State} {p : Pump} (h : AtStart s p u) (out : s.restart.pumpIn p = false) : StartMet s p u := by
  refine ⟨?_, ?_, ?_, fun k _ _ => h.clear k, h.stopped⟩
  · rw [h.ppr, State.judgedAtStart, out]
    rfl
  · rw [h.clear, out, Bool.false_and]
  · rw [h.clear, mode_of_out _ p out]
    rfl

theorem AtStart.met {s u : State} {p : Pump} (h : AtStart s p u) (installed : s.restart.pumpIn p = true) :
    StartMet s p (u.judgePump p (.stopWatch (some u.uptime))) := by
  have met := met_judgePump u p (.stopWatch (some u.uptime))
  refine ⟨h.judged installed, ?_, ?_, fun k a b => ?_, ?_⟩
  · rw [met.lockout, h.ppr, s.restart_pump, installed]
    cases s.lockedAtStart p <;> rfl
  · rw [met.switchFault, State.mode_congr (h.only .inputs (by decide)) (h.only .cfg (by decide))]
  · rw [(points_judgePump u p _).condition (by simp [a, b])]
    exact h.clear k
  · rw [State.runState, only_judgePump u p _ .dsq (by decide)]
    exact h.stopped

theorem pumpPart_setCondition {s : State} {p : Pump} {a : AlarmPoint} (b : Bool) (other : ∀ k, AlarmPoint.pump p k ≠ a) :
    pumpPart p (s.setCondition a b) = pumpPart p s :=
  (noted_setCondition s a b).pumpPart (by rw [s.ppr_setCondition]) fun k => by simpa using other k

theorem AtStart.setCondition {s u : State} {p : Pump} (h : AtStart s p u) {a : AlarmPoint} (b : Bool)
    (other : ∀ k, AlarmPoint.pump p k ≠ a) : AtStart s p (u.setCondition a b) :=
  ⟨(pumpPart_setCondition b other).trans h.part, h.only.trans ((only_setCondition u a b).mono (by decide))⟩

theorem startMet_judgePumps {s u : State} {p : Pump} (h : AtStart s p u) : StartMet s p u.judgePumps := by
  have only : ∀ v q, OnlyIn [.ppr, .alm] v (v.judgePump q (.stopWatch (some v.uptime))) := fun v q => only_judgePump v q _
  have other : ∀ v q j, j ≠ q → pumpPart j (v.judgePump q (.stopWatch (some v.uptime))) = pumpPart j v :=
    fun v q j ne => pumpPart_judgePump_ne v q j _ ne
  cases installed : s.restart.pumpIn p with
  | false =>
    have absent : p ∉ u.pumpList := by simp [State.pumpList, h.pumpIn, installed]
    exact (h.unmet installed).of_part (State.each_other pumpPart other absent u)
  | true =>
    have present : p ∈ u.pumpList := List.mem_filter.mpr ⟨No4.mem_all p, h.pumpIn.trans installed⟩
    obtain ⟨v, o, same, _, turn⟩ := State.each_turn pumpPart only other (No4.all_nodup.filter _) present u
    exact (AtStart.met ⟨same.trans h.part, h.only.trans (o.mono (by decide))⟩ installed).of_part turn

theorem startMet_judgeStart {s u : State} {p : Pump} (h : AtStart s p u) : StartMet s p u.judgeStart := by
  have floats := (h.setCondition (a := .highHighFloat) u.inputs.floatHighHigh (by simp)).setCondition (a := .lowLowFloat)
    u.inputs.floatLowLow (by simp)
  have met := startMet_judgePumps floats
  rw [State.judgeStart_eq]
  have outputs : ∀ v : State, pumpPart p v.judgeOutputs = pumpPart p v := fun _ => rfl
  refine met.of_part ((outputs _).trans ?_)
  rw [pumpPart_setCondition _ (by simp), pumpPart_setCondition _ (by simp), pumpPart_setCondition _ (by simp)]

theorem only_judgeStart (s : State) : OnlyIn [.ppr, .alm] s s.judgeStart := by
  have one : ∀ (u : State) a b, OnlyIn [.ppr, .alm] u (u.setCondition a b) := fun u a b => (only_setCondition u a b).mono (by decide)
  have pumps : ∀ u : State, OnlyIn [.ppr, .alm] u u.judgePumps := fun u => .each (fun v q => only_judgePump v q _) _ u
  rw [State.judgeStart_eq]
  exact ((((((one s _ _).trans (one _ _ _)).trans (pumps _)).trans (one _ _ _)).trans (one _ _ _)).trans (one _ _ _)).trans
    ((only_judgeOutputs _).mono (by decide))

/-! ### The trips of a start -/

/-- A pump trips as its OVERTEMP timer starts, or stands (R66). -/
def State.dueAtOnce (s : State) (p : Pump) : Bool := s.img.prot.overtempS == 0 && s.faultRun p .overtemp

theorem State.overtempAtOnce_eq (s : State) (p : Pump) :
    s.overtempAtOnce p = if s.dueAtOnce p then s.tripPump p .overtemp else s := by
  unfold State.overtempAtOnce State.expireFault State.dueAtOnce
  by_cases timeless : s.img.prot.overtempS = 0
  · rw [if_pos timeless, timeless]
    rfl
  · rw [if_neg timeless, beq_false_of_ne timeless]
    rfl

theorem StartMet.due {s u : State} {p : Pump} (h : StartMet s p u) (cfg : u.cfg = s.restart.cfg) (time : u.uptime = 0) :
    u.dueAtOnce p = s.tripsHot (s.cfg.stored.getD .defaults) p := by
  have timer : (u.ppr.get p).faults.get .overtemp = if s.hotAtStart p then some 0 else none := by
    rw [h.ppr, State.judgedAtStart]
    cases installed : s.restart.pumpIn p with
    | true => rfl
    | false =>
      rw [if_neg Bool.false_ne_true, s.restart_pump, State.hotAtStart, installed]
      rfl
  have img : u.img = s.cfg.stored.getD .defaults := by rw [State.img, cfg]; rfl
  have hot : s.tripsHot (s.cfg.stored.getD .defaults) p =
      (s.hotAtStart p && (s.cfg.stored.getD .defaults).prot.overtempS == 0) := rfl
  rw [hot, State.dueAtOnce, State.faultRun_eq, timer, time, img, Bool.and_comm]
  cases s.hotAtStart p with
  | false => rfl
  | true =>
    by_cases timeless : (s.cfg.stored.getD .defaults).prot.overtempS = 0
    · simp [ran, timeless, Image.faultSeconds]
    · simp [timeless]

/-- The conditions that a trip shows (R73, R77). -/
theorem recordTrip_conditions (s : State) (p : Pump) (c : FaultCond) (n : Nat) :
    (s.recordTrip p c n).condition (.pump p .trip) = !decide (s.img.prot.lockoutTrips ≤ n) ∧
      (s.recordTrip p c n).condition (.pump p .lockout) =
        (decide (s.img.prot.lockoutTrips ≤ n) || s.condition (.pump p .lockout)) ∧
      ∀ k, k ≠ .trip → k ≠ .lockout → (s.recordTrip p c n).condition (.pump p k) = s.condition (.pump p k) := by
  have raised : ∀ f b g (a : AlarmPoint), a ≠ .pump p .trip →
      (((((s.modProt p f).report .pumps).append b).credit g).setCondition (.pump p .trip) true).condition a = s.condition a :=
    fun f b g a ne => State.condition_setCondition_ne _ _ ne
  have on : ∀ u : State, (u.setCondition (.pump p .trip) true).condition (.pump p .trip) = true := fun u =>
    State.condition_setCondition_self u _ _
  have locked : ∀ u : State, (u.lockOut p).condition (.pump p .trip) = false ∧ (u.lockOut p).condition (.pump p .lockout) = true ∧
      ∀ k, k ≠ .trip → k ≠ .lockout → (u.lockOut p).condition (.pump p k) = u.condition (.pump p k) := fun u => by
    refine ⟨?_, State.condition_setCondition_self _ _ _, fun k a b => ?_⟩
    · rw [State.lockOut, State.condition_setCondition_ne _ _ (by simp)]
      exact State.condition_setCondition_self _ _ _
    · rw [State.lockOut, State.condition_setCondition_ne _ _ (by simpa using b)]
      exact State.condition_setCondition_ne _ _ (by simpa using a)
  unfold State.recordTrip
  dsimp only
  by_cases out : s.img.prot.lockoutTrips ≤ n
  · simp only [out, if_true, decide_true, Bool.not_true, Bool.true_or]
    obtain ⟨trip, lockout, others⟩ := locked _
    exact ⟨trip, lockout, fun k a b => (others k a b).trans (raised _ _ _ _ (by simpa using a))⟩
  · simp only [out, if_false, decide_false, Bool.not_false, Bool.false_or]
    exact ⟨on _, raised _ _ _ _ (by simp), fun k a _ => raised _ _ _ _ (by simpa using a)⟩

/-- A pump as a start leaves it, with its conditions (R86). -/
structure StartedPump (s : State) (p : Pump) (u : State) : Prop where
  ppr : u.ppr.get p = s.pumpAtStart (s.cfg.stored.getD .defaults) p
  trip : u.condition (.pump p .trip) = decide ((u.ppr.get p).protection = .tripped)
  lockout : u.condition (.pump p .lockout) = decide (s.restart.pumpIn p = true ∧ (u.ppr.get p).protection = .lockedOut)
  switchFault : u.condition (.pump p .switchFault) = (s.restart.mode p == some .switchFault)
  clear : ∀ k, k ≠ .trip → k ≠ .lockout → k ≠ .switchFault → u.condition (.pump p k) = false

theorem StartedPump.of_part {s u w : State} {p : Pump} (h : StartedPump s p u) (part : pumpPart p w = pumpPart p u) :
    StartedPump s p w := by
  have ppr : w.ppr.get p = u.ppr.get p := congrArg Prod.fst part
  exact ⟨ppr.trans h.ppr, by rw [ppr, condition_of_pumpPart part]; exact h.trip,
    by rw [ppr, condition_of_pumpPart part]; exact h.lockout,
    (condition_of_pumpPart part _).trans h.switchFault, fun k a b c => (condition_of_pumpPart part k).trans (h.clear k a b c)⟩

theorem State.judgedAtStart_protection (s : State) (p : Pump) :
    (s.judgedAtStart p).protection = if s.lockedAtStart p then .lockedOut else if s.hotAtStart p then .alert else .healthy := by
  rw [State.judgedAtStart, s.restart_pump]
  cases installed : s.restart.pumpIn p <;> cases locked : s.lockedAtStart p <;> cases contact : s.inputs.overtemp.get p <;>
    simp [State.hotAtStart, installed, locked, contact]

theorem State.judgedAtStart_trips (s : State) (p : Pump) :
    (s.judgedAtStart p).trips = s.tripsAtStart (s.cfg.stored.getD .defaults).prot.lockoutTrips p := by
  rw [State.judgedAtStart, s.restart_pump]
  split <;> rfl

/-- A pump that does not trip at the start. -/
theorem StartMet.untripped {s u : State} {p : Pump} (h : StartMet s p u)
    (cool : s.tripsHot (s.cfg.stored.getD .defaults) p = false) : StartedPump s p u := by
  have protection := s.judgedAtStart_protection p
  refine ⟨?_, ?_, ?_, h.switchFault, fun k _ b c => h.clear k b c⟩
  · rw [h.ppr, State.pumpAtStart_eq, if_neg (by rw [cool]; exact Bool.false_ne_true)]
  · rw [h.clear .trip (by decide) (by decide), h.ppr, protection]
    cases s.lockedAtStart p <;> cases s.hotAtStart p <;> rfl
  · rw [h.lockout, h.ppr, protection]
    cases s.restart.pumpIn p <;> cases s.lockedAtStart p <;> cases s.hotAtStart p <;> rfl

/-- A pump that the start trips, and locks out where its counter comes to the limit (R73, R77). -/
theorem StartMet.tripped {s u : State} {p : Pump} (h : StartMet s p u) (cfg : u.cfg = s.restart.cfg) (time : u.uptime = 0)
    (hot : s.tripsHot (s.cfg.stored.getD .defaults) p = true) : StartedPump s p (u.tripPump p .overtemp) := by
  have img : u.img = s.cfg.stored.getD .defaults := by rw [State.img, cfg]; rfl
  have off : u.runCmd p = false := congrArg RunState.commanded h.stopped
  have count : (u.ppr.get p).trips = s.tripsAtStart (s.cfg.stored.getD .defaults).prot.lockoutTrips p := by
    rw [h.ppr, s.judgedAtStart_trips]
  have here : s.hotAtStart p = true := ((Bool.and_eq_true _ _).mp hot).1
  have installed : s.restart.pumpIn p = true := by
    rw [State.hotAtStart, Bool.and_assoc] at here
    exact ((Bool.and_eq_true _ _).mp here).1
  have unlocked : s.lockedAtStart p = false := by
    rw [State.hotAtStart, installed] at here
    simpa using ((Bool.and_eq_true _ _).mp here).1
  rw [tripPump_eq, off, if_neg Bool.false_ne_true, count]
  obtain ⟨trip, lockout, others⟩ :=
    recordTrip_conditions u p .overtemp (s.tripsAtStart (s.cfg.stored.getD .defaults).prot.lockoutTrips p + 1)
  have ppr : (u.recordTrip p .overtemp (s.tripsAtStart (s.cfg.stored.getD .defaults).prot.lockoutTrips p + 1)).ppr.get p =
      (s.judgedAtStart p).tripped .overtemp (s.tripsAtStart (s.cfg.stored.getD .defaults).prot.lockoutTrips p + 1) 0
        (s.cfg.stored.getD .defaults).prot.lockoutTrips := by
    rw [State.recordTrip_ppr, Quad.get_modify_self, h.ppr, time, img]
  rw [img] at trip lockout
  refine ⟨?_, ?_, ?_, (others _ (by decide) (by decide)).trans h.switchFault, fun k a b c => (others k a b).trans (h.clear k b c)⟩
  · rw [ppr, State.pumpAtStart_eq, if_pos hot]
  · rw [trip, ppr, ProtectedPump.tripped]
    by_cases out : (s.cfg.stored.getD .defaults).prot.lockoutTrips ≤
        s.tripsAtStart (s.cfg.stored.getD .defaults).prot.lockoutTrips p + 1 <;> simp [out]
  · rw [lockout, ppr, ProtectedPump.tripped, h.lockout, installed, unlocked]
    by_cases out : (s.cfg.stored.getD .defaults).prot.lockoutTrips ≤
        s.tripsAtStart (s.cfg.stored.getD .defaults).prot.lockoutTrips p + 1 <;> simp [out]

/-- What the judgement of a start and its trips make of each pump. -/
theorem startedPump_trips {s u : State} (met : ∀ p, StartMet s p u) (only : OnlyIn [.marker, .ppr, .alm, .src] s.restart u) (p : Pump) :
    StartedPump s p (u.each u.pumpList State.overtempAtOnce) := by
  have pumps : u.pumpIn p = s.restart.pumpIn p :=
    State.pumpIn_congr (only .inputs (by decide)) (only .cfg (by decide)) p
  cases installed : s.restart.pumpIn p with
  | false =>
    have absent : p ∉ u.pumpList := by simp [State.pumpList, pumps, installed]
    have cool : s.tripsHot (s.cfg.stored.getD .defaults) p = false := by
      rw [show s.tripsHot (s.cfg.stored.getD .defaults) p = (s.hotAtStart p && _) from rfl, State.hotAtStart, installed]
      rfl
    exact ((met p).untripped cool).of_part (State.each_other pumpPart pumpPart_overtempAtOnce_ne absent u)
  | true =>
    have present : p ∈ u.pumpList := List.mem_filter.mpr ⟨No4.mem_all p, pumps.trans installed⟩
    obtain ⟨v, o, same, _, turn⟩ :=
      State.each_turn pumpPart only_overtempAtOnce pumpPart_overtempAtOnce_ne (No4.all_nodup.filter _) present u
    have here : StartMet s p v := (met p).of_part same
    have cfg : v.cfg = s.restart.cfg := (o .cfg (by decide)).trans (only .cfg (by decide))
    have time : v.uptime = 0 := (o .uptime (by decide)).trans (only .uptime (by decide))
    refine StartedPump.of_part ?_ turn
    rw [State.overtempAtOnce_eq, here.due cfg time]
    cases hot : s.tripsHot (s.cfg.stored.getD .defaults) p with
    | false => exact here.untripped hot
    | true => exact here.tripped cfg time hot

end Sys2Proof.Machine
end

section
/-! START as a whole: protection, queue, log and day, cold and warm (R54, R66, R77, R79, R86, R125, R157, R158, R168, R169, R190):
O51. -/

namespace Sys2Proof.Machine

/-! ### The records and the credits of the trips -/

/-- Of the Station Record but its log a trip credits one trip (R73). -/
theorem State.recordTrip_dayPart (s : State) (p : Pump) (c : FaultCond) (n : Nat) :
    (s.recordTrip p c n).src.dayPart = ({ s.src with acc := s.src.acc.addTrip p } : StationRecord).dayPart := by
  have tripped : ∀ f b, ((((((s.modProt p f).report .pumps).append b).credit (·.addTrip p)).setCondition (.pump p .trip) true).src.dayPart) =
      ({ s.src with acc := s.src.acc.addTrip p } : StationRecord).dayPart := fun f b => by
    rw [only_setCondition _ _ _ .src (by decide)]
    have kept := ((s.modProt p f).report .pumps).append_dayPart b
    exact congrArg (fun r : StationRecord => { r with acc := r.acc.addTrip p }) kept
  have locked : ∀ u : State, (u.lockOut p).src.dayPart = u.src.dayPart := fun u => by
    rw [State.lockOut, only_setCondition _ _ _ .src (by decide), State.append_dayPart, only_setCondition _ _ _ .src (by decide)]
    rfl
  unfold State.recordTrip
  dsimp only
  split
  · exact (locked _).trans (tripped _ _)
  · exact tripped _ _

theorem State.tripPump_dayPart (s : State) (p : Pump) (c : FaultCond) :
    (s.tripPump p c).src.dayPart = ({ s.src with acc := s.src.acc.addTrip p } : StationRecord).dayPart := by
  have src : (if s.runCmd p then s.dropPump p else s).src = s.src := OnlyIn.when _ (only_dropPump s p) .src (by decide)
  rw [tripPump_eq, State.recordTrip_dayPart, src]

/-- The Station Record without its log and without its figures of the pumps. -/
def StationRecord.unpumped (r : StationRecord) : StationRecord :=
  { r.dayPart with acc := { r.acc with pumps := Accumulators.zero.pumps } }

/-- What reads neither the log nor the pumps' figures is read from the rest. -/
theorem StationRecord.of_unpumped {α : Type} {r q : StationRecord} (f : StationRecord → α) (ignores : ∀ r, f r.unpumped = f r)
    (h : r.unpumped = q.unpumped) : f r = f q := by rw [← ignores, h, ignores]

theorem State.overtempAtOnce_unpumped (s : State) (p : Pump) : (s.overtempAtOnce p).src.unpumped = s.src.unpumped := by
  rw [State.overtempAtOnce_eq]
  split
  · exact (StationRecord.of_dayPart (·.unpumped) (fun _ => rfl) (s.tripPump_dayPart p .overtemp)).trans rfl
  · rfl

theorem State.tripPump_acc (s : State) (p : Pump) (c : FaultCond) : (s.tripPump p c).src.acc = s.src.acc.addTrip p :=
  StationRecord.of_dayPart (·.acc) (fun _ => rfl) (s.tripPump_dayPart p c)

theorem State.overtempAtOnce_figures_ne (s : State) (p q : Pump) (h : q ≠ p) :
    (s.overtempAtOnce p).src.acc.pumps.get q = s.src.acc.pumps.get q := by
  rw [State.overtempAtOnce_eq]
  split
  · rw [s.tripPump_acc]
    exact Quad.get_modify_ne _ _ h
  · rfl

theorem State.overtempAtOnce_due (s : State) {p q : Pump} (h : q ≠ p) : (s.overtempAtOnce p).dueAtOnce q = s.dueAtOnce q := by
  have only := only_overtempAtOnce s p
  rw [State.dueAtOnce, State.dueAtOnce, State.faultRun_eq, State.faultRun_eq, (s.overtempAtOnce_other h).1, State.img, State.img,
    only .cfg (by decide), only .uptime (by decide)]

/-- The trips of pumps met one after another are recorded in that order (R73, R77). -/
theorem records_overtempAll (ps : List Pump) (nodup : ps.Nodup) (s : State) :
    Records ((ps.filter s.dueAtOnce).flatMap fun p => tripBodies s.img.prot.lockoutTrips p .overtemp ((s.ppr.get p).trips + 1)) s
      (s.each ps State.overtempAtOnce) := by
  induction ps generalizing s with
  | nil => exact .refl s
  | cons p rest ih =>
    obtain ⟨fresh, nodup⟩ := List.nodup_cons.mp nodup
    have later := ih nodup (s.overtempAtOnce p)
    have img : (s.overtempAtOnce p).img = s.img := by rw [State.img, State.img, only_overtempAtOnce s p .cfg (by decide)]
    have others : ∀ q ∈ rest, q ≠ p := fun q mem e => fresh (e ▸ mem)
    have same : ((rest.filter (s.overtempAtOnce p).dueAtOnce).flatMap fun q =>
          tripBodies (s.overtempAtOnce p).img.prot.lockoutTrips q .overtemp (((s.overtempAtOnce p).ppr.get q).trips + 1)) =
        (rest.filter s.dueAtOnce).flatMap fun q => tripBodies s.img.prot.lockoutTrips q .overtemp ((s.ppr.get q).trips + 1) := by
      rw [img, List.filter_congr fun q mem => s.overtempAtOnce_due (others q mem)]
      refine List.flatMap_congr fun q mem => ?_
      rw [(s.overtempAtOnce_other (others q (List.mem_filter.mp mem).1)).1]
    rw [same] at later
    rw [List.filter_cons]
    cases due : s.dueAtOnce p with
    | true =>
      have tripped : s.overtempAtOnce p = s.tripPump p .overtemp := by rw [State.overtempAtOnce_eq, due, if_pos rfl]
      rw [if_pos rfl, List.flatMap_cons]
      have first := records_tripPump s p .overtemp
      rw [← tripped] at first
      exact first.trans later
    | false =>
      have still : s.overtempAtOnce p = s := by rw [State.overtempAtOnce_eq, due, if_neg Bool.false_ne_true]
      rw [if_neg Bool.false_ne_true]
      rw [still] at later
      show Records _ s ((s.overtempAtOnce p).each rest State.overtempAtOnce)
      rw [still]
      exact later

/-- Each pump that trips is credited one trip, and no other (R73, R164). -/
theorem figures_overtempAll {ps : List Pump} (nodup : ps.Nodup) (s : State) {p : Pump} (mem : p ∈ ps) :
    (s.each ps State.overtempAtOnce).src.acc.pumps.get p =
      { s.src.acc.pumps.get p with
        trips := if s.dueAtOnce p then min ((s.src.acc.pumps.get p).trips + 1) max32 else (s.src.acc.pumps.get p).trips } := by
  obtain ⟨u, o, same, _, turn⟩ := State.each_turn (f := State.overtempAtOnce) (fun q u => (u.ppr.get q, u.src.acc.pumps.get q))
    only_overtempAtOnce (fun u q j ne => Prod.ext (u.overtempAtOnce_other ne).1 (u.overtempAtOnce_figures_ne q j ne)) nodup mem s
  obtain ⟨ppr, figures⟩ := Prod.ext_iff.mp same
  have due : u.dueAtOnce p = s.dueAtOnce p := by
    rw [State.dueAtOnce, State.dueAtOnce, State.faultRun_eq, State.faultRun_eq, State.img, State.img, o .cfg (by decide),
      o .uptime (by decide), show u.ppr.get p = s.ppr.get p from ppr]
  refine (congrArg Prod.snd turn).trans ?_
  show (u.overtempAtOnce p).src.acc.pumps.get p = _
  rw [← show u.src.acc.pumps.get p = s.src.acc.pumps.get p from figures, State.overtempAtOnce_eq, due]
  cases s.dueAtOnce p with
  | true =>
    rw [if_pos rfl, State.tripPump_acc]
    exact Quad.get_modify_self _ _ _
  | false => rfl

/-! ### The stages of a start -/

/-- The state in which a start judges the pumps: its records made but for the trips (R190). -/
def State.begun (s : State) : State := { s.restart.recordStart s.marker s.ovm with marker := true }

theorem State.startUp_eq (s : State) (held : s.isHeld = true) :
    s.startUp =
      (s.begun.judgeStart.each s.begun.judgeStart.pumpList State.overtempAtOnce).formQueue (if s.marker then s.dsq.queue else []) := by
  have hold : s.hold = s := by simp only [State.hold, held, if_true]
  rw [State.startUp, hold]
  rfl

theorem only_begun (s : State) : OnlyIn [.marker, .alm, .src] s.restart s.begun :=
  ((recordStart_effect s).2.2.mono (by decide)).trans ((only_marker _ true).mono (by decide))

theorem atStart_begun (s : State) (p : Pump) : AtStart s p s.begun := by
  have only := only_begun s
  have points := (noted_recordStart (A := ∅) s.restart s.marker s.ovm s.restart_shut).points
  exact ⟨pumpPart_eq (by rw [only .ppr (by decide)]) (fun k => points _ (Set.notMem_empty _))
    (by rw [State.runState, State.runState, only .dsq (by decide)]), only.mono (by decide)⟩

/-- The date of the day that a start closes into, where one is owed (R169). -/
def State.startOwed (s : State) : Option Date := if s.marker then s.restart.owedDate else none

/-- What a start leaves, but for the queue that it forms last. -/
structure Begins (s u : State) : Prop where
  only : OnlyIn [.marker, .ppr, .alm, .src] s.restart u
  pump : ∀ p, StartedPump s p u
  records : Records (s.startBodies ++ s.hotTrips (s.cfg.stored.getD .defaults)) s.restart u
  day : u.src.unpumped = (s.restart.src.afterDay s.startOwed).unpumped
  figures : ∀ p, u.src.acc.pumps.get p =
    { (s.restart.src.afterDay s.startOwed).acc.pumps.get p with
      trips :=
        if s.tripsHot (s.cfg.stored.getD .defaults) p then
          min (((s.restart.src.afterDay s.startOwed).acc.pumps.get p).trips + 1) max32
        else ((s.restart.src.afterDay s.startOwed).acc.pumps.get p).trips }

theorem StationRecord.afterDay_dayPart (r : StationRecord) (owed : Option Date) :
    r.dayPart.afterDay owed = (r.afterDay owed).dayPart := by cases owed <;> rfl

theorem StationRecord.afterDay_acc (r : StationRecord) (owed : Option Date) :
    (r.afterDay owed).acc = if owed.isSome then .zero else r.acc := by cases owed <;> rfl

theorem State.tripsHot_installed {s : State} {p : Pump} (hot : s.tripsHot (s.cfg.stored.getD .defaults) p = true) :
    s.restart.pumpIn p = true := by
  have here : s.hotAtStart p = true := ((Bool.and_eq_true _ _).mp hot).1
  rw [State.hotAtStart, Bool.and_assoc] at here
  exact ((Bool.and_eq_true _ _).mp here).1

theorem begins_trips (s : State) : Begins s (s.begun.judgeStart.each s.begun.judgeStart.pumpList State.overtempAtOnce) := by
  obtain ⟨records, day, _⟩ := recordStart_effect s
  have judged := only_judgeStart s.begun
  have met := fun p => startMet_judgeStart (atStart_begun s p)
  have src : s.begun.judgeStart.src.dayPart = (s.restart.src.afterDay s.startOwed).dayPart := by
    rw [judged .src (by decide), ← StationRecord.afterDay_dayPart]
    exact day
  have begun : Records s.startBodies s.restart s.begun.judgeStart := by
    have marked := records.trans (.of_only (only_marker _ true) (by decide) (by decide))
    simpa using marked.trans (.of_only judged (by decide) (by decide))
  have only : OnlyIn [.marker, .ppr, .alm, .src] s.restart s.begun.judgeStart :=
    ((only_begun s).mono (by decide)).trans (judged.mono (by decide))
  generalize s.begun.judgeStart = u at *
  have cfg : u.cfg = s.restart.cfg := only .cfg (by decide)
  have due : ∀ p, u.dueAtOnce p = s.tripsHot (s.cfg.stored.getD .defaults) p := fun p => (met p).due cfg (only .uptime (by decide))
  have installed : ∀ p, u.pumpIn p = s.restart.pumpIn p := State.pumpIn_congr (only .inputs (by decide)) cfg
  have img : u.img = s.cfg.stored.getD .defaults := by rw [State.img, cfg]; rfl
  have trips := records_overtempAll u.pumpList (No4.all_nodup.filter _) u
  have figures : ∀ p, u.src.acc.pumps.get p = (s.restart.src.afterDay s.startOwed).acc.pumps.get p := fun p =>
    StationRecord.of_dayPart (·.acc.pumps.get p) (fun _ => rfl) src
  refine ⟨?_, startedPump_trips met only, ?_, ?_, fun p => ?_⟩
  · have off : ∀ p, u.runCmd p = false := fun p => congrArg RunState.commanded (met p).stopped
    exact only.trans ((noted_overtempAll_off u u.pumpList off).only.mono (by decide))
  · have listed : u.pumpList.filter u.dueAtOnce = No4.all.filter (s.tripsHot (s.cfg.stored.getD .defaults)) := by
      rw [State.pumpList, List.filter_filter]
      refine List.filter_congr fun p _ => ?_
      rw [due, installed]
      cases hot : s.tripsHot (s.cfg.stored.getD .defaults) p with
      | true => rw [State.tripsHot_installed hot]; rfl
      | false => rfl
    rw [listed, img] at trips
    simp only [fun p => (met p).ppr, s.judgedAtStart_trips] at trips
    exact begun.trans trips
  · refine (State.each_keeps State.overtempAtOnce (·.src.unpumped) State.overtempAtOnce_unpumped _ u).trans ?_
    exact StationRecord.of_dayPart (·.unpumped) (fun _ => rfl) src
  · rw [← figures, ← due]
    cases here : s.restart.pumpIn p with
    | true => exact figures_overtempAll (No4.all_nodup.filter _) u (List.mem_filter.mpr ⟨No4.mem_all p, (installed p).trans here⟩)
    | false =>
      have absent : p ∉ u.pumpList := by simp [State.pumpList, installed, here]
      have cool : u.dueAtOnce p = false := by
        rw [due]
        refine Bool.eq_false_iff.mpr fun hot => ?_
        rw [State.tripsHot_installed hot] at here
        cases here
      rw [cool]
      exact State.each_other (fun q u => u.src.acc.pumps.get q) State.overtempAtOnce_figures_ne absent u

/-! ### The log and the day after a start -/

/-- The log that a start takes over stands at its counter, with room for twelve numbers. -/
theorem restart_logAt (s : State) (room : s.marker = true → LogOk s.src ∧ s.src.newest + 12 ≤ max32) :
    LogAt s.restart.src.nextSeq s.restart.src ∧ s.restart.src.nextSeq + 12 ≤ max32 + 1 := by
  cases warm : s.marker with
  | false =>
    have cold : s.restart.src = .cold := by simp [State.restart, warm]
    rw [cold]
    exact ⟨logAt_cold, by decide⟩
  | true =>
    have kept : s.restart.src = s.src := by simp [State.restart, warm]
    obtain ⟨ok, twelve⟩ := room warm
    have at_next := ok.logAt (by omega)
    rw [kept, at_next.nextSeq (by omega)]
    exact ⟨at_next, by omega⟩

theorem length_startBodies (s : State) : s.startBodies.length ≤ 4 := by
  have lost : (No2.all.filterMap (lostRecord s.ovm s.restart.now)).length ≤ 2 := List.length_filterMap_le _ _
  have summary : s.restart.owedSummary.length ≤ 1 := by
    unfold State.owedSummary
    split <;> simp
  rw [State.startBodies, List.length_cons]
  split
  · rw [List.length_append]
    omega
  · simp

theorem length_hotTrips (s : State) (m : Image) : (s.hotTrips m).length ≤ 8 := by
  have each : ∀ ps : List Pump, (ps.flatMap fun p =>
      tripBodies m.prot.lockoutTrips p .overtemp (s.tripsAtStart m.prot.lockoutTrips p + 1)).length ≤ 2 * ps.length := fun ps => by
    induction ps with
    | nil => simp
    | cons p rest ih =>
      have one : (tripBodies m.prot.lockoutTrips p .overtemp (s.tripsAtStart m.prot.lockoutTrips p + 1)).length ≤ 2 := by
        unfold tripBodies
        split <;> simp
      rw [List.flatMap_cons, List.length_append, List.length_cons]
      omega
  have few : (No4.all.filter (s.tripsHot m)).length ≤ 4 := List.length_filter_le _ _
  exact (each (No4.all.filter (s.tripsHot m))).trans (Nat.mul_le_mul_left 2 few)

theorem State.startBodies_ne_nil (s : State) (bs : List RecordBody) : 0 < (s.startBodies ++ bs).length := by
  rw [List.length_append, State.startBodies, List.length_cons]
  omega

section
variable {s u : State} (h : Begins s u) (room : s.marker = true → LogOk s.src ∧ s.src.newest + 12 ≤ max32)
include h room

theorem Begins.log :
    let bodies := s.startBodies ++ s.hotTrips (s.cfg.stored.getD .defaults)
    u.src.log = lastRecords (s.restart.src.log ++ numbered s.restart.now s.restart.src.nextSeq bodies) ∧
      u.src.nextSeq = followingSeq (s.restart.src.nextSeq + bodies.length - 1) ∧
      ∀ l, u.src.cursors.get l = max (s.restart.src.cursors.get l) u.src.oldest := by
  intro bodies
  obtain ⟨at_next, twelve⟩ := restart_logAt s room
  have count : bodies.length ≤ 12 := by
    have a := length_startBodies s
    have b := length_hotTrips s (s.cfg.stored.getD .defaults)
    rw [List.length_append]
    omega
  obtain ⟨at_end, log, cursors⟩ := logAt_appendAll at_next.logPart s.restart.now bodies (by omega)
  rw [← h.records.log] at at_end log cursors
  have some_record : u.src.log ≠ [] := by
    have some : 0 < bodies.length := s.startBodies_ne_nil _
    have here : u.src.log = lastRecords (s.restart.src.log ++ numbered s.restart.now s.restart.src.nextSeq bodies) := log
    rw [here, ← List.length_pos_iff, lastRecords, List.length_drop, List.length_append, length_numbered]
    omega
  have oldest : u.src.oldest = s.restart.src.nextSeq + bodies.length - u.src.log.length := at_end.oldest some_record
  exact ⟨log, at_end.next, fun l => (cursors l).trans (by rw [oldest]; rfl)⟩

end

/-- What the day in progress is after a start (R169). -/
theorem Begins.day_parts {s u : State} (h : Begins s u) :
    u.src.clock = s.restart.src.clock ∧ u.src.clockPhase = s.restart.src.clockPhase ∧
      u.src.day = (match s.startOwed with
        | some d => some d
        | none => s.restart.src.day) ∧
      u.src.clockChanged = (s.restart.src.clockChanged && s.startOwed.isNone) ∧
      u.src.acc = { (if s.startOwed.isSome then .zero else s.restart.src.acc) with pumps := u.src.acc.pumps } := by
  have day := h.day
  have clock : u.src.clock = (s.restart.src.afterDay s.startOwed).clock := StationRecord.of_unpumped (·.clock) (fun _ => rfl) day
  have phase : u.src.clockPhase = (s.restart.src.afterDay s.startOwed).clockPhase :=
    StationRecord.of_unpumped (·.clockPhase) (fun _ => rfl) day
  have date : u.src.day = (s.restart.src.afterDay s.startOwed).day := StationRecord.of_unpumped (·.day) (fun _ => rfl) day
  have changed : u.src.clockChanged = (s.restart.src.afterDay s.startOwed).clockChanged :=
    StationRecord.of_unpumped (·.clockChanged) (fun _ => rfl) day
  have acc : u.src.acc = { (s.restart.src.afterDay s.startOwed).acc with pumps := u.src.acc.pumps } :=
    StationRecord.of_unpumped (fun r => { r.acc with pumps := u.src.acc.pumps }) (fun _ => rfl) day
  rw [clock, phase, date, changed]
  refine ⟨?_, ?_, ?_, ?_, acc.trans ?_⟩
  all_goals cases s.startOwed <;> simp [StationRecord.afterDay]

/-- The queue of a start holds the members, those of the kept order first (R54). -/
theorem formQueue_queue (s : State) (kept : List Pump) :
    (s.formQueue kept).dsq.queue =
      kept.filter s.member ++ No4.all.filter (fun p => s.member p && !kept.contains p) := by
  unfold State.formQueue
  dsimp only
  congr 1
  refine List.filter_congr fun p _ => ?_
  cases member : s.member p <;> simp [member]

theorem startOwed_eq (s : State) :
    (match s.restart.src.clock with
      | some r => if s.marker = true ∧ s.restart.src.day ≠ some r.date then some r.date else none
      | none => none) = s.startOwed := by
  unfold State.startOwed State.owedDate
  cases s.restart.src.clock with
  | none => cases s.marker <;> rfl
  | some r =>
    by_cases same : s.restart.src.day = some r.date <;> cases s.marker <;> simp [same]

theorem restart_now (s : State) :
    (match s.restart.src.clock with
      | some r => .clock r
      | none => .uptime 0) = s.restart.now := by
  have zero : s.restart.upSeconds = 0 := by simp [State.upSeconds, State.restart]
  cases clock : s.restart.src.clock with
  | none => simp only [State.now, clock, zero]
  | some r => simp only [State.now, clock]

theorem startBodies_eq (s t : State) (cfg : t.cfg = s.restart.cfg) :
    s.startBodies =
      .power s.marker s.inputs.onGenerator :: (if s.marker then s.closings s.restart.now else []) ++
        (match s.startOwed with
          | some d => [RecordBody.dailySummary (({ t with src := s.restart.src } : State).summary (s.restart.src.day.getD d))]
          | none => []) := by
  have summary : ∀ d, ({ t with src := s.restart.src } : State).summary d = s.restart.summary d := fun d =>
    State.summary_congr (s := s.restart) (t := { t with src := s.restart.src }) cfg rfl d
  unfold State.startBodies State.startOwed State.owedSummary
  simp only [summary]
  cases s.marker with
  | false => rfl
  | true =>
    have closings : No2.all.filterMap (lostRecord s.ovm s.restart.now) = s.closings s.restart.now := rfl
    rw [closings]
    rfl

/-- Settles O51: the stages of a start, each by what it makes of a pump, of the log and of the day. -/
theorem coldAndWarmStart : Obligations.ColdAndWarmStart := by
  intro s held room
  have begins := begins_trips s
  have formed := s.startUp_eq held
  generalize s.begun.judgeStart.each s.begun.judgeStart.pumpList State.overtempAtOnce = u at *
  refine ⟨u.formQueue (if s.marker then s.dsq.queue else []), congrArg Host.Outcome.next formed, ?_⟩
  beta_reduce
  intro m kept now owed summary bodies log figures queue
  have owed_eq : owed = s.startOwed := startOwed_eq s
  have now_eq : now = s.restart.now := restart_now s
  have bodies_eq : bodies = s.startBodies ++ s.hotTrips m := by
    rw [startBodies_eq s (u.formQueue queue) (begins.only .cfg (by decide)), ← now_eq, ← owed_eq]
    rfl
  obtain ⟨log_eq, next, cursors⟩ := begins.log room
  obtain ⟨clock, phase, day, changed, acc⟩ := begins.day_parts
  rw [← now_eq, ← bodies_eq] at log_eq
  rw [← bodies_eq] at next
  rw [← owed_eq] at day changed acc
  have figures_eq : (s.restart.src.afterDay s.startOwed).acc = figures := by
    rw [StationRecord.afterDay_acc, ← owed_eq]
    rfl
  have mode : ∀ p, u.mode p = s.restart.mode p := State.mode_congr (begins.only .inputs (by decide)) (begins.only .cfg (by decide))
  have installed : ∀ p, u.pumpIn p = s.restart.pumpIn p :=
    State.pumpIn_congr (begins.only .inputs (by decide)) (begins.only .cfg (by decide))
  refine ⟨fun p => ?_, formQueue_queue u queue, log_eq, next, cursors, clock, phase, day, changed, acc, fun p => ?_⟩
  · obtain ⟨ppr, trip, lockout, switchFault, clear⟩ := begins.pump p
    rw [← installed] at lockout
    rw [← mode] at switchFault
    refine ⟨ppr, trip, lockout, switchFault.trans ?_, clear .sealLeak (by decide) (by decide) (by decide),
      clear .runMismatch (by decide) (by decide) (by decide)⟩
    rw [Bool.eq_iff_iff, beq_iff_eq, decide_eq_true_iff]
    rfl
  · have own := begins.figures p
    rw [figures_eq] at own
    exact own

end Sys2Proof.Machine
end
